-- ==== Sys2Proof/Word.lean ====
section
/-! DEFINITION. The word types of the FT-620: what the manual treats as counters that wrap. -/

namespace Sys2Proof

/-- An 8-bit value: a byte of a frame, or a counter that wraps from 255 to 0 (R1). -/
abbrev Byte := BitVec 8

/-- A 16-bit value: a counter that wraps from 65535 to 0 (R24, R34, R177), the house-table
signature (R179) and the CRC-16 (R19). -/
abbrev Half := BitVec 16

end Sys2Proof
end

