-- ==== Sys2Proof/Syntax.lean ====
section
/-! DEFINITION. The commands of the FT-620, one constructor of `Instr` for each row of
spec/opcode_table.json, with the operands a command carries. The names of operands follow the manual. -/

namespace Sys2Proof

/-- The two house lines (R18). -/
inductive Line where
  | a | b
  deriving DecidableEq, Repr

/-- The four field bays (R158). -/
inductive Bay where
  | b1 | b2 | b3 | b4
  deriving DecidableEq, Repr

/-- One value for each house line. -/
structure PerLine (α : Type) where
  a : α
  b : α
  deriving DecidableEq, Repr

/-- One value for each field bay. -/
structure PerBay (α : Type) where
  b1 : α
  b2 : α
  b3 : α
  b4 : α
  deriving DecidableEq, Repr

/-- The five performance phases (R2). -/
inductive Phase where
  | closed | houseOpen | performance | interval | houseClearing
  deriving DecidableEq, Repr

/-- The marks of the interval timer, 300, 180 and 60 seconds (R13). -/
inductive IntervalMark where
  | m300 | m180 | m60
  deriving DecidableEq, Repr

/-- The role set of a station (chapter 0, R17). -/
structure RoleSet where
  curtain : Bool := false
  detect : Bool := false
  lights : Bool := false
  calls : Bool := false
  desk : Bool := false
  deriving DecidableEq, Repr

/-- The authority set of a desk station (chapter 0, R17). -/
structure AuthoritySet where
  phase : Bool := false
  ack : Bool := false
  reset : Bool := false
  curtain : Bool := false
  effects : Bool := false
  lights : Bool := false
  calls : Bool := false
  deriving DecidableEq, Repr

/-- The detector types (R51). -/
inductive DetectorType where
  | smoke | heat | manual
  deriving DecidableEq, Repr

/-- One used position of the detector map (R51). A type of `none` is a code that names no type, which the
validation of R179 refuses. -/
structure DetectorSetting where
  zone : Nat
  type : Option DetectorType
  deriving DecidableEq, Repr

/-- The zone modes (R51). -/
inductive ZoneMode where
  | twoStage | direct
  deriving DecidableEq, Repr

/-- One row of the zone table (R51). -/
structure ZoneRow where
  station : Nat
  mode : ZoneMode
  curtain : Bool
  inhibitable : Bool
  deriving DecidableEq, Repr

/-- One row of the FOH zone table (R144). -/
structure FohRow where
  station : Nat
  adjacent : Bool
  staff : Bool
  deriving DecidableEq, Repr

/-- The level and fade of one phase of a light group (R128). -/
structure PhasePreset where
  level : Nat
  fade : Nat
  deriving DecidableEq, Repr

/-- One row of the light group table (R128). -/
structure GroupRow where
  auditorium : Bool
  closed : PhasePreset
  houseOpen : PhasePreset
  performance : PhasePreset
  interval : PhasePreset
  houseClearing : PhasePreset
  deriving DecidableEq, Repr

/-- The house message table (R144). -/
structure HouseMessages where
  houseOpen : Nat
  performanceStart : Nat
  intervalStart : Nat
  bell5 : Nat
  bell3 : Nat
  bell1 : Nat
  staffAlert : Nat
  evacuation : Nat
  deriving DecidableEq, Repr

/-- The detection thresholds (R52). -/
structure Thresholds where
  prealarm : Nat
  alarm : Nat
  dwell : Nat
  effectsOffset : Nat
  deriving DecidableEq, Repr

/-- The curtain geometry, limits and proof period (chapter 7.1, R109): H, S in mm, Vmain and Vslow in mm/s,
Tmax and the proof period in s. -/
structure CurtainSettings where
  height : Nat
  slowBoundary : Nat
  mainLimit : Nat
  slowLimit : Nat
  descentLimit : Nat
  proofPeriod : Nat
  deriving DecidableEq, Repr

/-- The configuration image (R178), by its named contents: the manual gives its parts and no byte layout.
The maps are lists in ascending order of bay and then of position, channel or output. -/
structure ConfigImage where
  station : Nat
  roles : RoleSet
  authorities : AuthoritySet
  detectorMap : PerBay (List (Option DetectorSetting))
  thresholds : Thresholds
  ackTime : Nat
  investigationTime : Nat
  curtain : CurtainSettings
  channelMap : PerBay (List (Option Nat))
  outputMap : PerBay (List (Option Nat))
  messages : HouseMessages
  zoneTable : List ZoneRow
  fohTable : List FohRow
  lightTable : List GroupRow
  holdLevel : Nat
  deriving DecidableEq, Repr

/-- What the configuration memory gives to the one read of a cold start (R178): no answer, or the bytes from its first
byte on, with the settings that the image's bytes between its length and its CRC spell (log entry 6). -/
inductive ConfigMemory where
  | noAnswer
  | bytes (contents : List Byte) (settings : ConfigImage)
  deriving DecidableEq, Repr

/-- How many presence lines of a bay are made (R158). -/
inductive Presence where
  | none | one | both
  deriving DecidableEq, Repr

/-- The four field module types (R158). -/
inductive ModuleType where
  | loop | drive | dimmer | call
  deriving DecidableEq, Repr

/-- The three switched supplies of a bay (R158). -/
inductive Supply where
  | logic | loop | field
  deriving DecidableEq, Repr

/-- The inputs that a DRIVE module answers with (R167). A reading of `none` is the statement no reading. -/
structure DriveInputs where
  reading : Option Nat
  topClosed : Bool
  bottomClosed : Bool
  beamBroken : Bool
  buttonPressed : Bool
  deriving DecidableEq, Repr

/-- The kinds of curtain demand (R99). -/
inductive DemandKind where
  | raise | lower | stop | test | drop
  deriving DecidableEq, Repr

/-- The kinds of light claim (R129). -/
inductive ClaimKind where
  | preset | floor | cap
  deriving DecidableEq, Repr

/-- What EFFECTS CLOSE names (R66). -/
inductive WindowSelection where
  | all
  | zones (zones : List Nat)
  deriving DecidableEq, Repr

/-- What LIGHT CLAIM CLEAR names (R130). -/
inductive SlotSelection where
  | all
  | slot (slot : Nat)
  deriving DecidableEq, Repr

/-- The index of an incident log entry record (R173). -/
inductive LogIndex where
  | position (position : Nat)
  | nextUnread
  deriving DecidableEq, Repr

/-- The record kinds of READ RECORD with their index (R173). -/
inductive RecordName where
  | ownStatus (index : Nat)
  | peer (station : Nat)
  | mergedZone (zone : Nat)
  | alarmOrder (position : Nat)
  | snapshot (index : Nat)
  | curtainSection (index : Nat)
  | traceSample (index : Nat)
  | lightGroup (group : Nat)
  | callQueue (position : Nat)
  | bay (bay : Nat)
  | faultList (position : Nat)
  | incidentLog (index : LogIndex)
  | counters (index : Nat)
  | unknown
  deriving DecidableEq, Repr

/-- The steps that a start passes through, in their order (R185). -/
inductive StartStep where
  | kindDecided | imageValidated | countFixed | recordsSet | startLogged | valuesTaken
  deriving DecidableEq, Repr

/-- What a start meets as it goes on: the presence lines as its step 6 finds them (R169), and the step that it has made
last when the next command comes, none where it has completed by then (R182, R185; log entry 92). -/
structure StartCourse where
  presence : PerBay Presence
  reached : Option StartStep
  deriving DecidableEq, Repr

/-- The commands of the FT-620: the operations and events of spec/opcode_table.json, one constructor for each row.
`curtainUnknown`, a CURTAIN request that names an unknown demand kind (R99, R172), is the other form of UNKNOWN_REQUEST
(log entry 61). The three events that begin a start name the step of R185 that the start has made last when the next
command comes; none where it has completed by then (log entry 92). -/
inductive Instr where
  | frameReceived (line : Line) (frame : List Byte)
  | arbitrationLost (line : Line)
  | frameSent (line : Line)
  | lineSilenceTimeout (line : Line)
  | composeSpacingExpiry
  | routineComposition
  | duplicateStationCleared
  | peerSilent (station : Nat)
  | endOfJoining
  | nodeTimeIncrement
  | intervalMark (mark : IntervalMark)
  | intervalTimerExpiry
  | loopSample (bay : Bay) (readings : Vector Byte 32)
  | effectsWindowExpiry (zone : Nat)
  | windowCopyExpiry (desk zone : Nat)
  | ackWindowExpiry
  | investigationTimeout
  | realarmWindowEnd
  | driveDelivery (bay : Bay) (inputs : DriveInputs)
  | raiseTimeout
  | proofExpired
  | outputUpdate
  | bayExchange (bay : Bay)
  | dimmerAcknowledgement (bay : Bay)
  | exchangeNoAnswer (bay : Bay)
  | playComplete (bay : Bay) (play : Byte)
  | playerFault (bay : Bay) (play : Byte)
  | gapExpiry
  | staffRepeatExpiry
  | presenceChange (bay : Bay) (presence : Presence)
  | debounceExpiry (bay : Bay) (sense : ModuleType)
  | readyAnswer (bay : Bay) (type : ModuleType)
  | readyTimerExpiry (bay : Bay)
  | overcurrent (bay : Bay) (supply : Supply)
  | selectReleasedEarly
  | answerComplete
  | unknownRequest
  | readRecord (record : RecordName)
  | setPhase (target : Option Phase) (minutes : Byte)
  | holdOn
  | holdOff
  | ack
  | silence
  | reset
  | disable (zone : Nat)
  | enable (zone : Nat)
  | effectsOpen (zones : List Nat) (duration : Nat)
  | effectsClose (selection : WindowSelection)
  | curtainRaise
  | curtainLower
  | curtainStop
  | curtainTest
  | curtainDrop
  | curtainUnknown
  | lightClaimSet (slot group : Nat) (kind : Option ClaimKind) (level : Byte) (fade : Nat)
  | lightClaimClear (selection : SlotSelection)
  | callRequest (slot message : Nat) (zones : List Nat) (repeats : Nat)
  | clearSnapshot
  | releaseTrace
  | powerOn (storeGood : Bool) (memory : ConfigMemory) (course : StartCourse)
  | resetAsserted
  | resetReleased (retain : Bool) (memory : ConfigMemory) (course : StartCourse)
  | supplyFall (storeIntact : Bool)
  | supplyDip (retain : Bool) (memory : ConfigMemory) (course : StartCourse)
  | answerCutShort
  | callExchangeAnswer (bay : Bay)
  deriving DecidableEq, Repr

end Sys2Proof
end

