-- ==== Sys2Proof/Decode.lean ====
section
/-! DEFINITION. Decoding. The FT-620 is a block: its commands are events and operations, and no row of the table gives
bits. -/

namespace Sys2Proof

/-- The command that a word spells by the table's bits: none, as no row of the table has bits. -/
def decodeTableWord (_nbits _w : Nat) : Option Instr := none

end Sys2Proof
end

