-- ==== Sys2Proof/Config.lean ====
section
/-! DEFINITION. What is fixed for the machine: the fixed times and bounds of the manual, and the free
values, constants with no body that stand for what the manual leaves open. The configuration image of a
station is no constant: it is read at each cold start and lies in the state. -/

namespace Sys2Proof.Config

/-- The own joining period, and the age at which a peer goes silent: 3.5 s, in ms (R42, R48). -/
def joiningMs : Nat := 3500
/-- The age at which a peer's record goes SILENT, in ms (R42). -/
def peerSilentMs : Nat := 3500
/-- The silence time from which a line counts as silent, in ms (R25). -/
def lineSilentMs : Nat := 3000
/-- The least time between two compositions, in ms (R26). -/
def spacingMs : Nat := 50
/-- The greatest time between two compositions, in ms (R26). -/
def routineMs : Nat := 1000
/-- The clearing timer of DUPLICATE STATION, in ms (R36). -/
def duplicateMs : Nat := 10000
/-- The raise timer, in ms (R103). -/
def raiseMs : Nat := 90000
/-- The gap between calls, in ms (R145, R151). -/
def gapMs : Nat := 2000
/-- The staff repeat timer, in ms (R145, R153). -/
def staffMs : Nat := 30000
/-- The debounce of a bay, in ms (R158). -/
def debounceMs : Nat := 500
/-- The ready timer of a bay, in ms (R158). -/
def readyMs : Nat := 2000
/-- The time without an exchange after which a DRIVE module fails safe, three exchange periods, in ms (R167). -/
def failSafeMs : Nat := 300
/-- The period of the light output updates, in ms (R139). -/
def outputMs : Nat := 20
/-- The length of a re-alarm window, in seconds of node time (R82). -/
def realarmSeconds : Nat := 300
/-- The greatest length of an effects window, in seconds (R65). -/
def windowSeconds : Nat := 1200
/-- The age from which a call is stale when EMERGENCY ends, in seconds (R155). -/
def staleSeconds : Nat := 600
/-- The hysteresis below the prealarm threshold (R52). -/
def hysteresis : Nat := 10
/-- The effects dwell factor (R52). -/
def effectsDwellFactor : Nat := 4
/-- The greatest alarm threshold under an effects window (R54). -/
def windowThresholdMax : Nat := 250
/-- The overtravel allowance above the travel height, in mm (chapter 7.1). -/
def overtravel : Nat := 200
/-- The bottom tolerance, in mm (chapter 7.1). -/
def bottomTolerance : Nat := 20
/-- The mismatch height, in mm (chapter 7.1). -/
def mismatchHeight : Nat := 200
/-- The greatest node time (R184). -/
def nodeTimeMax : Nat := 4294967295
/-- The entries that the incident log holds (R175). -/
def logSize : Nat := 32
/-- The entries that the call queue holds (R145). -/
def queueSize : Nat := 16
/-- The entries of a precedence list (R134). -/
def precedenceSize : Nat := 16
/-- The samples that a trace record holds (R125). -/
def traceSize : Nat := 400
/-- The greatest curtain position that a report may carry (R17, R31). -/
def positionMax : Nat := 12200

/-- FREE VALUE (log entry 1): the node time after an increment at 4294967295. R184 gives the range and
says that node time advances by 1, and states no value past the end. The argument is the model's own
counter of draws. -/
opaque nodeTimePastEnd : Nat → BitVec 32

/-- FREE VALUE (log entry 2): which of two demand epochs that lie 128 apart is "the newer" of R99. By R1
each of the two is older than the other. True takes the owner epoch, false the held one. -/
opaque ownerEpochAtOpposite : Byte → Byte → Bool

/-- FREE VALUE (log entry 7): whether a line carries another station's frame at the moment when the Report Composer
places a report. The table has no event for the beginning of such a frame. The first argument is the model's own
counter of draws. -/
opaque carriesFrame : Nat → Line → Bool

/-- FREE VALUE (log entry 26): whether the controller's part of an exchange that ends with no answer reached the
module. R164 and R168 leave open on which way the exchange was lost. The argument is the model's own counter of
draws. -/
opaque exchangeReached : Nat → Bool

end Sys2Proof.Config
end

