-- ==== Sys2Proof/Machine/Report.lean ====
section
/-! DEFINITION. The station report as data (R17), section by section, and the kinds it carries. -/

namespace Sys2Proof.Machine

/-- The alarm stages (R72). -/
inductive Stage where
  | quiet | alert | investigate | evacuate
  deriving DecidableEq, Repr

/-- The zone conditions (R52, R56). -/
inductive Condition where
  | normal | disabled | fault | prealarm | alarmLatched | alarmActive
  deriving DecidableEq, Repr

/-- The curtain states, with the none of a station that is no curtain station (R17, R93). -/
inductive CurtainState where
  | none | up | stopped | down | lowering | testing | descending | raising | driveLost | unconfigured
  deriving DecidableEq, Repr

/-- The phase section of a report. -/
structure PhaseSection where
  phase : Phase
  hold : Bool
  epoch : Byte
  origin : Nat
  minutes : Nat
  deriving DecidableEq, Repr

/-- One entry of a report's zone list. -/
structure ZoneEntry where
  zone : Nat
  condition : Condition
  deriving DecidableEq, Repr

/-- The alarm section of a report. -/
structure AlarmSection where
  generation : Byte
  stage : Stage
  silenced : Bool
  ackPresent : Bool
  silencePresent : Bool
  ackGeneration : Byte
  silenceGeneration : Byte
  silenceCount : Nat
  zones : List ZoneEntry
  deriving DecidableEq, Repr

/-- The curtain flags of a report. -/
structure CurtainFlags where
  proven : Bool := false
  encoderLost : Bool := false
  overspeed : Bool := false
  stall : Bool := false
  overtime : Bool := false
  driveLost : Bool := false
  limitMismatch : Bool := false
  deriving DecidableEq, Repr

/-- The curtain section of a report. A position of `none` is the unknown sent as 65535. -/
structure CurtainSection where
  state : CurtainState
  flags : CurtainFlags
  position : Option Nat
  lastEpoch : Byte
  deriving DecidableEq, Repr

/-- One entry of the effects-window list (R64). -/
structure WindowEntry where
  zone : Nat
  remaining : Nat
  deriving DecidableEq, Repr

/-- A light claim (R129). -/
structure Claim where
  group : Nat
  kind : ClaimKind
  level : Nat
  fade : Nat
  deriving DecidableEq, Repr

/-- One entry of the claim list: a slot and its claim. -/
structure ClaimEntry where
  slot : Nat
  claim : Claim
  deriving DecidableEq, Repr

/-- One entry of the call-request list (R146). The FOH zones stand in ascending order. -/
structure CallEntry where
  slot : Nat
  repeats : Nat
  message : Nat
  zones : List Nat
  epoch : Byte
  deriving DecidableEq, Repr

/-- The desk section of a report. -/
structure DeskSection where
  demandKind : Option DemandKind
  demandEpoch : Byte
  windows : List WindowEntry
  disablements : List Nat
  claims : List ClaimEntry
  calls : List CallEntry
  deriving DecidableEq, Repr

/-- The fault-summary word: one bit for each class of fault (R17). -/
structure FaultSummary where
  line : Bool := false
  peer : Bool := false
  bay : Bool := false
  curtain : Bool := false
  zone : Bool := false
  configuration : Bool := false
  deriving DecidableEq, Repr

/-- A station report (R17): the fields of the header, then the five sections. -/
structure Report where
  station : Nat
  sequence : Byte
  restartCount : Byte
  joining : Bool
  roles : RoleSet
  authorities : AuthoritySet
  signature : Half
  phase : PhaseSection
  alarm : AlarmSection
  curtain : CurtainSection
  desk : DeskSection
  health : FaultSummary
  deriving DecidableEq, Repr

/-- The report classes in order of precedence (R19). -/
inductive ReportClass where
  | urgent | prompt | routine
  deriving DecidableEq, Repr

/-- What a Line Controller makes of a frame it has read (R22). The station is the one named by the lower six
bits of the precedence byte. -/
inductive FrameVerdict where
  | crcFailure
  | poisoned (station : Nat)
  | formatFailure (station : Nat)
  | good (report : Report)
  deriving DecidableEq, Repr

end Sys2Proof.Machine
end

