-- ==== Sys2Proof/Machine/Frame.lean ====
section
/-! DEFINITION. The report as bytes and the frame as carried on a line: the layout of R17, the CRC-16 and
the precedence byte of R19, and the classification of a received frame by R22 and R23. -/

namespace Sys2Proof.Machine

/-! ### Code values of R17 -/

def phaseCode : Phase → Nat
  | .closed => 0 | .houseOpen => 1 | .performance => 2 | .interval => 3 | .houseClearing => 4

def phaseOfCode : Nat → Option Phase
  | 0 => some .closed | 1 => some .houseOpen | 2 => some .performance | 3 => some .interval
  | 4 => some .houseClearing | _ => none

def stageCode : Stage → Nat
  | .quiet => 0 | .alert => 1 | .investigate => 2 | .evacuate => 3

/-- The stage of two bits: every code names a stage. -/
def stageOfCode : Nat → Stage
  | 0 => .quiet | 1 => .alert | 2 => .investigate | _ => .evacuate

def conditionCode : Condition → Nat
  | .normal => 0 | .disabled => 1 | .fault => 2 | .prealarm => 3 | .alarmLatched => 4 | .alarmActive => 5

/-- A zone entry carries the codes 1 to 5; NORMAL has no entry. -/
def conditionOfCode : Nat → Option Condition
  | 1 => some .disabled | 2 => some .fault | 3 => some .prealarm | 4 => some .alarmLatched
  | 5 => some .alarmActive | _ => none

def curtainCode : CurtainState → Nat
  | .none => 0 | .up => 1 | .stopped => 2 | .down => 3 | .lowering => 4 | .testing => 5
  | .descending => 6 | .raising => 7 | .driveLost => 8 | .unconfigured => 9

def curtainOfCode : Nat → Option CurtainState
  | 0 => some .none | 1 => some .up | 2 => some .stopped | 3 => some .down | 4 => some .lowering
  | 5 => some .testing | 6 => some .descending | 7 => some .raising | 8 => some .driveLost
  | 9 => some .unconfigured | _ => none

def demandCode : Option DemandKind → Nat
  | none => 0 | some .raise => 1 | some .lower => 2 | some .stop => 3 | some .test => 4 | some .drop => 5

def demandOfCode : Nat → Option (Option DemandKind)
  | 0 => some none | 1 => some (some .raise) | 2 => some (some .lower) | 3 => some (some .stop)
  | 4 => some (some .test) | 5 => some (some .drop) | _ => none

def claimCode : ClaimKind → Nat
  | .preset => 1 | .floor => 2 | .cap => 3

def claimOfCode : Nat → Option ClaimKind
  | 1 => some .preset | 2 => some .floor | 3 => some .cap | _ => none

def classCode : ReportClass → Nat
  | .urgent => 0 | .prompt => 1 | .routine => 2

/-! ### Writing bytes -/

def byte (n : Nat) : Byte := BitVec.ofNat 8 n

/-- A field of two bytes, low byte first. -/
def twoBytes (n : Nat) : List Byte := [byte (n % 256), byte (n / 256)]

/-- Bits as a number, the first of the list being bit 0. -/
def bitsToNat : List Bool → Nat
  | [] => 0
  | b :: bs => b.toNat + 2 * bitsToNat bs

def rolesCode (r : RoleSet) : Nat := bitsToNat [r.curtain, r.detect, r.lights, r.calls, r.desk]

def authoritiesCode (a : AuthoritySet) : Nat :=
  bitsToNat [a.phase, a.ack, a.reset, a.curtain, a.effects, a.lights, a.calls]

def flagsCode (f : CurtainFlags) : Nat :=
  bitsToNat [f.proven, f.encoderLost, f.overspeed, f.stall, f.overtime, f.driveLost, f.limitMismatch]

def summaryCode (f : FaultSummary) : Nat :=
  bitsToNat [f.line, f.peer, f.bay, f.curtain, f.zone, f.configuration]

/-- The 16 bits of an FOH zone set: bit z − 1 for FOH zone z. -/
def fohCode (zones : List Nat) : Nat :=
  bitsToNat ((List.range' 1 16).map fun z => zones.contains z)

def encodeZone (e : ZoneEntry) : List Byte := [byte e.zone, byte (conditionCode e.condition)]

def encodeWindow (e : WindowEntry) : List Byte := byte e.zone :: twoBytes e.remaining

/-- A claim entry: group, level, then fade in bits 0–9, kind in bits 10–11, slot minus 1 in bits 12–14. -/
def encodeClaim (e : ClaimEntry) : List Byte :=
  [byte e.claim.group, byte e.claim.level] ++
    twoBytes (e.claim.fade + 1024 * claimCode e.claim.kind + 4096 * (e.slot - 1))

/-- A call-request entry: slot in bits 4–7 with repeats in bits 0–3, message, FOH zones, epoch. -/
def encodeCall (e : CallEntry) : List Byte :=
  [byte (16 * e.slot + e.repeats), byte e.message] ++ twoBytes (fohCode e.zones) ++ [e.epoch]

def encodePosition : Option Nat → List Byte
  | none => twoBytes 65535
  | some p => twoBytes p

/-- The bytes of a report in the order of R17. -/
def encodeReport (r : Report) : List Byte :=
  [byte r.station, r.sequence, r.restartCount, byte r.joining.toNat, byte (rolesCode r.roles),
    byte (authoritiesCode r.authorities)] ++ twoBytes r.signature.toNat ++
  [byte (phaseCode r.phase.phase + 128 * r.phase.hold.toNat), r.phase.epoch, byte r.phase.origin,
    byte r.phase.minutes, r.alarm.generation,
    byte (stageCode r.alarm.stage + 16 * r.alarm.silenced.toNat + 32 * r.alarm.ackPresent.toNat +
      64 * r.alarm.silencePresent.toNat),
    r.alarm.ackGeneration, r.alarm.silenceGeneration, byte r.alarm.silenceCount,
    byte r.alarm.zones.length] ++
  r.alarm.zones.flatMap encodeZone ++
  [byte (curtainCode r.curtain.state), byte (flagsCode r.curtain.flags)] ++
  encodePosition r.curtain.position ++
  [r.curtain.lastEpoch, byte (demandCode r.desk.demandKind), r.desk.demandEpoch,
    byte r.desk.windows.length] ++
  r.desk.windows.flatMap encodeWindow ++
  [byte r.desk.disablements.length] ++ r.desk.disablements.map byte ++
  [byte r.desk.claims.length] ++ r.desk.claims.flatMap encodeClaim ++
  [byte r.desk.calls.length] ++ r.desk.calls.flatMap encodeCall ++
  twoBytes (summaryCode r.health)

/-! ### The CRC-16 and the frame (R19) -/

def crcShift (x : Half) : Half := if x.msb then (x <<< 1) ^^^ 0x1021#16 else x <<< 1

/-- One byte into the register, most significant bit first. -/
def crcByte (crc : Half) (b : Byte) : Half :=
  Nat.repeat crcShift 8 (crc ^^^ (b.setWidth 16 <<< 8))

/-- The CRC-16 of R19: x^16 + x^12 + x^5 + 1 from all ones, no final inversion. -/
def crc16 (bytes : List Byte) : Half := bytes.foldl crcByte 0xFFFF#16

def precedence (cls : ReportClass) (station : Nat) : Byte := byte (64 * classCode cls + station)

/-- The frame of a report: precedence byte, report, CRC low byte first; a poisoned report goes with each of
the 16 CRC bits inverted. -/
def encodeFrame (cls : ReportClass) (poisoned : Bool) (r : Report) : List Byte :=
  let body := precedence cls r.station :: encodeReport r
  let crc := if poisoned then ~~~ crc16 body else crc16 body
  body ++ twoBytes crc.toNat

/-! ### Reading bytes (R17, R23) -/

def bit (b : Byte) (i : Nat) : Bool := b.getLsbD i

def readTwo (lo hi : Byte) : Nat := lo.toNat + 256 * hi.toNat

def rolesOfByte (b : Byte) : RoleSet :=
  { curtain := bit b 0, detect := bit b 1, lights := bit b 2, calls := bit b 3, desk := bit b 4 }

def authoritiesOfByte (b : Byte) : AuthoritySet :=
  { phase := bit b 0, ack := bit b 1, reset := bit b 2, curtain := bit b 3, effects := bit b 4,
    lights := bit b 5, calls := bit b 6 }

def flagsOfByte (b : Byte) : CurtainFlags :=
  { proven := bit b 0, encoderLost := bit b 1, overspeed := bit b 2, stall := bit b 3,
    overtime := bit b 4, driveLost := bit b 5, limitMismatch := bit b 6 }

def summaryOfByte (b : Byte) : FaultSummary :=
  { line := bit b 0, peer := bit b 1, bay := bit b 2, curtain := bit b 3, zone := bit b 4,
    configuration := bit b 5 }

def fohOfNat (n : Nat) : List Nat := (List.range' 1 16).filter fun z => n.testBit (z - 1)

def zoneInRange (z : Nat) : Bool := 1 ≤ z && z ≤ 64

/-- Reads `n` zone entries; none where the bytes run out or a value lies outside R17's. -/
def parseZones : Nat → List Byte → Option (List ZoneEntry × List Byte)
  | 0, rest => some ([], rest)
  | n + 1, z :: c :: rest =>
    match conditionOfCode c.toNat, zoneInRange z.toNat, parseZones n rest with
    | some condition, true, some (es, rest') => some (⟨z.toNat, condition⟩ :: es, rest')
    | _, _, _ => none
  | _ + 1, _ => none

def parseWindows : Nat → List Byte → Option (List WindowEntry × List Byte)
  | 0, rest => some ([], rest)
  | n + 1, z :: lo :: hi :: rest =>
    match zoneInRange z.toNat && decide (readTwo lo hi ≤ 1200), parseWindows n rest with
    | true, some (es, rest') => some (⟨z.toNat, readTwo lo hi⟩ :: es, rest')
    | _, _ => none
  | _ + 1, _ => none

def parseDisablements : Nat → List Byte → Option (List Nat × List Byte)
  | 0, rest => some ([], rest)
  | n + 1, z :: rest =>
    match zoneInRange z.toNat, parseDisablements n rest with
    | true, some (es, rest') => some (z.toNat :: es, rest')
    | _, _ => none
  | _ + 1, _ => none

def parseClaims : Nat → List Byte → Option (List ClaimEntry × List Byte)
  | 0, rest => some ([], rest)
  | n + 1, g :: level :: lo :: hi :: rest =>
    let word := readTwo lo hi
    let fade := word % 1024
    match claimOfCode (word / 1024 % 4), 1 ≤ g.toNat && g.toNat ≤ 16 && decide (fade ≤ 600),
        parseClaims n rest with
    | some kind, true, some (es, rest') =>
      some (⟨word / 4096 % 8 + 1, ⟨g.toNat, kind, level.toNat, fade⟩⟩ :: es, rest')
    | _, _, _ => none
  | _ + 1, _ => none

def parseCalls : Nat → List Byte → Option (List CallEntry × List Byte)
  | 0, rest => some ([], rest)
  | n + 1, head :: message :: lo :: hi :: epoch :: rest =>
    let slot := head.toNat / 16
    let repeats := head.toNat % 16
    let zones := fohOfNat (readTwo lo hi)
    match 1 ≤ slot && slot ≤ 4 && 1 ≤ repeats && repeats ≤ 3 && 1 ≤ message.toNat &&
        message.toNat ≤ 250 && !zones.isEmpty, parseCalls n rest with
    | true, some (es, rest') => some (⟨slot, repeats, message.toNat, zones, epoch⟩ :: es, rest')
    | _, _ => none
  | _ + 1, _ => none

def originInRange (n : Nat) : Bool := n ≤ 40

def minutesInRange (n : Nat) : Bool := n == 0 || (5 ≤ n && n ≤ 40)

/-- A position field: 65535 is unknown, 0 to 12200 a height, anything else outside R17's range. -/
def positionOfNat (n : Nat) : Option (Option Nat) :=
  if n = 65535 then some none else if n ≤ Config.positionMax then some (some n) else none

/-- The header, phase section and fixed part of the alarm section: the 18 bytes before the zone list. -/
def parseHead : List Byte → Option ((List ZoneEntry → CurtainSection → DeskSection → FaultSummary → Report) ×
    Nat × List Byte)
  | station :: sequence :: restart :: flags :: roles :: auths :: sigLo :: sigHi :: phaseByte :: epoch ::
      origin :: minutes :: generation :: stageByte :: ackGen :: silGen :: silCount :: n :: rest =>
    match phaseOfCode (phaseByte.toNat % 8),
        originInRange origin.toNat && minutesInRange minutes.toNat && decide (silCount.toNat ≤ 64) &&
        decide (n.toNat ≤ 64) && decide (station.toNat ≤ 40) with
    | some phase, true =>
      some (fun zones curtain desk health =>
        { station := station.toNat, sequence := sequence, restartCount := restart,
          joining := bit flags 0, roles := rolesOfByte roles, authorities := authoritiesOfByte auths,
          signature := BitVec.ofNat 16 (readTwo sigLo sigHi),
          phase := { phase := phase, hold := bit phaseByte 7, epoch := epoch, origin := origin.toNat,
                     minutes := minutes.toNat },
          alarm := { generation := generation, stage := stageOfCode (stageByte.toNat % 4),
                     silenced := bit stageByte 4, ackPresent := bit stageByte 5,
                     silencePresent := bit stageByte 6, ackGeneration := ackGen,
                     silenceGeneration := silGen, silenceCount := silCount.toNat, zones := zones },
          curtain := curtain, desk := desk, health := health }, n.toNat, rest)
    | _, _ => none
  | _ => none

/-- The curtain section and the fixed part of the desk section: curtain section, demand kind, demand
epoch, window count. -/
def parseCurtain : List Byte → Option (CurtainSection × Option DemandKind × Byte × Nat × List Byte)
  | state :: flags :: lo :: hi :: last :: kind :: epoch :: w :: rest =>
    match curtainOfCode state.toNat, positionOfNat (readTwo lo hi), demandOfCode kind.toNat,
        decide (w.toNat ≤ 8) with
    | some state, some position, some kind, true =>
      some ({ state := state, flags := flagsOfByte flags, position := position, lastEpoch := last },
        kind, epoch, w.toNat, rest)
    | _, _, _, _ => none
  | _ => none

/-- A count byte with its greatest value. -/
def parseCount (greatest : Nat) : List Byte → Option (Nat × List Byte)
  | n :: rest => if n.toNat ≤ greatest then some (n.toNat, rest) else none
  | [] => none

/-- The whole report: every count and value in R17's range, and not a byte more or less than the counts
call for. -/
def parseReport (bytes : List Byte) : Option Report := do
  let (build, n, rest) ← parseHead bytes
  let (zones, rest) ← parseZones n rest
  let (curtain, kind, epoch, w, rest) ← parseCurtain rest
  let (windows, rest) ← parseWindows w rest
  let (m, rest) ← parseCount 8 rest
  let (disablements, rest) ← parseDisablements m rest
  let (c, rest) ← parseCount 8 rest
  let (claims, rest) ← parseClaims c rest
  let (k, rest) ← parseCount 4 rest
  let (calls, rest) ← parseCalls k rest
  match rest with
  | [lo, _] =>
    some (build zones curtain
      { demandKind := kind, demandEpoch := epoch, windows := windows, disablements := disablements,
        claims := claims, calls := calls } (summaryOfByte lo))
  | _ => none

/-! ### Classifying a received frame (R22, R23) -/

/-- The format checks of R23 on a frame whose CRC matches. -/
def checkForm (prec : Byte) (report : List Byte) : Option Report :=
  if prec.toNat / 64 = 3 then none
  else match parseReport report with
    | some r => if r.station = prec.toNat % 64 then some r else none
    | none => none

/-- The classification of R22: shorter than 34 bytes or no matching CRC is a CRC failure; the inverse CRC
is poisoned; the rest is examined by R23. -/
def classify (frame : List Byte) : FrameVerdict :=
  match frame with
  | [] => .crcFailure
  | prec :: _ =>
    let body := frame.take (frame.length - 2)
    let sent := frame.drop (frame.length - 2)
    let crc := crc16 body
    if frame.length < 34 then .crcFailure
    else if sent = twoBytes crc.toNat then
      match checkForm prec (body.drop 1) with
      | some r => .good r
      | none => .formatFailure (prec.toNat % 64)
    else if sent = twoBytes (~~~ crc).toNat then .poisoned (prec.toNat % 64)
    else .crcFailure

end Sys2Proof.Machine
end

