-- ==== Sys2Proof/Machine/Blocks.lean ====
section
/-! DEFINITION. The state that each block of the FT-620 owns, as plain data. Standing faults have one home, the
fault list of R174: the flags that follow a fault key (line fault, DEGRADED, unauthorised, ZONE FAULT) are read
from it. A timer is held as the running time, in ms, at which it expires. -/

namespace Sys2Proof.Machine

/-! ### Clock, supply and station standing -/

/-- The model's running time, in ms (log entry 3), with the moments of the last node-time increment and of
the last light output update. -/
structure Clock where
  now : Nat
  secondAt : Nat
  outputAt : Nat
  deriving DecidableEq, Repr

/-- The kinds of start (R182). -/
inductive StartKind where
  | cold | warm
  deriving DecidableEq, Repr

/-- A start in progress (R182, R185): its kind, decided once, what the configuration memory gives to the read of a cold
start, what the presence lines show to the reading of step 6, and the step made last. -/
structure StartProgress where
  kind : StartKind
  memory : ConfigMemory
  presence : PerBay Presence
  step : StartStep
  deriving DecidableEq, Repr

/-- The supply, the RESET input, whether the station is out of reset with its start completed, whether the retained store
checks good, and the start in progress (R182, R183). -/
structure Power where
  supply : Bool
  resetAsserted : Bool
  running : Bool
  storeGood : Bool
  start : Option StartProgress
  deriving DecidableEq, Repr

/-- The station standing of R171. -/
inductive Standing where
  | starting | joining | running | unconfigured
  deriving DecidableEq, Repr

/-- The settings whose range the fourth check of R179 judges. -/
inductive ConfigSetting where
  | detectorMap | prealarmThreshold | alarmThreshold | dwell | effectsOffset | ackTime
  | investigationTime | travelHeight | slowBoundary | mainLimit | slowLimit | descentLimit
  | proofPeriod | channelMap | outputMap | houseMessages | zoneTable | fohTable | lightTable | holdLevel
  deriving DecidableEq, Repr

/-- The first check of R179 that failed. -/
inductive ConfigFailure where
  | crc | station | roles | range (setting : ConfigSetting)
  deriving DecidableEq, Repr

/-- The locked identity and the image in use (R178 to R181). At a station whose image is invalid the role and
authority sets, the tables and the maps are empty and the signature is 0; the number is the image's where
it is usable and 0 where it is not (R180). -/
structure Configuration where
  number : Nat
  roles : RoleSet
  authorities : AuthoritySet
  image : ConfigImage
  signature : Half
  failure : Option ConfigFailure
  deriving DecidableEq, Repr

/-- The station: standing, own joining period, node time, whether the curtain was proven when the station last went into
reset (log entry 44), the image as the last cold start read it, and the configuration in use. -/
structure Station where
  standing : Standing
  joining : Bool
  joiningUntil : Nat
  nodeTime : Nat
  provenAtStop : Bool
  memory : ConfigMemory
  config : Configuration
  deriving DecidableEq, Repr

/-! ### Line Controllers and Report Composer -/

/-- A report waiting in a slot or in flight, with its class (R18) and the poisoned mark of R31. -/
structure Pending where
  report : Report
  cls : ReportClass
  poisoned : Bool
  deriving DecidableEq, Repr

/-- The transmitter state (R18). -/
inductive Transmitter where
  | idle | waiting | contending | sending
  deriving DecidableEq, Repr

/-- A Line Controller (R18). `busy` is the line as this controller knows it; `ownFrame` is the frame it has
sent to completion and not yet read back; `silenceSince` is the running time at which the silence time last
restarted. -/
structure LineController where
  slot : Option Pending
  inFlight : Option Pending
  transmitter : Transmitter
  lastSent : Option (Byte × Byte)
  busy : Bool
  ownFrame : Option (List Byte)
  silenceSince : Nat
  goodFrames : Half
  crcFailures : Half
  superseded : Half
  deriving DecidableEq, Repr

/-- The Report Composer (R26 to R33). -/
structure Composer where
  sequence : Byte
  restartCount : Byte
  changePending : Bool
  image : Option Report
  composedAt : Nat
  deriving DecidableEq, Repr

/-! ### Peer Table -/

/-- The state of a peer record (R35). -/
inductive PeerState where
  | absent | joining | live | silent
  deriving DecidableEq, Repr

/-- The seven authority-gated items of a report (R44). -/
structure DeskItems where
  acknowledgement : Bool := false
  silence : Bool := false
  demand : Bool := false
  windows : Bool := false
  disablements : Bool := false
  claims : Bool := false
  calls : Bool := false
  deriving DecidableEq, Repr

/-- A peer record (R34). The restart count is the last report's. The age is the running time since
`acceptedMs`. -/
structure PeerRecord where
  station : Nat
  state : PeerState
  lastReport : Option Report
  acceptedAt : Option Nat
  acceptedMs : Nat
  honoured : DeskItems
  accepted : Half
  gaps : Half
  duplicates : Half
  poisoned : Half
  gapScore : Nat
  mismatch : Bool
  deriving DecidableEq, Repr

/-- The Peer Table (R34), with the 10 s clearing timer of DUPLICATE STATION (R36). -/
structure PeerTable where
  records : List PeerRecord
  duplicateTimer : Option Nat
  deriving DecidableEq, Repr

/-! ### Phase Tracker -/

/-- The phase view (R2). The timer runs while the phase is INTERVAL, the hold off and the remaining time above
0 (R12). -/
structure PhaseView where
  phase : Phase
  hold : Bool
  epoch : Byte
  origin : Nat
  minutes : Nat
  remaining : Nat
  deriving DecidableEq, Repr

/-! ### Detection Unit -/

/-- The status of a detector (R52). -/
inductive DetectorStatus where
  | unread | valid | faulted
  deriving DecidableEq, Repr

/-- The cause of FAULTED (R52). -/
inductive FaultKind where
  | missing | short
  deriving DecidableEq, Repr

/-- A detector record (R52) with the position, zone and type that the detector map gives it. -/
structure Detector where
  bay : Bay
  position : Nat
  zone : Nat
  type : DetectorType
  status : DetectorStatus
  fault : Option FaultKind
  reading : Nat
  alarmCount : Nat
  prealarmCount : Nat
  clearRun : Nat
  deriving DecidableEq, Repr

/-- The zone record of an own zone (R52), with the condition and manual mark last handed to the Alarm Stage
Unit (R59, R73). -/
structure ZoneRecord where
  zone : Nat
  condition : Condition
  latch : Bool
  manual : Bool
  hold : Bool
  disabled : Bool
  window : Bool
  onsets : Half
  handed : Condition
  handedManual : Bool
  deriving DecidableEq, Repr

/-- A copy of a peer desk's effects window (R67). -/
structure WindowCopy where
  desk : Nat
  zone : Nat
  remaining : Nat
  deriving DecidableEq, Repr

/-- The Detection Unit: detectors in order of bay and position, own zones ascending, the own window list, and
the copies of peers' windows. -/
structure Detection where
  detectors : List Detector
  zones : List ZoneRecord
  windows : List WindowEntry
  copies : List WindowCopy
  deriving DecidableEq, Repr

/-! ### Alarm Stage Unit -/

/-- The causes of an entry to EVACUATE (R72). -/
inductive StageCause where
  | directZone | manual | twoZones | noAudience | reAlarm | contagion | ackTimeout
  | investigationTimeout | joiningAdoption
  deriving DecidableEq, Repr

/-- The source of a winning contribution (R73). -/
inductive ZoneSource where
  | own | peer (station : Nat) | heldFrom (station : Nat) | supervisorLost
  deriving DecidableEq, Repr

/-- One zone of the merged zone view (R72). -/
structure MergedZone where
  condition : Condition
  source : Option ZoneSource
  held : Bool
  manual : Bool
  deriving DecidableEq, Repr

/-- The curtain field of a snapshot: UNKNOWN, or a state and a position that may be unknown (R88). -/
structure SnapshotCurtain where
  state : CurtainState
  position : Option Nat
  deriving DecidableEq, Repr

/-- The incident snapshot (R88). -/
structure Snapshot where
  time : Nat
  phase : Phase
  generation : Byte
  cause : StageCause
  zones : List Nat
  curtain : Option SnapshotCurtain
  live : List Nat
  deriving DecidableEq, Repr

/-- The silence fields of a desk (R85). -/
structure Silence where
  generation : Byte
  count : Nat
  deriving DecidableEq, Repr

/-- The Alarm Stage Unit (R72). The merged view holds zones 1 to 64 in order. -/
structure Alarm where
  generation : Byte
  stage : Stage
  silenced : Bool
  cause : Option StageCause
  ackWindow : Option Nat
  investigation : Option Nat
  realarmEnd : Option Nat
  merged : List MergedZone
  order : List Nat
  ack : Option Byte
  silence : Option Silence
  disablements : List Nat
  snapshot : Option Snapshot
  deriving DecidableEq, Repr

/-! ### Curtain Controller -/

/-- The governor setting (R93). -/
inductive Governor where
  | normal | slow
  deriving DecidableEq, Repr

/-- An output set commanded to the DRIVE module (R93). A governor of `none` is not commanded (R94). -/
structure OutputSet where
  hold : Bool
  governor : Option Governor
  motor : Bool
  deriving DecidableEq, Repr

/-- The descent causes (R93). -/
inductive DescentCause where
  | zone | evacuate | button | drop | recovery
  deriving DecidableEq, Repr

/-- The verdict failures of a test: the first reason of R112, or OBSTRUCTED (R124). -/
inductive TestFailure where
  | encoderLost | overspeed | stall | overtime | obstructed
  deriving DecidableEq, Repr

/-- The verdict of a test descent (R109). -/
inductive Verdict where
  | none | pass | failed (why : TestFailure) | aborted
  deriving DecidableEq, Repr

/-- The proof record (R109). The descent time is in tenths of a second. -/
structure ProofRecord where
  verdict : Verdict
  time : Nat
  descentTime : Nat
  maxMain : Nat
  maxSlow : Nat
  deriving DecidableEq, Repr

/-- The demand epoch last seen from a desk (R100). -/
structure SeenDemand where
  station : Nat
  epoch : Byte
  deriving DecidableEq, Repr

/-- The limit and beam view (R93, R95). -/
structure LimitView where
  topClosed : Bool
  bottomClosed : Bool
  beamBroken : Bool
  buttonPressed : Bool
  deriving DecidableEq, Repr

/-- The Curtain Controller (R93), and the desk's own demand (R99). `supervisorMismatch` is the supervisor cause of LIMIT
MISMATCH as last handed (R105); `delivery` is the module's latest delivery since its bay came ONLINE (R113). -/
structure Curtain where
  state : CurtainState
  output : Option OutputSet
  view : LimitView
  position : Option Nat
  reported : Option Nat
  cause : Option DescentCause
  raiseTimer : Option Nat
  lastEpoch : Option Byte
  seen : List SeenDemand
  ownMismatch : Bool
  supervisorMismatch : Bool
  proof : ProofRecord
  descents : Half
  delivery : Option DriveInputs
  demandKind : Option DemandKind
  demandEpoch : Byte
  deriving DecidableEq, Repr

/-! ### Descent Supervisor -/

/-- The motions of R112. -/
inductive Motion where
  | lowering | testing | descending
  deriving DecidableEq, Repr

/-- The reasons a motion raises (R112). -/
inductive DescentReason where
  | encoderLost | overspeed | stall | overtime
  deriving DecidableEq, Repr

/-- The zones of a descent (R117). -/
inductive DescentZone where
  | main | slow
  deriving DecidableEq, Repr

/-- The reasons of a motion-end notice (R97). -/
inductive EndReason where
  | arrived | demandStop | obstructed | supervisorStop | trigger | driveLost
  deriving DecidableEq, Repr

/-- The end field of a trace header (R125). -/
inductive TraceEnd where
  | inProgress | ended (reason : EndReason) | restart
  deriving DecidableEq, Repr

/-- The sample counts at which a motion raised its reasons (R125). -/
structure Raisings where
  encoderLost : Option Nat := none
  overspeed : Option Nat := none
  stall : Option Nat := none
  overtime : Option Nat := none
  deriving DecidableEq, Repr

/-- One sample entry of a trace (R125). -/
structure TraceSample where
  k : Nat
  position : Option Nat
  speed : Option Int
  deriving DecidableEq, Repr

/-- A trace record (R125), its samples from k = 0. -/
structure Trace where
  motion : Motion
  cause : Option DescentCause
  startTime : Nat
  finish : TraceEnd
  raisings : Raisings
  held : Bool
  samples : List TraceSample
  deriving DecidableEq, Repr

/-- The Descent Supervisor (R112). The history holds up to 20 samples, latest first. `encoderRaised`,
`governorHeld` and `ownsTrace` are per motion: ENCODER LOST raised, GOVERNOR held SLOW by the overspeed latch
(R94), the trace slot taken (R125). -/
structure Supervisor where
  motion : Option Motion
  k : Nat
  history : List (Option Nat)
  validRun : Nat
  missingRun : Nat
  encoderLost : Bool
  encoderRaised : Bool
  zone : Option DescentZone
  overspeedRun : Nat
  overspeed : Bool
  stall : Bool
  overtime : Bool
  governorHeld : Bool
  firstReason : Option DescentReason
  completed : Bool
  descentTime : Nat
  mismatch : Bool
  maxMain : Nat
  maxSlow : Nat
  ownsTrace : Bool
  trace : Option Trace
  deriving DecidableEq, Repr

/-! ### Light Mixer -/

/-- A claimant's slot: an entry of a precedence list (R134). -/
structure ClaimRef where
  station : Nat
  slot : Nat
  deriving DecidableEq, Repr

/-- A claim of the claim view (R128). -/
structure ViewClaim where
  station : Nat
  slot : Nat
  claim : Claim
  deriving DecidableEq, Repr

/-- The base, its head claimant (none: the phase preset), the floor and the cap last computed (R128, R135). -/
structure Mix where
  base : Nat
  head : Option ClaimRef
  floor : Nat
  cap : Nat
  deriving DecidableEq, Repr

/-- A light group record (R128). -/
structure LightGroup where
  precedence : List ClaimRef
  target : Option Nat
  output : Nat
  start : Nat
  steps : Nat
  step : Nat
  fading : Bool
  mix : Option Mix
  deriving DecidableEq, Repr

/-- The Light Mixer: groups 1 to 16 in order at a LIGHTS station, the claim view, and the own claim list. -/
structure Lights where
  groups : List LightGroup
  view : List ViewClaim
  claims : List ClaimEntry
  deriving DecidableEq, Repr

/-! ### Call Sequencer -/

/-- The class of a queue entry (R145). -/
inductive CallClass where
  | desk | auto
  deriving DecidableEq, Repr

/-- A queue entry (R145). The FOH zones stand in ascending order. -/
structure QueueEntry where
  message : Nat
  zones : List Nat
  repeats : Nat
  source : Nat
  cls : CallClass
  enqueued : Nat
  preempted : Bool
  deriving DecidableEq, Repr

/-- A queue call that plays: its entry, the played zone set and the bays that play it (R150, R151). -/
structure PlayingCall where
  entry : QueueEntry
  zones : List Nat
  bays : PerBay Bool
  deriving DecidableEq, Repr

/-- The current call (R145). -/
inductive CurrentCall where
  | none | queue (call : PlayingCall) | staff | evacuation
  deriving DecidableEq, Repr

/-- The last request epoch seen from a peer desk's slot (R147). -/
structure SeenRequest where
  station : Nat
  slot : Nat
  epoch : Byte
  deriving DecidableEq, Repr

/-- A call request of a desk (R146). -/
structure CallRequest where
  message : Nat
  zones : List Nat
  repeats : Nat
  epoch : Byte
  deriving DecidableEq, Repr

/-- A slot of the own request list with its slot epoch (R146). -/
structure RequestSlot where
  slot : Nat
  epoch : Byte
  request : Option CallRequest
  deriving DecidableEq, Repr

/-- The call counters (R145). -/
structure CallCounters where
  merged : Half
  droppedFull : Half
  quieted : Half
  preemptedDropped : Half
  stale : Half
  deriving DecidableEq, Repr

/-- The Call Sequencer (R145), and the own request list (R146). `staffDue` is a staff call that is due and
has not been played (R153). -/
structure Calls where
  queue : List QueueEntry
  current : CurrentCall
  outstanding : PerBay Bool
  gap : Option Nat
  staffRepeat : Option Nat
  staffDue : Bool
  drain : Bool
  seen : List SeenRequest
  counters : CallCounters
  requests : List RequestSlot
  deriving DecidableEq, Repr

/-! ### Bay Controller -/

/-- The state of a bay (R158). -/
inductive BayState where
  | empty | settling | misseated | powering | online | failed
  deriving DecidableEq, Repr

/-- The failure reasons of a bay (R158). -/
inductive FailureReason where
  | noAnswer | overcurrent | unwanted | wrongType | linkLost
  deriving DecidableEq, Repr

/-- The causes of a lost notice (R165). -/
inductive LostCause where
  | removed | misseated | overcurrent | linkLost
  deriving DecidableEq, Repr

/-- The supplies that are on (R158). -/
structure Supplies where
  logic : Bool
  loop : Bool
  field : Bool
  deriving DecidableEq, Repr

/-- A message that a CALL module plays on a set of its outputs, under a play number (R168). -/
structure Play where
  message : Nat
  outputs : List Nat
  number : Byte
  deriving DecidableEq, Repr

/-- A command to a CALL module (R168). -/
inductive CallCommand where
  | play (play : Play)
  | stop
  deriving DecidableEq, Repr

/-- The controller's part of an exchange (R164). -/
inductive ControllerPart where
  | loopRequest
  | driveOutputs (outputs : Option OutputSet)
  | dimmerLevels (levels : List Nat)
  | callCommands (commands : List CallCommand)
  deriving DecidableEq, Repr

/-- A bay record (R158), with the cause of the last lost notice (R165), the call commands not yet carried (R168) and the
running time at which the next exchange is due. Of the module it holds the controller's part of the latest exchange,
the latest part that reached the module since it came ONLINE, the running time at which one last reached it, and what
it plays (R166 to R168, log entry 26). -/
structure BayRecord where
  state : BayState
  presence : Presence
  sensed : Option ModuleType
  supplies : Supplies
  debounce : Option Nat
  ready : Option Nat
  reason : Option FailureReason
  lost : Option LostCause
  missed : Nat
  play : Byte
  commands : List CallCommand
  exchangeAt : Nat
  sent : Option ControllerPart
  taken : Option ControllerPart
  reachedAt : Nat
  playing : Option Play
  deriving DecidableEq, Repr

/-! ### Faults and incident log -/

/-- The fault keys (R174). -/
inductive FaultKey where
  | lineFault (line : Line)
  | peerSilent (station : Nat)
  | peerDegraded (station : Nat)
  | unauthorisedField (station : Nat)
  | bayMisseated (bay : Bay)
  | bayFailed (bay : Bay)
  | driveLost | limitMismatch | raiseTimeout | encoderLost | overspeed | stall | overtime
  | zoneFault (zone : Nat)
  | duplicateStation
  | curtainConflict
  | composerCheck
  | configInvalid
  deriving DecidableEq, Repr

/-- The fault classes (R174). -/
inductive FaultClass where
  | line | peer | bay | curtain | zone | configuration
  deriving DecidableEq, Repr

/-- The detail given at a raising. -/
inductive FaultDetail where
  | none
  | items (items : DeskItems)
  | bayFailure (reason : FailureReason)
  | detector (bay : Bay) (position : Nat) (fault : FaultKind)
  | byConfiguration
  | descent (k : Nat) (position : Option Nat) (speed : Option Int)
  | invalid (failure : ConfigFailure)
  deriving DecidableEq, Repr

/-- An entry of the fault list (R174). -/
structure FaultEntry where
  key : FaultKey
  time : Nat
  detail : FaultDetail
  deriving DecidableEq, Repr

/-- The reasons a demand is refused with (R101). -/
inductive DemandRefusal where
  | trigger | position | state | beam | descending | driveLost
  deriving DecidableEq, Repr

/-- The detail of an entry that names a new curtain state (R97, R107). -/
inductive CurtainDetail where
  | none | cause (cause : DescentCause) | reason (reason : EndReason) | recovery | raiseTimeout
  deriving DecidableEq, Repr

/-- How a new generation was taken (R82). -/
inductive GenerationWay where
  | ownReset | adopted (station : Nat) | endOfJoining (station : Nat)
  deriving DecidableEq, Repr

/-- The kinds of incident log entry, each with its subject and detail (R175). -/
inductive LogEvent where
  | faultRaised (key : FaultKey) (detail : FaultDetail)
  | faultCleared (key : FaultKey)
  | start (kind : StartKind) (restartCount : Byte)
  | configMismatch (station : Nat)
  | configMismatchCleared (station : Nat)
  | zoneAlarm (zone : Nat) (detector : Option (Bay × Nat))
  | latchCleared (zone : Nat)
  | zoneDisabled (zone : Nat)
  | zoneEnabled (zone : Nat)
  | zoneUp (zone : Nat) (source : Option ZoneSource)
  | stageAlert (firstUp : Option Nat)
  | stageInvestigate (firstUp : Option Nat)
  | stageEvacuate (firstUp : Option Nat) (cause : StageCause)
  | silenced
  | silenceLifted
  | generation (generation : Byte) (way : GenerationWay)
  | disablementSet (zone : Nat)
  | disablementCleared (zone : Nat)
  | snapshotTaken
  | snapshotHeld (generation : Byte) (cause : StageCause)
  | snapshotCleared
  | curtain (state : CurtainState) (detail : CurtainDetail)
  | demandOvertaken (source : Nat) (kind : DemandKind) (epoch : Byte)
  | demandRefused (source : Nat) (kind : DemandKind) (epoch : Byte) (reason : DemandRefusal)
  | demandTaken (source : Nat) (kind : DemandKind) (epoch : Byte)
  | curtainObstructed (position : Option Nat)
  | proofExpired
  | testPass
  | testFailed (why : TestFailure)
  | testAborted (reason : EndReason)
  | descentRaised (reason : DescentReason) (k : Nat) (position : Option Nat) (speed : Option Int)
  | traceReleased
  | callMerged (message source : Nat)
  | queueFull (message source : Nat)
  | callWithdrawn (message : Nat)
  | callQuieted (message : Nat)
  | callUnserved (message : Nat)
  | callPreempted (message : Nat)
  | callDropped (message : Nat)
  | callStale (message : Nat)
  | callPlayerFault (bay : Bay)
  | callsDrain
  | callsNormal
  | moduleOnline (bay : Bay) (type : ModuleType)
  | moduleRemoved (bay : Bay)
  deriving DecidableEq, Repr

/-- An entry of the incident log (R175). -/
structure LogEntry where
  number : Half
  time : Nat
  event : LogEvent
  read : Bool
  deriving DecidableEq, Repr

/-! ### Panel Port -/

/-- The reasons of REFUSED_STATE (chapter 11.3). -/
inductive Reason where
  | joining | unproven | noCurtain | conflict | alarm | notInShow | notAlert | notEvacuate | notClear
  | notDisabled | notInhibitable | alreadyOpen | notOpen | notSet
  deriving DecidableEq, Repr

/-- The answer codes (chapter 11.3), with the BAD_TRANSITION of R4. -/
inductive AnswerCode where
  | accepted | clamped | noAuthority | refusedState (reason : Reason) | full | badRequest | badTransition
  deriving DecidableEq, Repr

/-- The zone results of EFFECTS OPEN and EFFECTS CLOSE (R65, R66). -/
inductive ZoneResult where
  | notInhibitable | alreadyOpen | full | opened | closed | notOpen
  deriving DecidableEq, Repr

/-- An answer to an operator request: code, zone results and, for NOT_CLEAR, the lowest zone. -/
structure Answer where
  code : AnswerCode
  results : List (Nat × ZoneResult) := []
  zone : Option Nat := none
  deriving DecidableEq, Repr

/-- The modes of the Call Sequencer (R145). -/
inductive CallMode where
  | normal | drain | emergency
  deriving DecidableEq, Repr

/-- The own-status record (R173). -/
structure OwnStatus where
  number : Nat
  roles : RoleSet
  authorities : AuthoritySet
  restartCount : Byte
  nodeTime : Nat
  standing : Standing
  phase : PhaseView
  timerRunning : Bool
  generation : Byte
  stage : Stage
  silenced : Bool
  cause : Option StageCause
  ackWindow : Option Nat
  investigation : Option Nat
  realarmEnd : Option Nat
  ack : Option Byte
  silence : Option Silence
  disablements : List Nat
  curtain : Option CurtainState
  callMode : CallMode
  occupancy : Nat
  currentCall : CurrentCall
  summary : FaultSummary
  faults : Nat
  unread : Nat
  logEntries : Nat
  newest : Option Half
  deriving DecidableEq, Repr

/-- The zone record as shown in the merged zone record of an own zone (R52). -/
structure ZoneView where
  record : ZoneRecord
  zoneFault : Bool
  highest : Option Nat
  faulted : Nat
  deriving DecidableEq, Repr

/-- The items of R112 as the panel port shows them, the descent flags and the trace slot apart, which stand in the curtain
flags and in the trace sample record. -/
structure MotionItems where
  motion : Option Motion
  k : Nat
  history : List (Option Nat)
  validRun : Nat
  missingRun : Nat
  zone : Option DescentZone
  overspeedRun : Nat
  firstReason : Option DescentReason
  completed : Bool
  mismatch : Bool
  maxMain : Nat
  maxSlow : Nat
  deriving DecidableEq, Repr

/-- The records that READ RECORD returns (R173). -/
inductive Record where
  | ownStatus (status : OwnStatus)
  | peer (record : PeerRecord) (age : Nat) (degraded unauthorised : Bool)
  | mergedZone (view : MergedZone) (own : Option ZoneView)
  | alarmOrder (zone : Nat) (condition : Condition)
  | snapshot (snapshot : Snapshot)
  | curtain (curtain : Curtain) (flags : CurtainFlags) (motion : MotionItems)
  | trace (header : Trace) (sample : TraceSample)
  | lightGroup (group : LightGroup) (floors caps : Nat) (channels : List (Bay × Nat))
  | callQueue (entry : QueueEntry)
  | bay (record : BayRecord) (overcurrent : Supplies)
  | fault (entry : FaultEntry) (cls : FaultClass)
  | log (entry : LogEntry)
  | stationCounters (lines : PerLine (Half × Half × Half)) (calls : CallCounters) (descents : Half)
  | peerCounters (accepted gaps duplicates poisoned : Half)
  deriving DecidableEq, Repr

/-- The body of an answer: an operator request's answer, or a record flagged PRESENT, or NOT_PRESENT. -/
inductive AnswerBody where
  | request (answer : Answer)
  | present (record : Record)
  | notPresent
  deriving DecidableEq, Repr

/-- What one byte or field clocked out of the panel port is part of (R170, R171): the idle pattern, in which every byte
reads 255; the header, which opens with a start byte of 0 and carries the answer code or record flag, the unread count
and the standing; or the body (log entry 45). -/
inductive PortItem where
  | idle (value : Byte)
  | start (value : Byte)
  | code (code : AnswerCode)
  | flag (present : Bool)
  | unread (count : Nat)
  | standing (standing : Standing)
  | body (body : AnswerBody)
  deriving DecidableEq, Repr

/-- A transaction whose request has been judged (R170, R171): the answer with its header, and the number of
the log entry it reads, if any. -/
structure Transaction where
  body : AnswerBody
  unread : Nat
  standing : Standing
  logEntry : Option Half
  deriving DecidableEq, Repr

/-- The Panel Port with the incident log, oldest first, and the fault list (R174, R175). -/
structure Panel where
  log : List LogEntry
  nextEntry : Half
  faults : List FaultEntry
  transaction : Option Transaction
  deriving DecidableEq, Repr

end Sys2Proof.Machine
end

