-- ==== Sys2Proof/Machine/ColdValues.lean ====
section
/-! DEFINITION. The values of each block after a cold start, and what every start sets alike. -/

namespace Sys2Proof.Machine

/-- An image with every table and map empty: what a station with no valid image holds (R180). -/
def emptyImage : ConfigImage :=
  { station := 0, roles := {}, authorities := {}, detectorMap := ⟨[], [], [], []⟩,
    thresholds := { prealarm := 80, alarm := 120, dwell := 4, effectsOffset := 60 },
    ackTime := 30, investigationTime := 180,
    curtain := { height := 9000, slowBoundary := 1500, mainLimit := 600, slowLimit := 150,
                 descentLimit := 30, proofPeriod := 86400 },
    channelMap := ⟨[], [], [], []⟩, outputMap := ⟨[], [], [], []⟩,
    messages := { houseOpen := 0, performanceStart := 0, intervalStart := 0, bell5 := 0, bell3 := 0,
                  bell1 := 0, staffAlert := 0, evacuation := 0 },
    zoneTable := [], fohTable := [], lightTable := [], holdLevel := 128 }

/-- The configuration of a station that holds no usable image (R179, R180). -/
def noConfiguration (number : Nat) (failure : ConfigFailure) : Configuration :=
  { number := number, roles := {}, authorities := {}, image := emptyImage, signature := 0,
    failure := some failure }

/-- A Line Controller right after a cold start (R32). -/
def coldLine (now : Nat) : LineController :=
  { slot := none, inFlight := none, transmitter := .idle, lastSent := none, busy := false,
    ownFrame := none, silenceSince := now, goodFrames := 0, crcFailures := 0, superseded := 0 }

/-- The peer record of a station not heard since the start (R50). -/
def absentPeer (station : Nat) : PeerRecord :=
  { station := station, state := .absent, lastReport := none, acceptedAt := none, acceptedMs := 0,
    honoured := {}, accepted := 0, gaps := 0, duplicates := 0, poisoned := 0, gapScore := 0,
    mismatch := false }

/-- The peer table after a start at a station of the given number: one record for each other number from 1
to 40 (R34, R50). -/
def coldPeers (own : Nat) : PeerTable :=
  { records := ((List.range' 1 40).filter (· ≠ own)).map absentPeer, duplicateTimer := none }

/-- The phase view after a cold start (R14). -/
def coldPhase : PhaseView :=
  { phase := .closed, hold := false, epoch := 0, origin := 0, minutes := 0, remaining := 0 }

/-- A merged zone with no contribution (R73). -/
def normalZone : MergedZone := { condition := .normal, source := none, held := false, manual := false }

/-- The Alarm Stage Unit after a cold start (R91), before the own zones are merged. -/
def coldAlarm : Alarm :=
  { generation := 0, stage := .quiet, silenced := false, cause := none, ackWindow := none,
    investigation := none, realarmEnd := none, merged := List.replicate 64 normalZone, order := [],
    ack := none, silence := none, disablements := [], snapshot := none }

/-- The proof record after a cold start (R109, R111): verdict none. Its other fields, of which no rule gives a value
beside that verdict, are 0 (log entry 83). -/
def coldProof : ProofRecord :=
  { verdict := .none, time := 0, descentTime := 0, maxMain := 0, maxSlow := 0 }

/-- The limit and beam view until the first delivery (R111). -/
def openView : LimitView :=
  { topClosed := false, bottomClosed := false, beamBroken := false, buttonPressed := false }

/-- The Curtain Controller after a start in the given state (R93, R111), with the record and count that a warm
start keeps. -/
def startCurtain (state : CurtainState) (proof : ProofRecord) (descents : Half) : Curtain :=
  { state := state, output := none, view := openView, position := none, reported := none,
    cause := none, raiseTimer := none, lastEpoch := none, seen := [], ownMismatch := false,
    supervisorMismatch := false, proof := proof, descents := descents, delivery := none, demandKind := none, demandEpoch := 0 }

/-- The Descent Supervisor after a start (R127), with the trace slot that a warm start keeps. -/
def startSupervisor (trace : Option Trace) : Supervisor :=
  { motion := none, k := 0, history := [], validRun := 0, missingRun := 0, encoderLost := false,
    encoderRaised := false, zone := none, overspeedRun := 0, overspeed := false, stall := false,
    overtime := false, governorHeld := false, firstReason := none, completed := false,
    descentTime := 0, mismatch := false, maxMain := 0, maxSlow := 0, ownsTrace := false,
    trace := trace }

/-- A light group with no target (R142, R143) at the given output level. Until R135 is first computed there is no base,
floor, cap or source to show (log entry 84). -/
def restingGroup (output : Nat) : LightGroup :=
  { precedence := [], target := none, output := output, start := 0, steps := 0, step := 0,
    fading := false, mix := none }

def zeroCounters : CallCounters :=
  { merged := 0, droppedFull := 0, quieted := 0, preemptedDropped := 0, stale := 0 }

/-- The Call Sequencer after a start (R157), with the counters that a warm start keeps. -/
def startCalls (counters : CallCounters) : Calls :=
  { queue := [], current := .none, outstanding := ⟨false, false, false, false⟩, gap := none,
    staffRepeat := none, staffDue := false, drain := false, seen := [], counters := counters,
    requests := (List.range' 1 4).map fun n => { slot := n, epoch := 0, request := none } }

def suppliesOff : Supplies := { logic := false, loop := false, field := false }

/-- A bay record at the beginning of a start (R169). -/
def emptyBay : BayRecord :=
  { state := .empty, presence := .none, sensed := none, supplies := suppliesOff, debounce := none,
    ready := none, reason := none, lost := none, missed := 0, play := 0, commands := [], exchangeAt := 0,
    sent := none, taken := none, reachedAt := 0, playing := none }

end Sys2Proof.Machine
end

