-- ==== Sys2Proof/Machine/State.lean ====
section
/-! DEFINITION. The state of the FT-620, why a command may stop, and the state before a first start. -/

namespace Sys2Proof.Machine

/-- The FT-620 never stops with a fault: every event of the manual leads to a next state. -/
inductive Fault where
  deriving DecidableEq, Repr

/-- Why a command has no meaning. -/
inductive Refusal where
  /-- Raised by `exec` for a command that has no meaning yet; safe, since nothing is claimed of it. -/
  | notModelled (mnemonic : String)
  deriving DecidableEq, Repr

/-- The state of the FT-620, with the queue of the commands that wait, first in first out, and the model's own
counter of free values drawn (log entry 1). -/
structure State where
  pending : List Instr
  clock : Clock
  power : Power
  station : Station
  lines : PerLine LineController
  composer : Composer
  peers : PeerTable
  phase : PhaseView
  detection : Detection
  alarm : Alarm
  curtain : Curtain
  descent : Supervisor
  lights : Lights
  calls : Calls
  bays : PerBay BayRecord
  panel : Panel
  draws : Nat
  deriving DecidableEq, Repr

/-- The FT-620 in reset, before its first start: every block at its cold values, no configuration, a retained
store that has held no supply, and no command waiting (log entries 4 and 5). -/
def State.reset : State :=
  { pending := [],
    clock := { now := 0, secondAt := 0, outputAt := 0 },
    power := { supply := true, resetAsserted := false, running := false, storeGood := false, start := none },
    station := { standing := .starting, joining := false, joiningUntil := 0, nodeTime := 0,
                 provenAtStop := false, memory := .noAnswer, config := noConfiguration 0 .crc },
    lines := ⟨coldLine 0, coldLine 0⟩,
    composer := { sequence := 0, restartCount := 0, changePending := false, image := none,
                  composedAt := 0 },
    peers := coldPeers 0,
    phase := coldPhase,
    detection := { detectors := [], zones := [], windows := [], copies := [] },
    alarm := coldAlarm,
    curtain := startCurtain .none coldProof 0,
    descent := startSupervisor none,
    lights := { groups := [], view := [], claims := [] },
    calls := startCalls zeroCounters,
    bays := ⟨emptyBay, emptyBay, emptyBay, emptyBay⟩,
    panel := { log := [], nextEntry := 0, faults := [], transaction := none },
    draws := 0 }

end Sys2Proof.Machine
end

