-- ==== Sys2Proof/Machine/Ops.lean ====
section
/-! DEFINITION. The named operations that every block uses: block updates of the state, the newer-than
comparison (R1), lookups by line and bay, the clock, the marks to the Report Composer, the fault list and the
incident log (R174 to R176), and the reading of the configuration. -/

namespace Sys2Proof

def PerLine.get {α : Type} (p : PerLine α) : Line → α
  | .a => p.a
  | .b => p.b

def PerLine.set {α : Type} (p : PerLine α) (l : Line) (x : α) : PerLine α :=
  match l with
  | .a => { p with a := x }
  | .b => { p with b := x }

def Line.other : Line → Line
  | .a => .b
  | .b => .a

def PerBay.get {α : Type} (p : PerBay α) : Bay → α
  | .b1 => p.b1
  | .b2 => p.b2
  | .b3 => p.b3
  | .b4 => p.b4

def PerBay.set {α : Type} (p : PerBay α) (b : Bay) (x : α) : PerBay α :=
  match b with
  | .b1 => { p with b1 := x }
  | .b2 => { p with b2 := x }
  | .b3 => { p with b3 := x }
  | .b4 => { p with b4 := x }

/-- The audience is present in HOUSE_OPEN, PERFORMANCE and INTERVAL (chapter 0). -/
def Phase.audiencePresent : Phase → Bool
  | .houseOpen => true
  | .performance => true
  | .interval => true
  | _ => false

/-- The phases in which the hold may be on (R2). -/
def Phase.holdAllowed : Phase → Bool
  | .performance => true
  | .interval => true
  | _ => false

/-- R185: the place of a step in a start. -/
def StartStep.number : StartStep → Nat
  | .kindDecided => 1 | .imageValidated => 2 | .countFixed => 3 | .recordsSet => 4 | .startLogged => 5 | .valuesTaken => 6

end Sys2Proof

namespace Sys2Proof.Machine

/-! ### One update for each block of the state -/

def State.withPending (s : State) (x : List Instr) : State := { s with pending := x }
def State.withClock (s : State) (x : Clock) : State := { s with clock := x }
def State.withPower (s : State) (x : Power) : State := { s with power := x }
def State.withStation (s : State) (x : Station) : State := { s with station := x }
def State.withLines (s : State) (x : PerLine LineController) : State := { s with lines := x }
def State.withComposer (s : State) (x : Composer) : State := { s with composer := x }
def State.withPeers (s : State) (x : PeerTable) : State := { s with peers := x }
def State.withPhase (s : State) (x : PhaseView) : State := { s with phase := x }
def State.withDetection (s : State) (x : Detection) : State := { s with detection := x }
def State.withAlarm (s : State) (x : Alarm) : State := { s with alarm := x }
def State.withCurtain (s : State) (x : Curtain) : State := { s with curtain := x }
def State.withDescent (s : State) (x : Supervisor) : State := { s with descent := x }
def State.withLights (s : State) (x : Lights) : State := { s with lights := x }
def State.withCalls (s : State) (x : Calls) : State := { s with calls := x }
def State.withBays (s : State) (x : PerBay BayRecord) : State := { s with bays := x }
def State.withPanel (s : State) (x : Panel) : State := { s with panel := x }
def State.withDraws (s : State) (x : Nat) : State := { s with draws := x }

/-! ### Lines and bays -/

def everyBay {α : Type} (x : α) : PerBay α := ⟨x, x, x, x⟩

/-- The four bays in ascending order. -/
def bayList : List Bay := [.b1, .b2, .b3, .b4]

def bayNumber : Bay → Nat
  | .b1 => 1 | .b2 => 2 | .b3 => 3 | .b4 => 4

def bayOfNumber : Nat → Option Bay
  | 1 => some .b1 | 2 => some .b2 | 3 => some .b3 | 4 => some .b4 | _ => none

def State.line (s : State) (l : Line) : LineController := s.lines.get l

def State.withLine (s : State) (l : Line) (x : LineController) : State := s.withLines (s.lines.set l x)

def State.bay (s : State) (b : Bay) : BayRecord := s.bays.get b

def State.withBay (s : State) (b : Bay) (x : BayRecord) : State := s.withBays (s.bays.set b x)

/-! ### Numbering (chapter 0) -/

/-- The station numbers 1 to 40, ascending. -/
def stationNumbers : List Nat := List.range' 1 40

/-- The zone numbers 1 to 64, ascending. -/
def zoneNumbers : List Nat := List.range' 1 64

/-- The FOH zone numbers 1 to 16, ascending. -/
def fohNumbers : List Nat := List.range' 1 16

/-- The light group numbers 1 to 16, ascending. -/
def groupNumbers : List Nat := List.range' 1 16

/-- A set of FOH zones as the ascending list of its members. -/
def fohSet (zones : List Nat) : List Nat := fohNumbers.filter fun z => zones.contains z

/-- R1: `a` is newer than `b` when a − b modulo 256 lies in 1 to 127. -/
def newer (a b : Byte) : Bool := 1 ≤ (a - b).toNat && (a - b).toNat ≤ 127

/-- A zone is in ALARM when its condition is ALARM_ACTIVE or ALARM_LATCHED (chapter 0). -/
def Condition.inAlarm : Condition → Bool
  | .alarmActive => true
  | .alarmLatched => true
  | _ => false

/-! ### The identity and the image in use -/

def State.own (s : State) : Nat := s.station.config.number

def State.roles (s : State) : RoleSet := s.station.config.roles

def State.authorities (s : State) : AuthoritySet := s.station.config.authorities

def State.image (s : State) : ConfigImage := s.station.config.image

/-- The station holds a valid image (R179, R180). -/
def State.configured (s : State) : Bool := s.station.config.failure.isNone

def State.now (s : State) : Nat := s.clock.now

def State.nodeTime (s : State) : Nat := s.station.nodeTime

/-- The row of the zone table for a zone; none outside 1 to 64 and at a station with no zone table. -/
def State.zoneRow (s : State) (z : Nat) : Option ZoneRow :=
  if z = 0 then none else s.image.zoneTable[z - 1]?

/-- The zones whose supervising station is the own number (R51). -/
def State.isOwnZone (s : State) (z : Nat) : Bool :=
  match s.zoneRow z with
  | some row => row.station == s.own
  | none => false

def State.zoneInhibitable (s : State) (z : Nat) : Bool :=
  match s.zoneRow z with
  | some row => row.inhibitable
  | none => false

def State.zoneCurtainFlag (s : State) (z : Nat) : Bool :=
  match s.zoneRow z with
  | some row => row.curtain
  | none => false

def State.zoneDirect (s : State) (z : Nat) : Bool :=
  match s.zoneRow z with
  | some row => row.mode == .direct
  | none => false

def State.fohRow (s : State) (z : Nat) : Option FohRow :=
  if z = 0 then none else s.image.fohTable[z - 1]?

/-- The own FOH zones, ascending (R144). -/
def State.ownFoh (s : State) : List Nat :=
  fohNumbers.filter fun z =>
    match s.fohRow z with
    | some row => row.station == s.own
    | none => false

def State.fohAdjacent (s : State) (z : Nat) : Bool :=
  match s.fohRow z with
  | some row => row.adjacent
  | none => false

def State.fohStaff (s : State) (z : Nat) : Bool :=
  match s.fohRow z with
  | some row => row.staff
  | none => false

/-- The record of a peer station, if it is a configured peer (R34). -/
def State.peer (s : State) (station : Nat) : Option PeerRecord :=
  s.peers.records.find? fun r => r.station == station

/-- Replaces the record of its station. -/
def State.withPeer (s : State) (record : PeerRecord) : State :=
  s.withPeers { s.peers with
    records := s.peers.records.map fun r => if r.station = record.station then record else r }

/-- A peer is live while its record is in JOINING or LIVE (R35). -/
def PeerState.heard : PeerState → Bool
  | .joining => true
  | .live => true
  | _ => false

/-- A peer's record is LIVE with an item honoured: its last report then. -/
def PeerRecord.liveReport (r : PeerRecord) (honoured : Bool) : Option Report :=
  if r.state = .live ∧ honoured then r.lastReport else none

/-! ### The clock (log entry 3) -/

/-- A contending controller that has not lost has won by the end of the precedence byte, within a
millisecond (R20). -/
def LineController.afterPrecedence (c : LineController) : LineController :=
  match c.transmitter with
  | .contending => { c with transmitter := .sending }
  | _ => c

/-- Running time stands at `t` or later. -/
def State.advanceTo (s : State) (t : Nat) : State :=
  if s.clock.now < t then
    (s.withClock { s.clock with now := t }).withLines
      ⟨s.lines.a.afterPrecedence, s.lines.b.afterPrecedence⟩
  else s

/-- One millisecond of running time in which no command comes. -/
def State.tick (s : State) : State := s.advanceTo (s.clock.now + 1)

/-! ### Marks, log and faults -/

/-- A block marks a change of reportable state to the Report Composer (R26). -/
def State.mark (s : State) : State := s.withComposer { s.composer with changePending := true }

def State.markIf (s : State) (changed : Bool) : State := if changed then s.mark else s

/-- Makes an entry of the incident log, unread; a ring of 32 overwrites its oldest (R175). -/
def State.log (s : State) (event : LogEvent) : State :=
  let entry : LogEntry :=
    { number := s.panel.nextEntry, time := s.nodeTime, event := event, read := false }
  let kept := if s.panel.log.length < Config.logSize then s.panel.log else s.panel.log.drop 1
  s.withPanel { s.panel with log := kept ++ [entry], nextEntry := s.panel.nextEntry + 1 }

def State.logIf (s : State) (holds : Bool) (event : LogEvent) : State :=
  if holds then s.log event else s

/-- The class of a fault key (R174). -/
def FaultKey.cls : FaultKey → FaultClass
  | .lineFault _ => .line
  | .peerSilent _ => .peer
  | .peerDegraded _ => .peer
  | .unauthorisedField _ => .peer
  | .bayMisseated _ => .bay
  | .bayFailed _ => .bay
  | .driveLost => .curtain
  | .limitMismatch => .curtain
  | .raiseTimeout => .curtain
  | .encoderLost => .curtain
  | .overspeed => .curtain
  | .stall => .curtain
  | .overtime => .curtain
  | .zoneFault _ => .zone
  | .duplicateStation => .peer
  | .curtainConflict => .curtain
  | .composerCheck => .configuration
  | .configInvalid => .configuration

/-- A fault key stands while the fault list holds it (R174). -/
def State.stands (s : State) (key : FaultKey) : Bool := s.panel.faults.any fun e => e.key == key

/-- The fault-summary word: a bit is set while a fault of its class stands (R17, R174). -/
def summaryOf (faults : List FaultEntry) : FaultSummary :=
  let holds (c : FaultClass) : Bool := faults.any fun e => e.key.cls == c
  { line := holds .line, peer := holds .peer, bay := holds .bay, curtain := holds .curtain,
    zone := holds .zone, configuration := holds .configuration }

def State.summary (s : State) : FaultSummary := summaryOf s.panel.faults

/-- Puts a fault list in place; a change of the fault-summary word marks the health section (R174). -/
def State.withFaults (s : State) (faults : List FaultEntry) : State :=
  (s.withPanel { s.panel with faults := faults }).markIf (summaryOf faults != s.summary)

/-- Raises a key that does not stand: it joins the list at its end and FAULT RAISED is logged (R174). -/
def State.raiseFault (s : State) (key : FaultKey) (detail : FaultDetail) : State :=
  if s.stands key then s
  else
    (s.withFaults (s.panel.faults ++ [{ key := key, time := s.nodeTime, detail := detail }])).log
      (.faultRaised key detail)

/-- Clears a standing key: its entry leaves the list and FAULT CLEARED is logged (R174). -/
def State.clearFault (s : State) (key : FaultKey) : State :=
  if s.stands key then
    (s.withFaults (s.panel.faults.filter fun e => e.key != key)).log (.faultCleared key)
  else s

/-- Makes a key stand or not, as the flag it follows. -/
def State.setFault (s : State) (key : FaultKey) (detail : FaultDetail) (standing : Bool) : State :=
  if standing then s.raiseFault key detail else s.clearFault key

/-- The unread count: the number of unread entries of the ring (R176). -/
def State.unread (s : State) : Nat := (s.panel.log.filter fun e => !e.read).length

/-- The station is out of reset, and a start in progress has made its START entry (R176). -/
def Power.drivesAttn (p : Power) : Bool := p.running || p.start.any fun q => decide (StartStep.startLogged.number ≤ q.step.number)

/-- The ATTN output: released in reset and from the beginning of a start until its START entry, and asserted else while
the unread count is 1 or more (R176, R182). -/
def State.attn (s : State) : Bool := s.power.drivesAttn && decide (1 ≤ s.unread)

/-! ### Counting curtain stations (R5, R47) -/

/-- The records in JOINING or LIVE whose last report holds the role CURTAIN. -/
def State.curtainPeers (s : State) : List PeerRecord :=
  s.peers.records.filter fun r =>
    r.state.heard &&
      match r.lastReport with
      | some report => report.roles.curtain
      | none => false

/-- The count of curtain stations in the own view. -/
def State.curtainCount (s : State) : Nat := s.roles.curtain.toNat + s.curtainPeers.length

/-- The curtain is proven: a PASS no older than the proof period (R109). -/
def State.proven (s : State) : Bool :=
  s.curtain.proof.verdict == .pass &&
    decide (s.nodeTime - s.curtain.proof.time ≤ s.image.curtain.proofPeriod)

/-! ### The outcome of a command -/

/-- The outcome of a command that leads to a next state. -/
abbrev Result := Host.Outcome State Fault Refusal

end Sys2Proof.Machine
end

