-- ==== Sys2Proof/Machine/Composer.lean ====
section
/-! DEFINITION. The pending slots of the Line Controllers and the Report Composer: placing, contending and
returning a report (R20, R30), gathering and checking a report (R27, R31), its class (R28), the composition
itself (R26, R29), and the meanings of the two composition commands. -/

namespace Sys2Proof.Machine

/-! ### One Line Controller's slot and transmitter -/

/-- The more urgent of two classes (R30). -/
def moreUrgent : ReportClass → ReportClass → ReportClass
  | .urgent, _ => .urgent
  | _, .urgent => .urgent
  | .prompt, _ => .prompt
  | _, .prompt => .prompt
  | .routine, .routine => .routine

/-- R20: a controller whose slot holds a report moves it into flight and begins to contend. -/
def LineController.contend (c : LineController) : LineController :=
  match c.slot with
  | some p => { c with slot := none, inFlight := some p, transmitter := .contending, busy := true }
  | none => c

/-- R20: a controller reads its line before it contends; a line that carries another station's frame is busy until it
falls idle (log entry 7). -/
def LineController.sense (c : LineController) (carries : Bool) : LineController := { c with busy := c.busy || carries }

/-- R30: the Composer places a report in the slot. -/
def LineController.place (c : LineController) (p : Pending) : LineController :=
  match c.slot with
  | some held =>
    { c with slot := some { p with cls := moreUrgent held.cls p.cls }, superseded := c.superseded + 1 }
  | none =>
    let c' := { c with slot := some p }
    match c.transmitter with
    | .idle => if c.busy then { c' with transmitter := .waiting } else c'.contend
    | _ => c'

/-- R20, R30: the report in flight goes back to the slot, or is superseded by the newer one there. -/
def LineController.returnFlight (c : LineController) : LineController :=
  match c.inFlight, c.slot with
  | none, _ => c
  | some p, none => { c with slot := some p, inFlight := none, transmitter := .waiting }
  | some p, some newest =>
    { c with slot := some { newest with cls := moreUrgent p.cls newest.cls }, inFlight := none,
             transmitter := .waiting, superseded := c.superseded + 1 }

/-- The sequence and restart count that a report carries. -/
def Report.note (r : Report) : Byte × Byte := (r.sequence, r.restartCount)

/-- R21: the frame in flight has been sent to completion. -/
def LineController.frameSent (c : LineController) : LineController :=
  match c.inFlight with
  | none => c
  | some p =>
    { c with inFlight := none, lastSent := some p.report.note,
             ownFrame := some (encodeFrame p.cls p.poisoned p.report),
             transmitter := if c.slot.isSome then .waiting else .idle }

/-! ### Gathering a report (R27) -/

/-- The zone list of R17: the own zones that are not NORMAL, those in ALARM first, each part ascending. -/
def State.zoneList (s : State) : List ZoneEntry :=
  let entries := (s.detection.zones.filter fun z => z.condition != .normal).map fun z =>
    { zone := z.zone, condition := z.condition : ZoneEntry }
  entries.filter (·.condition.inAlarm) ++ entries.filter (!·.condition.inAlarm)

def State.phaseSection (s : State) : PhaseSection :=
  { phase := s.phase.phase, hold := s.phase.hold, epoch := s.phase.epoch, origin := s.phase.origin,
    minutes := s.phase.minutes }

/-- The alarm section; the acknowledgement and silence fields are 0 unless the role set holds DESK. -/
def State.alarmSection (s : State) : AlarmSection :=
  let ack := if s.roles.desk then s.alarm.ack else none
  let silence := if s.roles.desk then s.alarm.silence else none
  { generation := s.alarm.generation, stage := s.alarm.stage, silenced := s.alarm.silenced,
    ackPresent := ack.isSome, silencePresent := silence.isSome, ackGeneration := ack.getD 0,
    silenceGeneration := (silence.map (·.generation)).getD 0,
    silenceCount := (silence.map (·.count)).getD 0, zones := s.zoneList }

/-- The curtain flags: drive lost follows the state, limit mismatch its two causes (R105), the descent flags the
supervisor (R110), and proven is derived (R109). -/
def State.curtainFlags (s : State) : CurtainFlags :=
  { proven := s.proven, encoderLost := s.descent.encoderLost, overspeed := s.descent.overspeed,
    stall := s.descent.stall, overtime := s.descent.overtime,
    driveLost := s.curtain.state == .driveLost,
    limitMismatch := s.curtain.ownMismatch || s.curtain.supervisorMismatch }

/-- A curtain section with every field 0 (R17). -/
def zeroCurtain : CurtainSection := { state := .none, flags := {}, position := some 0, lastEpoch := 0 }

def State.curtainSection (s : State) : CurtainSection :=
  if s.roles.curtain then
    { state := s.curtain.state, flags := s.curtainFlags, position := s.curtain.reported,
      lastEpoch := s.curtain.lastEpoch.getD 0 }
  else zeroCurtain

/-- A desk section with every field and count 0 (R17). -/
def zeroDesk : DeskSection :=
  { demandKind := none, demandEpoch := 0, windows := [], disablements := [], claims := [], calls := [] }

/-- The call-request list, in ascending slot number. -/
def Calls.requestList (c : Calls) : List CallEntry :=
  c.requests.filterMap fun r =>
    r.request.map fun q =>
      { slot := r.slot, repeats := q.repeats, message := q.message, zones := q.zones, epoch := q.epoch }

def State.deskSection (s : State) : DeskSection :=
  if s.roles.desk then
    { demandKind := s.curtain.demandKind, demandEpoch := s.curtain.demandEpoch,
      windows := s.detection.windows, disablements := s.alarm.disablements, claims := s.lights.claims,
      calls := s.calls.requestList }
  else zeroDesk

/-- The report as the owning blocks hold it at this moment (R27). -/
def State.gather (s : State) : Report :=
  { station := s.own, sequence := s.composer.sequence, restartCount := s.composer.restartCount,
    joining := s.station.joining, roles := s.roles, authorities := s.authorities,
    signature := s.station.config.signature, phase := s.phaseSection, alarm := s.alarmSection,
    curtain := s.curtainSection, desk := s.deskSection, health := s.summary }

/-! ### The checks of R31 -/

def zoneListGood (s : State) (zones : List ZoneEntry) : Bool :=
  zones.length ≤ 64 && decide (zones.map (·.zone)).Nodup &&
    zones.all fun e => s.isOwnZone e.zone && e.condition != .normal

def deskListsGood (d : DeskSection) : Bool :=
  d.windows.length ≤ 8 && d.disablements.length ≤ 8 && d.claims.length ≤ 8 && d.calls.length ≤ 4 &&
    decide (d.claims.map (·.slot)).Nodup && decide (d.calls.map (·.slot)).Nodup &&
    d.calls.all fun c => !c.zones.isEmpty && 1 ≤ c.repeats && c.repeats ≤ 3

def deskValuesGood (d : DeskSection) : Bool :=
  (d.claims.all fun c => c.claim.fade ≤ 600) && d.windows.all fun w => w.remaining ≤ 1200

def positionGood : Option Nat → Bool
  | none => true
  | some p => p ≤ Config.positionMax

def phaseAndStageGood (r : Report) : Bool :=
  (!r.phase.hold || r.phase.phase.holdAllowed) && (!r.alarm.silenced || r.alarm.stage == .evacuate) &&
    r.alarm.silenceCount ≤ 64

/-- The consistency check of a composition. -/
def reportGood (s : State) (r : Report) : Bool :=
  zoneListGood s r.alarm.zones && deskListsGood r.desk && deskValuesGood r.desk &&
    positionGood r.curtain.position && phaseAndStageGood r

/-- Each list cut to its maximum, keeping its first entries. -/
def cutReport (r : Report) : Report :=
  { r with
    alarm := { r.alarm with zones := r.alarm.zones.take 64 }
    desk := { r.desk with
      windows := r.desk.windows.take 8, disablements := r.desk.disablements.take 8,
      claims := r.desk.claims.take 8, calls := r.desk.calls.take 4 } }

/-! ### Class and composition -/

/-- R28: the class from a comparison with the previous composition, the sequence left out. -/
def classOf (previous : Option Report) (r : Report) : ReportClass :=
  match previous with
  | none => .urgent
  | some p =>
    if r.alarm ≠ p.alarm ∨ r.curtain ≠ p.curtain then .urgent
    else if { r with sequence := p.sequence } ≠ p then .prompt
    else .routine

/-- The report, class and poisoned mark of a composition made now. -/
def State.composed (s : State) : Pending :=
  let gathered := s.gather
  let good := reportGood s gathered
  let report := if good then gathered else cutReport gathered
  { report := report, cls := classOf s.composer.image report, poisoned := !good }

/-- R20, R30: a composition at one Line Controller, which finds its line idle or carrying another station's frame. A
line that has fallen idle at this moment, `idle`, carries none (log entry 7). -/
def State.placed (s : State) (idle : Option Line) (l : Line) : LineController :=
  ((s.line l).sense (idle != some l && Config.carriesFrame s.draws l)).place s.composed

/-- R26 to R31: one composition, placed in both slots at once; COMPOSER CHECK follows its check. The report
carries the fault-summary word as it stood before; R31 says so of a raising, and the model holds it of a clearing too
(log entry 46). `idle` is the line that falls idle at this moment, if one does. -/
def State.composeAt (s : State) (idle : Option Line) : State :=
  let s₁ := s.withComposer
    { s.composer with sequence := s.composer.sequence + 1, changePending := false,
                      image := some s.composed.report, composedAt := s.clock.now }
  let s₂ := (s₁.withLines ⟨s.placed idle .a, s.placed idle .b⟩).withDraws (s.draws + 1)
  s₂.setFault .composerCheck .none s.composed.poisoned

/-- A composition at a moment at which no line falls idle. -/
def State.compose (s : State) : State := s.composeAt none

/-- R26, mark after or within the spacing: with a change pending, the Composer composes once 50 ms have passed
since the last composition. Every command ends with this; `idle` is the line that falls idle at it, if one does. -/
def State.settleAt (s : State) (idle : Option Line) : State :=
  if s.composer.changePending && decide (s.composer.composedAt + Config.spacingMs ≤ s.clock.now) then
    s.composeAt idle
  else s

/-- The end of a command at which no line falls idle. -/
def State.settle (s : State) : State := s.settleAt none

/-- The outcome of a command at a station that is out of reset: its effect, whole, and then the composition that
its marks call for. A station in reset takes no such command (R182, log entry 5). -/
def whenRunning (s : State) (effect : State → State) : Result :=
  if s.power.running then .next (effect s).settle else .next s

/-- COMPOSE_SPACING_EXPIRY (R26): with a change pending, 50 ms have passed since the last composition. -/
def execComposeSpacingExpiry (s : State) : Result :=
  whenRunning s fun s =>
    if s.composer.changePending then s.advanceTo (s.composer.composedAt + Config.spacingMs) else s

/-- ROUTINE_COMPOSITION (R26): 1000 ms have passed since the last composition. -/
def execRoutineComposition (s : State) : Result :=
  whenRunning s fun s => (s.advanceTo (s.composer.composedAt + Config.routineMs)).compose

end Sys2Proof.Machine
end

