-- ==== Sys2Proof/Machine/Calls.lean ====
section
/-! DEFINITION. The Call Sequencer (chapter 9): play commands, the queue and its drain flag, the start test,
preemption, the standing calls, the notices it takes, the request CALL REQUEST, and the meanings of the two
call timers. -/

namespace Sys2Proof.Machine

/-! ### Modules and outputs -/

def noBays : PerBay Bool := everyBay false

def anyBay (set : PerBay Bool) : Bool := bayList.any fun b => set.get b

/-- A bay holds an ONLINE CALL module. -/
def State.callOnline (s : State) (b : Bay) : Bool :=
  (s.bay b).state == .online && (s.bay b).sensed == some .call

/-- The outputs of a bay that the call output map gives to zones of a set; an output mapped to a zone that is no
own zone is unused (R144). -/
def State.outputsFor (s : State) (b : Bay) (zones : List Nat) : List Nat :=
  (List.range' 1 4).filter fun n =>
    match (s.image.outputMap.get b).getD (n - 1) none with
    | some z => zones.contains z && s.ownFoh.contains z
    | none => false

/-- A bay can play to a set of zones: an ONLINE CALL module with an output mapped to one of them. -/
def State.serves (s : State) (zones : List Nat) (b : Bay) : Bool :=
  s.callOnline b && !(s.outputsFor b zones).isEmpty

/-- The set of the bays that satisfy a test. -/
def bayset (test : Bay → Bool) : PerBay Bool := ⟨test .b1, test .b2, test .b3, test .b4⟩

/-- R168: one play command, under the bay's next play number. -/
def State.bayPlays (s : State) (b : Bay) (message : Nat) (outputs : List Nat) : State :=
  let bay := s.bay b
  s.withBay b { bay with play := bay.play + 1,
                         commands := bay.commands ++
                           [.play { message := message, outputs := outputs, number := bay.play + 1 }] }

/-- R168: one stop command. -/
def State.bayStops (s : State) (b : Bay) : State :=
  let bay := s.bay b
  s.withBay b { bay with commands := bay.commands ++ [.stop] }

/-- One play command to each bay of a set, for its outputs mapped to the zones. -/
def State.playOn (s : State) (set : PerBay Bool) (message : Nat) (zones : List Nat) : State :=
  bayList.foldl (fun t b => if set.get b then t.bayPlays b message (s.outputsFor b zones) else t) s

/-- One stop command to each bay of a set. -/
def State.stopOn (s : State) (set : PerBay Bool) : State :=
  bayList.foldl (fun t b => if set.get b then t.bayStops b else t) s

def State.setCurrent (s : State) (call : CurrentCall) (outstanding : PerBay Bool) : State :=
  s.withCalls { s.calls with current := call, outstanding := outstanding }

/-- Every outstanding bay is commanded to stop and the current call becomes none. -/
def State.stopCurrent (s : State) : State := (s.stopOn s.calls.outstanding).setCurrent .none noBays

/-! ### Counters -/

def State.countMerged (s : State) : State :=
  s.withCalls { s.calls with counters := { s.calls.counters with merged := s.calls.counters.merged + 1 } }

def State.countDroppedFull (s : State) : State :=
  s.withCalls { s.calls with
    counters := { s.calls.counters with droppedFull := s.calls.counters.droppedFull + 1 } }

def State.countQuieted (s : State) : State :=
  s.withCalls { s.calls with counters := { s.calls.counters with quieted := s.calls.counters.quieted + 1 } }

def State.countPreemptedDropped (s : State) : State :=
  s.withCalls { s.calls with
    counters := { s.calls.counters with preemptedDropped := s.calls.counters.preemptedDropped + 1 } }

def State.countStale (s : State) : State :=
  s.withCalls { s.calls with counters := { s.calls.counters with stale := s.calls.counters.stale + 1 } }

/-! ### The queue and the drain flag (R148, R152) -/

def State.withQueue (s : State) (queue : List QueueEntry) : State :=
  s.withCalls { s.calls with queue := queue }

/-- R145: EMERGENCY while the own stage is EVACUATE, else DRAIN while drain is set. A station without CALLS shows it by
the same test (log entry 87). -/
def State.callMode (s : State) : CallMode :=
  if s.alarm.stage = .evacuate then .emergency else if s.calls.drain then .drain else .normal

/-- R152: an entry joining that brings the occupancy to 12 or more sets drain and stops a running gap. -/
def State.drainOnJoin (s : State) : State :=
  if 12 ≤ s.calls.queue.length ∧ s.calls.drain = false then
    (s.withCalls { s.calls with drain := true, gap := none }).log .callsDrain
  else s

/-- R152: an entry leaving that brings the occupancy to 4 or fewer clears drain. -/
def State.drainOnLeave (s : State) : State :=
  if s.calls.queue.length ≤ 4 ∧ s.calls.drain = true then
    (s.withCalls { s.calls with drain := false }).log .callsNormal
  else s

/-- R148: an offer merged into an entry with the same message. -/
def QueueEntry.merge (e : QueueEntry) (zones : List Nat) (repeats : Nat) (cls : CallClass) : QueueEntry :=
  { e with zones := fohSet (e.zones ++ zones), repeats := max e.repeats repeats,
           cls := if e.cls = .desk ∨ cls = .desk then .desk else .auto }

/-- The zone set or the repeats of an entry grew in a merge (R148). -/
def grew (before after : QueueEntry) : Bool :=
  before.zones != after.zones || before.repeats != after.repeats

/-- R148: an offer to the queue; the start test is made by the caller. -/
def State.enqueue (s : State) (message : Nat) (zones : List Nat) (repeats source : Nat) (cls : CallClass) :
    State :=
  let cut := s.ownFoh.filter fun z => zones.contains z
  if cut.isEmpty then s
  else
    match s.calls.queue.find? fun e => e.message == message with
    | some e =>
      let e' := e.merge cut repeats cls
      ((s.withQueue (s.calls.queue.map fun x => if x.message = message then e' else x)).countMerged).logIf
        (grew e e') (.callMerged message source)
    | none =>
      if Config.queueSize ≤ s.calls.queue.length then
        s.countDroppedFull.log (.queueFull message source)
      else
        (s.withQueue (s.calls.queue ++
          [{ message := message, zones := cut, repeats := repeats, source := source, cls := cls,
             enqueued := s.nodeTime, preempted := false }])).drainOnJoin

/-! ### Starting the head entry (R150) -/

/-- R150: all that must hold before the head entry starts. -/
def State.canStart (s : State) : Bool :=
  s.roles.calls && s.calls.current == .none && s.alarm.stage != .evacuate && s.calls.gap.isNone &&
    !s.calls.staffDue && !s.calls.queue.isEmpty && bayList.any s.callOnline

/-- R150: the played zone set; AUDITORIUM_ADJACENT zones are quiet in PERFORMANCE with the hold off. -/
def State.playedZones (s : State) (e : QueueEntry) : List Nat :=
  if s.phase.phase = .performance ∧ s.phase.hold = false then e.zones.filter fun z => !s.fohAdjacent z
  else e.zones

/-- R150: the start test; a quieted or unserved entry is discarded and the next head tested at once. The
first argument bounds the entries tested. -/
def startTestUpTo : Nat → State → State
  | 0, s => s
  | n + 1, s =>
    if s.canStart then
      match s.calls.queue with
      | [] => s
      | e :: rest =>
        let s₁ := (s.withQueue rest).drainOnLeave
        let zones := s₁.playedZones e
        let set := bayset (s₁.serves zones)
        if zones.isEmpty then startTestUpTo n (s₁.countQuieted.log (.callQuieted e.message))
        else if anyBay set then
          (s₁.playOn set e.message zones).setCurrent
            (.queue { entry := e, zones := zones, bays := set }) set
        else startTestUpTo n (s₁.log (.callUnserved e.message))
    else s

def State.startTest (s : State) : State := startTestUpTo (s.calls.queue.length + 1) s

/-- R148 and R150: an offer, then the start test. -/
def State.offer (s : State) (message : Nat) (zones : List Nat) (repeats source : Nat) (cls : CallClass) :
    State :=
  if s.roles.calls then (s.enqueue message zones repeats source cls).startTest else s

/-! ### Standing calls and preemption (R153, R154) -/

/-- R153: the evacuation call, to every output mapped to an own zone; with none ONLINE it waits. -/
def State.startEvacuation (s : State) : State :=
  let set := bayset (s.serves s.ownFoh)
  if anyBay set then
    (s.playOn set s.image.messages.evacuation s.ownFoh).setCurrent .evacuation set
  else s

/-- The own FOH zones flagged STAFF. -/
def State.staffZones (s : State) : List Nat := s.ownFoh.filter s.fohStaff

/-- R153: the staff call; the repeat timer restarts at 30 s whether or not an output is ONLINE. A call that found
no output stays due (log entry 13), and restarts the timer again each time that it finds none (log entry 90). -/
def State.startStaff (s : State) : State :=
  let s' := s.withCalls { s.calls with staffRepeat := some (s.clock.now + Config.staffMs) }
  let set := bayset (s'.serves s'.staffZones)
  if anyBay set then
    let t := (s'.playOn set s'.image.messages.staffAlert s'.staffZones).setCurrent .staff set
    t.withCalls { t.calls with staffDue := false }
  else s'

/-- Starts a due standing call if nothing plays (R153). -/
def State.startStanding (s : State) : State :=
  if s.calls.current = .none then
    if s.alarm.stage = .evacuate then (if s.alarm.silenced then s else s.startEvacuation)
    else if s.calls.staffDue then s.startStaff
    else s
  else s

/-- R154: an entry preempted for the first time returns to the head of the queue. CALL PREEMPTED is logged first (log entry
78) and names the message, for which R154 gives no subject or detail (log entry 94); QUEUE FULL names the message and
source of the tail entry that is dropped (log entry 89). -/
def State.returnToHead (s : State) (e : QueueEntry) : State :=
  let e := { e with preempted := true }
  let s₀ := s.log (.callPreempted e.message)
  match s₀.calls.queue.find? fun x => x.message == e.message with
  | some x =>
    let x' := { x.merge e.zones e.repeats e.cls with
                preempted := true, enqueued := min x.enqueued e.enqueued }
    ((s₀.withQueue (x' :: s₀.calls.queue.filter fun y => y.message != e.message)).countMerged).logIf
      (grew x x') (.callMerged e.message e.source)
  | none =>
    let s₁ :=
      match s₀.calls.queue.getLast?, decide (Config.queueSize ≤ s₀.calls.queue.length) with
      | some tail, true =>
        (((s₀.withQueue s₀.calls.queue.dropLast).countDroppedFull).log
          (.queueFull tail.message tail.source)).drainOnLeave
      | _, _ => s₀
    (s₁.withQueue (e :: s₁.calls.queue)).drainOnJoin

/-- R154: the current queue call is preempted. -/
def State.preempt (s : State) : State :=
  match s.calls.current with
  | .queue call =>
    let s' := s.stopCurrent
    if call.entry.preempted then s'.countPreemptedDropped.log (.callDropped call.entry.message)
    else s'.returnToHead call.entry
  | _ => s

/-- R153, R154: a standing call becomes due. -/
def State.standingDue (s : State) : State := s.preempt.startStanding

/-- R153: the staff call becomes due, where an own FOH zone is STAFF-flagged. -/
def State.staffBecomesDue (s : State) : State :=
  if s.staffZones.isEmpty then s
  else (s.withCalls { s.calls with staffDue := true }).standingDue

/-! ### The end of a play (R151) -/

/-- R151, R152: the gap starts unless drain is set, in which case the start test is made at once. -/
def State.startGap (s : State) : State :=
  if s.calls.drain then s.startTest
  else s.withCalls { s.calls with gap := some (s.clock.now + Config.gapMs) }

/-- R151, R153: the outstanding set of the current call has become empty. -/
def State.playDone (s : State) : State :=
  match s.calls.current with
  | .none => s
  | .queue call =>
    let left := call.entry.repeats - 1
    let set := bayset fun b => call.bays.get b && s.serves call.zones b
    if 0 < left ∧ anyBay set = true then
      (s.playOn set call.entry.message call.zones).setCurrent
        (.queue { call with entry := { call.entry with repeats := left }, bays := set }) set
    else (s.setCurrent .none noBays).startGap
  | .staff =>
    let s' := s.setCurrent .none noBays
    if s.calls.staffDue then s'.startStaff else s'.startGap
  | .evacuation => (s.setCurrent .none noBays).startStanding

/-- A bay leaves the outstanding set; an empty set completes the play. -/
def State.bayDone (s : State) (b : Bay) : State :=
  if s.calls.outstanding.get b then
    let left := s.calls.outstanding.set b false
    let s' := s.withCalls { s.calls with outstanding := left }
    if anyBay left then s' else s'.playDone
  else s

/-- R151: a player fault also enters CALL PLAYER FAULT, before what the bay's leaving brings about (log entry 77). -/
def State.bayFault (s : State) (b : Bay) : State :=
  if s.calls.outstanding.get b then (s.log (.callPlayerFault b)).bayDone b else s

/-! ### Notices -/

/-- The message of the automatic entry of a phase (R144, R149). -/
def entryMessage (m : HouseMessages) : Phase → Option Nat
  | .houseOpen => some m.houseOpen
  | .performance => some m.performanceStart
  | .interval => some m.intervalStart
  | _ => none

/-- The messages of the purposes that belong to a phase (R144). -/
def phaseMessages (m : HouseMessages) : Phase → List Nat
  | .houseOpen => [m.houseOpen]
  | .performance => [m.performanceStart]
  | .interval => [m.intervalStart, m.bell5, m.bell3, m.bell1]
  | _ => []

/-- R149: the message belongs to a purpose of some phase. -/
def isPhaseMessage (m : HouseMessages) (message : Nat) : Bool :=
  (phaseMessages m .houseOpen ++ phaseMessages m .performance ++ phaseMessages m .interval).contains message

/-- R149: an entry that a phase-entry notice withdraws. -/
def isWithdrawn (m : HouseMessages) (p : Phase) (e : QueueEntry) : Bool :=
  e.cls == .auto && isPhaseMessage m e.message && !(phaseMessages m p).contains e.message

/-- R149: a phase-entry notice withdraws the AUTO entries of other phases. The drain flag is judged after the last of them
(log entry 76). -/
def State.withdraw (s : State) (p : Phase) : State :=
  let out := s.calls.queue.filter (isWithdrawn s.image.messages p)
  let s' := s.withQueue (s.calls.queue.filter fun e => !isWithdrawn s.image.messages p e)
  let s'' := out.foldl (fun t e => t.log (.callWithdrawn e.message)) s'
  if out.isEmpty then s'' else s''.drainOnLeave

/-- R149: a phase-entry notice at the Call Sequencer. -/
def State.callsPhase (s : State) (p : Phase) : State :=
  if s.roles.calls then
    let s' := s.withdraw p
    match entryMessage s'.image.messages p with
    | some message => s'.offer message s'.ownFoh 1 s'.own .auto
    | none => s'
  else s

/-- R149: a mark event of the interval timer. -/
def State.callsMark (s : State) (mark : IntervalMark) : State :=
  let message := match mark with
    | .m300 => s.image.messages.bell5
    | .m180 => s.image.messages.bell3
    | .m60 => s.image.messages.bell1
  s.offer message s.ownFoh 2 s.own .auto

/-- R155: an entry enqueued more than 600 s ago. -/
def State.isStale (s : State) (e : QueueEntry) : Bool :=
  decide (e.enqueued + Config.staleSeconds < s.nodeTime)

/-- R155: the stale entries are discarded. The drain flag is judged after the last of them (log entry 76). -/
def State.discardStale (s : State) : State :=
  let out := s.calls.queue.filter s.isStale
  let s' := s.withQueue (s.calls.queue.filter fun e => !s.isStale e)
  let s'' := out.foldl (fun t e => t.countStale.log (.callStale e.message)) s'
  if out.isEmpty then s'' else s''.drainOnLeave

/-- The staff call is stopped and its timer too (R154, R155). A gap timer that runs is left running (log entry 88). -/
def State.endStaff (s : State) : State :=
  let s' := if s.calls.current = .staff then s.stopCurrent else s
  s'.withCalls { s'.calls with staffRepeat := none, staffDue := false }

/-- A stage notice at the Call Sequencer (R153 to R155). The start test of a stage that leaves ALERT or EVACUATE waits for
a gap timer that runs (log entry 88). -/
def State.callsStage (s : State) (old new : Stage) : State :=
  if !s.roles.calls then s
  else if new = .evacuate then s.endStaff.standingDue
  else if old = .evacuate then
    let s₁ := if s.calls.current = .evacuation then s.stopCurrent else s
    let s₂ := s₁.discardStale
    (if new = .alert then s₂.staffBecomesDue else s₂).startTest
  else if new = .alert then s.staffBecomesDue
  else if old = .alert then s.endStaff.startTest
  else s

/-- A silence notice at the Call Sequencer (R155). -/
def State.callsSilence (s : State) : State :=
  if s.roles.calls && s.alarm.stage == .evacuate then
    if s.alarm.silenced then
      (if s.calls.current = .evacuation then s.stopCurrent else s)
    else s.startStanding
  else s

/-- R156: the CALL module of a bay is lost. CALL DROPPED, for which R156 gives no subject or detail, names the message (log
entry 94). A queue call that was played on the bay, whose part of it has ended already, plays on, and the bay takes no
part in its repeats: the table of R156 has no row for this case (log entry 96). -/
def State.callLost (s : State) (b : Bay) : State :=
  match s.calls.current with
  | .none => s
  | .queue call =>
    if s.calls.outstanding.get b then
      ((s.stopOn (s.calls.outstanding.set b false)).setCurrent .none noBays |>.log
        (.callDropped call.entry.message)).startTest
    else s.setCurrent (.queue { call with bays := call.bays.set b false }) s.calls.outstanding
  | _ => s.bayDone b

/-- R156: a CALL module comes ONLINE. A due staff call is tried anew, with the timer restarted, also where the module has
no STAFF output (log entry 90). A module without an output to an own zone takes no part in a current evacuation call (log
entry 100). -/
def State.callCameOnline (s : State) (b : Bay) : State :=
  if !s.roles.calls then s
  else
    let s' :=
      if s.calls.current = .evacuation then
        if s.serves s.ownFoh b then
          (s.bayPlays b s.image.messages.evacuation (s.outputsFor b s.ownFoh)).setCurrent .evacuation
            (s.calls.outstanding.set b true)
        else s
      else s.startStanding
    s'.startTest

/-! ### Peer requests (R147) -/

def State.seenRequest (s : State) (station slot : Nat) : Option Byte :=
  (s.calls.seen.find? fun x => x.station == station && x.slot == slot).map (·.epoch)

def State.setSeenRequest (s : State) (station slot : Nat) (epoch : Option Byte) : State :=
  let others := s.calls.seen.filter fun x => !(x.station == station && x.slot == slot)
  s.withCalls { s.calls with
    seen := match epoch with
      | some e => others ++ [{ station := station, slot := slot, epoch := e }]
      | none => others }

/-- The call requests that may be used from a peer: its record LIVE and its requests honoured (R147). -/
def State.peerCalls (s : State) (station : Nat) : List CallEntry :=
  match s.peer station with
  | some r =>
    match r.liveReport r.honoured.calls with
    | some report => report.desk.calls
    | none => []
  | none => []

/-- R147: one slot at an acceptance that leaves the record LIVE, or JOINING. Of two entries of one slot, which R23 does not
reject, the first counts (log entry 86). -/
def State.judgeSlot (s : State) (station : Nat) (resync live : Bool) (slot : Nat) : State :=
  let entry := (s.peerCalls station).find? fun c => c.slot == slot
  match resync, live with
  | true, false => s.setSeenRequest station slot none
  | true, true => s.setSeenRequest station slot (entry.map (·.epoch))
  | false, false => s
  | false, true =>
    match entry with
    | none => s.setSeenRequest station slot none
    | some e =>
      let fresh := match s.seenRequest station slot with
        | none => true
        | some seen => newer e.epoch seen
      if fresh then
        (s.setSeenRequest station slot (some e.epoch)).offer e.message e.zones e.repeats station .desk
      else s

/-- An acceptance notice at the Call Sequencer (R147). -/
def State.callsAccept (s : State) (station : Nat) (resync live : Bool) : State :=
  if s.roles.calls then
    (List.range' 1 4).foldl (fun t slot => t.judgeSlot station resync live slot) s
  else s

/-! ### The request CALL REQUEST (R146) -/

/-- The request list after an accepted request: the slot epoch advances and the slot takes the request. -/
def placeRequest (requests : List RequestSlot) (slot message : Nat) (zones : List Nat) (repeats : Nat) :
    List RequestSlot :=
  requests.map fun r =>
    if r.slot = slot then
      { r with epoch := r.epoch + 1,
               request := some { message := message, zones := zones, repeats := repeats,
                                 epoch := r.epoch + 1 } }
    else r

/-- The form of a CALL REQUEST (R146, test 2). -/
def callRequestGood (slot message : Nat) (zones : List Nat) (repeats : Nat) : Bool :=
  decide (1 ≤ slot ∧ slot ≤ 4 ∧ 1 ≤ message ∧ message ≤ 200 ∧ 1 ≤ repeats ∧ repeats ≤ 3) &&
    !zones.isEmpty && zones.all fun z => 1 ≤ z && z ≤ 16

/-- CALL REQUEST (R146). -/
def requestCall (s : State) (slot message : Nat) (zones : List Nat) (repeats : Nat) : State × Answer :=
  if !(s.roles.desk && s.authorities.calls) then (s, { code := .noAuthority })
  else if !callRequestGood slot message zones repeats then (s, { code := .badRequest })
  else
    let s' := (s.withCalls { s.calls with
      requests := placeRequest s.calls.requests slot message (fohSet zones) repeats }).mark
    (s'.offer message (fohSet zones) repeats s'.own .desk, { code := .accepted })

/-! ### Timers -/

/-- GAP_EXPIRY (R151): the 2 s gap between calls expires and the start test is made. -/
def execGapExpiry (s : State) : Result :=
  whenRunning s fun s =>
    match s.calls.gap with
    | some t =>
      let s' := s.advanceTo t
      (s'.withCalls { s'.calls with gap := none }).startTest
    | none => s

/-- STAFF_REPEAT_EXPIRY (R153): the 30 s staff repeat timer expires and the staff call is due. -/
def execStaffRepeatExpiry (s : State) : Result :=
  whenRunning s fun s =>
    match s.calls.staffRepeat with
    | some t =>
      let s' := s.advanceTo t
      let s'' := s'.withCalls { s'.calls with staffRepeat := none }
      if s''.alarm.stage = .alert then s''.staffBecomesDue else s''
    | none => s

end Sys2Proof.Machine
end

