-- ==== Sys2Proof/Machine/Descent.lean ====
section
/-! DEFINITION. The Descent Supervisor (chapter 7): one sample judged whole in the order of R122 with the notices that it
hands, the start and the end of a motion, and the test verdict. The output set (R94) and the two causes of LIMIT
MISMATCH (R105), which the Curtain Controller holds, are here too. -/

namespace Sys2Proof.Machine

def State.curtainSettings (s : State) : CurtainSettings := s.image.curtain

/-- R95, R114: a reading as a height; above the overtravel allowance it counts as none. -/
def heightOf (height : Nat) : Option Nat → Option Nat
  | some r =>
    if r ≤ height then some r
    else if r ≤ height + Config.overtravel then some height
    else none
  | none => none

/-! ### The output set (R94) -/

/-- GOVERNOR by zone: SLOW in the slow zone and once the overspeed latch holds it there. -/
def Supervisor.governor (d : Supervisor) : Governor :=
  if d.governorHeld then .slow else if d.zone = some .slow then .slow else .normal

/-- The table of R94: the output set of a curtain state. -/
def outputSet (state : CurtainState) (d : Supervisor) : Option OutputSet :=
  match state with
  | .up => some { hold := true, governor := some .normal, motor := false }
  | .stopped => some { hold := true, governor := some .normal, motor := false }
  | .down => some { hold := true, governor := some .normal, motor := false }
  | .lowering => some { hold := false, governor := some .slow, motor := false }
  | .testing => some { hold := false, governor := some d.governor, motor := false }
  | .descending =>
    some { hold := false, governor := some (if d.overspeed then .slow else d.governor), motor := false }
  | .raising => some { hold := false, governor := some .normal, motor := true }
  | .unconfigured => some { hold := false, governor := none, motor := false }
  | .driveLost => none
  | .none => none

/-- The controller commands the output set of its state. -/
def State.command (s : State) : State :=
  s.withCurtain { s.curtain with output := outputSet s.curtain.state s.descent }

/-! ### LIMIT MISMATCH (R105) -/

/-- The two causes of LIMIT MISMATCH at the controller; the fault stands while either stands. -/
def State.setMismatch (s : State) (own supervisor : Bool) : State :=
  let stood := s.curtain.ownMismatch || s.curtain.supervisorMismatch
  ((s.withCurtain { s.curtain with ownMismatch := own, supervisorMismatch := supervisor }).markIf
    (stood != (own || supervisor))).setFault .limitMismatch .none (own || supervisor)

/-- The controller's supervisor cause comes to be the supervisor's own. -/
def State.settleMismatch (s : State) : State :=
  if s.curtain.supervisorMismatch = s.descent.mismatch then s
  else s.setMismatch s.curtain.ownMismatch s.descent.mismatch

/-! ### The notices of a sample (R104, R122) -/

/-- The five kinds of notice of R104; a raising carries what R123 logs with it. -/
inductive Notice where
  | raised (reason : DescentReason) (k : Nat) (position : Option Nat) (speed : Option Int)
  | cleared (reason : DescentReason)
  | zone (zone : DescentZone)
  | stop
  | completion
  | mismatch (standing : Bool)
  deriving DecidableEq, Repr

/-- What a stage of a sample leaves: the supervisor, and the notices to the controller in their order. -/
structure Judged where
  supervisor : Supervisor
  notices : List Notice
  deriving DecidableEq, Repr

/-- The next stage of a sample, its notices after those before it. -/
def Judged.andThen (j : Judged) (stage : Supervisor → Judged) : Judged :=
  { supervisor := (stage j.supervisor).supervisor, notices := j.notices ++ (stage j.supervisor).notices }

/-- A stage that hands no notice. -/
def Supervisor.silent (d : Supervisor) : Judged := { supervisor := d, notices := [] }

/-! ### Raising a reason (R112, R115, R118, R119, R121, R125) -/

/-- The curtain fault key that follows a descent flag (R110). -/
def reasonKey : DescentReason → FaultKey
  | .encoderLost => .encoderLost
  | .overspeed => .overspeed
  | .stall => .stall
  | .overtime => .overtime

def Supervisor.setFlag (d : Supervisor) : DescentReason → Supervisor
  | .encoderLost => { d with encoderLost := true, encoderRaised := true }
  | .overspeed => { d with overspeed := true }
  | .stall => { d with stall := true }
  | .overtime => { d with overtime := true }

def Raisings.note (r : Raisings) (k : Nat) : DescentReason → Raisings
  | .encoderLost => { r with encoderLost := some k }
  | .overspeed => { r with overspeed := some k }
  | .stall => { r with stall := some k }
  | .overtime => { r with overtime := some k }

/-- The trace record of the motion, where the motion owns the slot, changed by `f`. -/
def Supervisor.onTrace (d : Supervisor) (f : Trace → Trace) : Supervisor :=
  if d.ownsTrace then { d with trace := d.trace.map f } else d

/-- The flag is set, the first reason is kept, and the trace header notes the sample count. -/
def Supervisor.raise (d : Supervisor) (reason : DescentReason) : Supervisor :=
  let d' := d.setFlag reason
  { d' with firstReason := d.firstReason.orElse fun _ => some reason }.onTrace
    fun t => { t with raisings := t.raisings.note d.k reason }

/-- A stage that raises a reason, with the notices that follow its flag notice. -/
def Supervisor.raising (d : Supervisor) (reason : DescentReason) (p : Option Nat) (v : Option Int)
    (more : List Notice) : Judged :=
  { supervisor := d.raise reason, notices := .raised reason d.k p v :: more }

/-! ### The stages of a sample (R122) -/

/-- R114: the runs. -/
def Supervisor.validate (d : Supervisor) : Option Nat → Supervisor
  | some _ => { d with validRun := d.validRun + 1, missingRun := 0 }
  | none => { d with validRun := 0, missingRun := min 2 (d.missingRun + 1) }

/-- R115: a missing run of 2 raises ENCODER LOST, ending the mismatch cause; the first valid sample clears a flag
that a previous motion left. -/
def Supervisor.judgeEncoder (p : Option Nat) (d : Supervisor) : Judged :=
  let d' := d.validate p
  if d'.missingRun = 2 ∧ d.encoderRaised = false then
    { d' with mismatch := false }.raising .encoderLost p none (if d.mismatch then [.mismatch false] else [])
  else if p.isSome && d.encoderLost && !d.encoderRaised then
    { supervisor := { d' with encoderLost := false }, notices := [.cleared .encoderLost] }
  else d'.silent

/-- An earlier sample of the history, counted back from the current one; none where it is missing. -/
def Supervisor.back (d : Supervisor) (n : Nat) : Option Nat := (d.history[n - 1]?).join

/-- R116: the speed in mm/s of the sample with position p, where it is known. -/
def Supervisor.speed (d : Supervisor) (p : Option Nat) : Option Int :=
  if 4 ≤ d.k ∧ 5 ≤ d.validRun ∧ d.encoderRaised = false then
    match d.back 4, p with
    | some before, some now => some (Int.tdiv (((before : Int) - now) * 10) 4)
    | _, _ => none
  else none

/-- R117: main at the slow-zone boundary and above, slow below it. -/
def zoneAt (boundary p : Nat) : DescentZone := if boundary ≤ p then .main else .slow

/-- R117: a valid sample whose zone differs sets the sample zone, with a zone notice. -/
def Supervisor.judgeZone (boundary : Nat) (p : Option Nat) (d : Supervisor) : Judged :=
  match p, d.encoderRaised with
  | some p, false =>
    if d.zone = some (zoneAt boundary p) then d.silent
    else { supervisor := { d with zone := some (zoneAt boundary p) }, notices := [.zone (zoneAt boundary p)] }
  | _, _ => d.silent

/-- R117: a speed whose span lies below the boundary at both ends is a slow-zone speed. -/
def speedZone (boundary before now : Nat) : DescentZone :=
  if before < boundary ∧ now < boundary then .slow else .main

/-- R118: the limit in force. -/
def limitInForce (c : CurtainSettings) (motion : Option Motion) (zone : DescentZone) : Nat :=
  match motion, zone with
  | some .lowering, _ => c.slowLimit
  | _, .main => c.mainLimit
  | _, .slow => c.slowLimit

/-- R118: a known speed enters the maximum of its zone if it is greater. -/
def Supervisor.keepMaximum (d : Supervisor) (zone : DescentZone) (v : Int) : Supervisor :=
  match zone with
  | .main => { d with maxMain := max d.maxMain v.toNat }
  | .slow => { d with maxSlow := max d.maxSlow v.toNat }

/-- R118: the overspeed run and the maxima. -/
def Supervisor.judgeSpeed (c : CurtainSettings) (d : Supervisor) (p : Option Nat) (v : Option Int) :
    Supervisor :=
  match v, d.back 4, p with
  | some v, some before, some now =>
    let zone := speedZone c.slowBoundary before now
    { d with overspeedRun :=
        if (limitInForce c d.motion zone : Int) < v then min 3 (d.overspeedRun + 1) else 0 }.keepMaximum
      zone v
  | _, _, _ => { d with overspeedRun := 0 }

/-- R120: the sample meets completion. -/
def Supervisor.completes (d : Supervisor) (p : Option Nat) (bottom : Bool) : Bool :=
  bottom && (d.encoderRaised ||
    match p with
    | some p => p ≤ Config.bottomTolerance
    | none => false)

/-- R118 to R120: OVERSPEED and STALL hand a stop in LOWERING, unless the sample meets completion. -/
def Supervisor.stops (d : Supervisor) (p : Option Nat) (bottom : Bool) : List Notice :=
  if d.motion = some .lowering ∧ d.completes p bottom = false then [.stop] else []

/-- R118: OVERSPEED at a run of three. -/
def Supervisor.judgeOverspeed (c : CurtainSettings) (p : Option Nat) (v : Option Int) (bottom : Bool)
    (d : Supervisor) : Judged :=
  if d.encoderRaised then d.silent
  else
    let d' := d.judgeSpeed c p v
    if d'.overspeedRun = 3 ∧ d.overspeed = false then d'.raising .overspeed p v (d.stops p bottom) else d'.silent

/-- R119: less than 50 mm of fall over 20 samples, above the bottom tolerance. -/
def Supervisor.stalls (d : Supervisor) (p : Option Nat) : Bool :=
  match d.back 20, p with
  | some before, some now =>
    20 ≤ d.k && !d.stall && !d.encoderRaised && decide (before < now + 50) &&
      decide (Config.bottomTolerance < now)
  | _, _ => false

/-- R119. -/
def Supervisor.judgeStall (p : Option Nat) (bottom : Bool) (d : Supervisor) : Judged :=
  if d.stalls p then d.raising .stall p none (d.stops p bottom) else d.silent

/-- R120: the supervisor's mismatch cause after a sample; a missing sample leaves it. -/
def Supervisor.mismatchAfter (d : Supervisor) (p : Option Nat) (bottom : Bool) : Bool :=
  match p with
  | some p => !d.encoderRaised && bottom && decide (Config.mismatchHeight < p)
  | none => d.mismatch

/-- R120: completion and the mismatch cause. -/
def Supervisor.judgeCompletion (p : Option Nat) (bottom : Bool) (d : Supervisor) : Judged :=
  let arrived := d.completes p bottom && !d.completed
  let standing := d.mismatchAfter p bottom
  let d' := if arrived then { d with completed := true, descentTime := d.k } else d
  { supervisor := { d' with mismatch := standing },
    notices := (if arrived then [.completion] else []) ++
      if standing = d.mismatch then [] else [.mismatch standing] }

/-- R121: TESTING and DESCENDING are judged for overtime. -/
def judgesOvertime : Option Motion → Bool
  | some .testing => true
  | some .descending => true
  | _ => false

/-- R121: OVERTIME, also at the sample that meets completion. -/
def Supervisor.judgeOvertime (limit : Nat) (completedBefore : Bool) (p : Option Nat) (d : Supervisor) : Judged :=
  if judgesOvertime d.motion && !d.overtime && !completedBefore && decide (limit * 1000 < d.k * 100) then
    d.raising .overtime p none []
  else d.silent

/-- R122, last stage: the trace entry (R125), and the sample enters the position history. -/
def Supervisor.record (d : Supervisor) (p : Option Nat) (v : Option Int) : Supervisor :=
  let d' := { d with history := (p :: d.history).take 20 }
  if d.k < Config.traceSize then
    d'.onTrace fun t => { t with samples := t.samples ++ [{ k := d.k, position := p, speed := v }] }
  else d'

/-- R122: the stages of one sample with position p, judged whole, its count k already set. -/
def Supervisor.judge (c : CurtainSettings) (d : Supervisor) (p : Option Nat) (bottom : Bool) : Judged :=
  let encoder := d.judgeEncoder p
  let v := encoder.supervisor.speed p
  let all := ((((encoder.andThen (·.judgeZone c.slowBoundary p)).andThen
    (·.judgeOverspeed c p v bottom)).andThen (·.judgeStall p bottom)).andThen
    (·.judgeCompletion p bottom)).andThen (·.judgeOvertime c.descentLimit d.completed p)
  { all with supervisor := all.supervisor.record p v }

/-- R112, R113: the next sample; k holds at 65535. -/
def Supervisor.next (c : CurtainSettings) (d : Supervisor) (reading : Option Nat) (bottom : Bool) : Judged :=
  { d with k := min 65535 (d.k + 1) }.judge c (heightOf c.height reading) bottom

/-! ### The start of a motion (R112, R125) -/

/-- R125: DESCENDING always takes the trace slot; another motion takes it where no held record stands. -/
def takesTrace (motion : Motion) : Option Trace → Bool
  | none => true
  | some t => motion == .descending || !t.held

/-- The header of a trace that begins. -/
def newTrace (motion : Motion) (cause : Option DescentCause) (time : Nat) : Trace :=
  { motion := motion, cause := if motion = .descending then cause else none, startTime := time,
    finish := .inProgress, raisings := {}, held := motion == .descending, samples := [] }

/-- R112: the supervisor at a motion-start notice. -/
def Supervisor.begin (d : Supervisor) (motion : Motion) (cause : Option DescentCause) (time : Nat) :
    Supervisor :=
  { d with
    motion := some motion, k := 0, history := [], validRun := 0, missingRun := 0, overspeedRun := 0,
    firstReason := none, completed := false, descentTime := 0, maxMain := 0, maxSlow := 0, zone := none,
    mismatch := false, overspeed := false, stall := false, overtime := false,
    encoderRaised := false, governorHeld := false, ownsTrace := takesTrace motion d.trace,
    trace := if takesTrace motion d.trace then some (newTrace motion cause time) else d.trace }

/-- R112: the flag notices of a motion-start: overspeed, stall and overtime, each where it stood, in the order in which
the rule names them (log entry 78). -/
def Supervisor.clearings (d : Supervisor) : List Notice :=
  (if d.overspeed then [.cleared .overspeed] else []) ++ (if d.stall then [.cleared .stall] else []) ++
    if d.overtime then [.cleared .overtime] else []

/-- R113: sample 0, from the module's latest delivery since its bay came ONLINE. -/
def Supervisor.first (c : CurtainSettings) (d : Supervisor) : Option DriveInputs → Judged
  | some inputs => d.judge c (heightOf c.height inputs.reading) inputs.bottomClosed
  | none => d.judge c none false

/-! ### The end of a motion (R112, R124) -/

/-- R124: the failure that a first reason names. -/
def failureOf : DescentReason → TestFailure
  | .encoderLost => .encoderLost
  | .overspeed => .overspeed
  | .stall => .stall
  | .overtime => .overtime

/-- R124: the verdict of a test by its end reason. An arrival passes where the descent time is no greater than Tmax
and no OVERSPEED, STALL or ENCODER LOST was raised; a failure has a first reason. -/
def Supervisor.verdict (d : Supervisor) (limit : Nat) : EndReason → Verdict
  | .arrived =>
    match d.firstReason with
    | none => if d.descentTime ≤ limit * 10 then .pass else .failed .overtime
    | some why => .failed (failureOf why)
  | .obstructed => .failed .obstructed
  | _ => .aborted

/-- The log entry of a verdict (R109). -/
def verdictEvent (reason : EndReason) : Verdict → LogEvent
  | .pass => .testPass
  | .failed why => .testFailed why
  | _ => .testAborted reason

/-- R124: the proof record of a test that ends. -/
def State.writeVerdict (s : State) (reason : EndReason) : State :=
  let d := s.descent
  let verdict := d.verdict s.curtainSettings.descentLimit reason
  let record : ProofRecord :=
    { verdict := verdict, time := s.nodeTime,
      descentTime := if reason = .arrived then d.descentTime else d.k,
      maxMain := d.maxMain, maxSlow := d.maxSlow }
  ((s.withCurtain { s.curtain with proof := record }).mark).log (verdictEvent reason verdict)

/-- R112, R125: the supervisor after a motion-end notice. -/
def Supervisor.finish (d : Supervisor) (reason : EndReason) : Supervisor :=
  { d.onTrace fun t => { t with finish := .ended reason } with motion := none, ownsTrace := false, mismatch := false }

/-- R112: a motion-end notice. The ending of a standing mismatch cause is taken at once (log entry 47). -/
def State.motionEnd (s : State) (reason : EndReason) : State :=
  match s.descent.motion with
  | none => s
  | some motion =>
    let s₁ := if motion = .testing then s.writeVerdict reason else s
    let s₂ := s₁.withDescent (s₁.descent.finish reason)
    if s₁.descent.mismatch then s₂.settleMismatch else s₂

end Sys2Proof.Machine
end

