-- ==== Sys2Proof/Machine/Curtain.lean ====
section
/-! DEFINITION. The Curtain Controller (chapter 6): its state changes, the emergency triggers, the judging of
demands, the deliveries of the drive, the loss and recovery of the drive, the request CURTAIN, and the meaning of
RAISE_TIMEOUT. -/

namespace Sys2Proof.Machine

/-! ### Changes of state (R94, R97) -/

/-- The motion that a downward state runs (R97). -/
def motionOf : CurtainState → Option Motion
  | .lowering => some .lowering
  | .testing => some .testing
  | .descending => some .descending
  | _ => none

/-- The fields of the controller after a change of state: the raise timer runs in RAISING alone (R103), and the
reported position takes the position view (R95). -/
def Curtain.enter (c : Curtain) (state : CurtainState) (now : Nat) : Curtain :=
  { c with state := state, reported := c.position,
           raiseTimer := if state = .raising then some (now + Config.raiseMs) else none }

/-- A change of curtain state: the new output set, the log entry and the mark (R94, R97). An entry to UP clears
RAISE TIMEOUT (R103), after the CURTAIN entry (log entry 75). -/
def State.enterState (s : State) (state : CurtainState) (detail : CurtainDetail) : State :=
  let s₁ := ((s.withCurtain (s.curtain.enter state s.clock.now)).command.mark).log (.curtain state detail)
  if state = .up then s₁.clearFault .raiseTimeout else s₁

/-- The supervisor reports completion: DOWN, the motion ends ARRIVED, and the descents count rises (R104). -/
def State.arrive (s : State) : State :=
  let s₁ := s.motionEnd .arrived
  (s₁.withCurtain { s₁.curtain with descents := s₁.curtain.descents + 1 }).enterState .down (.reason .arrived)

/-! ### Notices of the supervisor (R104) -/

/-- A flag notice of a raising: the curtain section, the fault key, and the log with the sample count, the position
and, for OVERSPEED, the speed (R123). ENCODER LOST may find its key standing from the motion before. -/
def State.takeRaised (s : State) (reason : DescentReason) (k : Nat) (p : Option Nat) (v : Option Int) : State :=
  if s.stands (reasonKey reason) then s.mark.log (.descentRaised reason k p v)
  else s.mark.raiseFault (reasonKey reason) (.descent k p v)

/-- R94, R104: overspeed in the main zone holds GOVERNOR at SLOW to the end of the motion. -/
def State.holdGovernor (s : State) : State :=
  (s.withDescent { s.descent with
    governorHeld := s.descent.governorHeld || s.descent.zone == some .main }).command

/-- R104: the notices other than a stop. Completion acts in a downward state. -/
def State.takeNotice (s : State) : Notice → State
  | .raised .overspeed k p v => (s.takeRaised .overspeed k p v).holdGovernor
  | .raised reason k p v => s.takeRaised reason k p v
  | .cleared reason => s.mark.clearFault (reasonKey reason)
  | .zone _ => s.command
  | .mismatch standing => s.setMismatch s.curtain.ownMismatch standing
  | .completion => if (motionOf s.curtain.state).isSome then s.arrive else s
  | .stop => s

/-- A motion-start notice (R112): the supervisor begins the motion, the outputs of the new state are commanded, and
sample 0 is judged. Its speed is not known, so that it hands no stop (R116). -/
def State.motionStart (s : State) (motion : Motion) : State :=
  let s₁ := (s.withDescent (s.descent.begin motion s.curtain.cause s.nodeTime)).settleMismatch
  let s₂ := (s.descent.clearings.foldl State.takeNotice s₁).command
  let j := s₂.descent.first s₂.curtainSettings s₂.curtain.delivery
  j.notices.foldl State.takeNotice (s₂.withDescent j.supervisor)

/-- An entry to a downward state starts its motion, whose sample 0 may meet completion (R97, R113). The CURTAIN entry is
logged before the flags of the motion before are cleared (log entry 75). -/
def State.enterMotion (s : State) (state : CurtainState) (motion : Motion) (detail : CurtainDetail) : State :=
  (s.enterState state detail).motionStart motion

/-- An entry to DESCENDING with its cause (R96). -/
def State.descend (s : State) (cause : DescentCause) (detail : CurtainDetail) : State :=
  (s.withCurtain { s.curtain with cause := some cause }).enterMotion .descending .descending detail

/-! ### Emergency triggers (R96) -/

/-- A zone whose CURTAIN flag is set is in ALARM in the merged zone view. -/
def State.zoneTrigger (s : State) : Bool :=
  (s.alarm.merged.zipIdx).any fun (m, i) => m.condition.inAlarm && s.zoneCurtainFlag (i + 1)

/-- The first standing trigger, in the order ZONE, EVACUATE, BUTTON. -/
def State.standingTrigger (s : State) : Option DescentCause :=
  if s.zoneTrigger then some .zone
  else if s.alarm.stage = .evacuate then some .evacuate
  else if s.curtain.view.buttonPressed then some .button
  else none

/-- The states that a trigger takes into DESCENDING. -/
def CurtainState.yields : CurtainState → Bool
  | .up => true
  | .stopped => true
  | .lowering => true
  | .testing => true
  | .raising => true
  | _ => false

/-- A trigger acts: a motion that runs ends with reason TRIGGER, and the descent starts. -/
def State.fall (s : State) (cause : DescentCause) : State :=
  if s.curtain.state.yields then (s.motionEnd .trigger).descend cause (.cause cause) else s

/-- The test of the standing triggers. -/
def State.testTriggers (s : State) : State :=
  match s.standingTrigger with
  | some cause => s.fall cause
  | none => s

/-- A change to a state with no motion; the change tests the triggers. -/
def State.goTo (s : State) (state : CurtainState) (detail : CurtainDetail) : State :=
  (s.enterState state detail).testTriggers

/-- A motion ends and the curtain is held: STOPPED (R97). The reasons of R97 are those of a downward motion that ends; a STOP
accepted in RAISING, where none ends, is logged with DEMAND_STOP all the same (log entry 99). -/
def State.stopMotion (s : State) (reason : EndReason) : State :=
  (s.motionEnd reason).goTo .stopped (.reason reason)

/-- A change to a downward state by a demand; the change tests the triggers. R97 logs it with its cause or reason and no
rule names one: the detail is empty (log entry 81). -/
def State.startMotion (s : State) (state : CurtainState) (motion : Motion) : State :=
  (s.enterMotion state motion .none).testTriggers

/-! ### Demands (R100, R101) -/

/-- What R101 makes of a demand. -/
inductive Judgement where
  | refused (reason : DemandRefusal)
  | noEffect
  | raises | lowers | tests | stops | drops
  deriving DecidableEq, Repr

/-- R101: the table, each row's refusals in the order written. -/
def State.judgement (s : State) (kind : DemandKind) : Judgement :=
  let state := s.curtain.state
  if state = .driveLost then .refused .driveLost
  else
    match kind with
    | .raise =>
      if s.standingTrigger.isSome then .refused .trigger
      else if s.curtain.position.isNone then .refused .position
      else if state = .down ∨ state = .stopped then .raises
      else .refused .state
    | .lower =>
      if s.curtain.view.beamBroken then .refused .beam
      else if s.curtain.position.isNone then .refused .position
      else if state = .up ∨ state = .stopped then .lowers
      else .refused .state
    | .test =>
      if s.curtain.view.beamBroken then .refused .beam
      else if s.curtain.position.isNone then .refused .position
      else if state = .up then .tests
      else .refused .state
    | .stop =>
      if state = .descending then .refused .descending
      else if state = .lowering ∨ state = .raising ∨ state = .testing then .stops
      else .refused .state
    | .drop => if state.yields then .drops else .noEffect

/-- R101: the judged demand is carried out or refused. CURTAIN RAISING is logged without detail, as in the worked sequence
of chapter 6.8 (log entry 81). DEMAND TAKEN, for which no rule gives a detail, names the source, kind and epoch as DEMAND
REFUSED does (log entry 94). A STOP accepted in RAISING stops with the reason DEMAND_STOP (log entry 99). -/
def State.carryOut (s : State) (source : Nat) (kind : DemandKind) (epoch : Byte) : State :=
  match s.judgement kind with
  | .refused reason => s.log (.demandRefused source kind epoch reason)
  | .noEffect => s.log (.demandTaken source kind epoch)
  | .raises => s.goTo .raising .none
  | .lowers => s.startMotion .lowering .lowering
  | .tests => s.startMotion .testing .testing
  | .stops => s.stopMotion .demandStop
  | .drops => s.fall .drop

/-- The last demand epoch acted on; a change of the byte that the curtain section carries marks it (R93). -/
def State.setLastEpoch (s : State) (epoch : Byte) : State :=
  (s.withCurtain { s.curtain with lastEpoch := some epoch }).markIf (s.curtain.lastEpoch.getD 0 != epoch)

def State.seenDemand (s : State) (source : Nat) : Option Byte :=
  (s.curtain.seen.find? fun x => x.station == source).map (·.epoch)

/-- R100: the seen demand epoch of a source. -/
def State.setSeenDemand (s : State) (source : Nat) (epoch : Option Byte) : State :=
  let others := s.curtain.seen.filter fun x => x.station != source
  s.withCurtain { s.curtain with
    seen := match epoch with
      | some e => others ++ [{ station := source, epoch := e }]
      | none => others }

/-- A candidate is judged when no demand has been acted on or its epoch is the newer (R100). -/
def State.isJudged (s : State) (epoch : Byte) : Bool :=
  match s.curtain.lastEpoch with
  | none => true
  | some last => newer epoch last

/-- R100: a source's present and usable demand. -/
def State.offerDemand (s : State) (source : Nat) (kind : DemandKind) (epoch : Byte) : State :=
  if s.seenDemand source = some epoch then s
  else
    let s₁ := s.setSeenDemand source (some epoch)
    if s₁.isJudged epoch then (s₁.carryOut source kind epoch).setLastEpoch epoch
    else s₁.log (.demandOvertaken source kind epoch)

/-- An acceptance notice at the Curtain Controller (R100). -/
def State.curtainAccept (s : State) (station : Nat) (resync : Bool) : State :=
  match s.roles.curtain, s.peer station with
  | true, some r =>
    match r.lastReport, resync with
    | some report, true =>
      s.setSeenDemand station (if r.honoured.demand then some report.desk.demandEpoch else none)
    | some report, false =>
      match r.state == .live && r.honoured.demand, report.desk.demandKind with
      | true, some kind => s.offerDemand station kind report.desk.demandEpoch
      | _, _ => s
    | none, _ => s
  | _, _ => s

/-! ### The request CURTAIN (R99) -/

/-- R99: the owner epoch, from the curtain stations that the desk counts. -/
def State.ownerEpoch (s : State) : Byte :=
  match s.roles.curtain, s.curtainPeers with
  | true, [] => s.curtain.lastEpoch.getD 0
  | false, [r] =>
    match r.lastReport with
    | some report => report.curtain.lastEpoch
    | none => s.curtain.demandEpoch
  | _, _ => s.curtain.demandEpoch

/-- R99: the newer of the held demand epoch and the owner epoch; equal values are either's, and two values 128
apart are a free pick (log entry 2). -/
def newerEpoch (held owner : Byte) : Byte :=
  if newer owner held then owner
  else if newer held owner then held
  else if held = owner then held
  else if Config.ownerEpochAtOpposite held owner then owner
  else held

/-- R99: a desk places a demand in its own report; a curtain station that holds the desk reads it at once. A kind of
`none` is none of the five. -/
def requestDemand (s : State) (kind : Option DemandKind) : State × Answer :=
  match s.roles.desk && s.authorities.curtain, kind with
  | false, _ => (s, { code := .noAuthority })
  | true, none => (s, { code := .badRequest })
  | true, some kind =>
    let epoch := newerEpoch s.curtain.demandEpoch s.ownerEpoch + 1
    let s₁ := (s.withCurtain { s.curtain with demandKind := some kind, demandEpoch := epoch }).mark
    (if s.roles.curtain then s₁.offerDemand s.own kind epoch else s₁, { code := .accepted })

/-! ### Deliveries (R95, R102, R103, R105) -/

/-- The limit and beam view that a delivery gives. -/
def viewOf (inputs : DriveInputs) : LimitView :=
  { topClosed := inputs.topClosed, bottomClosed := inputs.bottomClosed, beamBroken := inputs.beamBroken,
    buttonPressed := inputs.buttonPressed }

/-- R105: the own cause of LIMIT MISMATCH. -/
def LimitView.bothClosed (v : LimitView) : Bool := v.topClosed && v.bottomClosed

/-- R95: the states in which the reported position takes the position view at every delivery. -/
def CurtainState.moving : CurtainState → Bool
  | .lowering => true
  | .testing => true
  | .descending => true
  | .raising => true
  | _ => false

/-- R95: two positions that differ by 10 mm or more, or of which one alone is unknown. -/
def farApart : Option Nat → Option Nat → Bool
  | some a, some b => a + 10 ≤ b || b + 10 ≤ a
  | none, none => false
  | _, _ => true

/-- R95: the reported position after a delivery. -/
def reportedAfter (state : CurtainState) (reported position : Option Nat) : Option Nat :=
  if state.moving || farApart reported position then position else reported

/-- R95: the limit and beam view and the position view of a delivery; both limits closed make the position
unknown. -/
def State.takeInputs (s : State) (inputs : DriveInputs) : State :=
  let view := viewOf inputs
  let position := if view.bothClosed then none else heightOf s.curtainSettings.height inputs.reading
  s.withCurtain { s.curtain with view := view, position := position, delivery := some inputs }

/-- R95: the reported position follows, and marks when it changes. -/
def State.followPosition (s : State) : State :=
  let reported := reportedAfter s.curtain.state s.curtain.reported s.curtain.position
  (s.withCurtain { s.curtain with reported := reported }).markIf (s.curtain.reported != reported)

/-- R102: the beam changes to broken. CURTAIN OBSTRUCTED is logged before the stop and its verdict (log entry 72). -/
def State.beamBreaks (s : State) : State :=
  if s.curtain.state = .lowering ∨ s.curtain.state = .testing then
    (s.log (.curtainObstructed s.curtain.reported)).stopMotion .obstructed
  else s

/-- R105: the own cause of LIMIT MISMATCH starts and ends with the limit view. -/
def State.judgeLimits (s : State) : State :=
  s.setMismatch s.curtain.view.bothClosed s.curtain.supervisorMismatch

/-- R103, R105: the top limit closes. R97 logs the change with its cause or reason and R103 and R105 name none: the
detail is empty (log entry 48). -/
def State.topCloses (s : State) : State :=
  if s.curtain.state = .raising then
    (if s.curtain.view.bottomClosed then s.goTo .stopped .none else s.goTo .up .none)
  else s

/-- R104: a notice of a sample; a stop acts in LOWERING. -/
def State.takeSampleNotice (s : State) : Notice → State
  | .stop => if s.curtain.state = .lowering then s.stopMotion .supervisorStop else s
  | n => s.takeNotice n

/-- R122: a sample judged whole, its notices taken in order. A mismatch cause that a notice among them ended with its
motion stands no longer (log entry 47). -/
def State.takeJudged (s : State) (j : Judged) : State :=
  (j.notices.foldl State.takeSampleNotice (s.withDescent j.supervisor)).settleMismatch

/-- An exchange slot that ends while a motion is active is one sample (R113). -/
def State.slotSample (s : State) (reading : Option Nat) (bottom : Bool) : State :=
  if s.descent.motion.isSome then s.takeJudged (s.descent.next s.curtainSettings reading bottom) else s

/-- R107: the state derived from the drive. -/
def State.recovered (s : State) : CurtainState :=
  if s.curtain.view.bottomClosed && !s.curtain.view.topClosed then .down
  else if s.standingTrigger.isSome then .descending
  else if s.curtain.view.topClosed && !s.curtain.view.bottomClosed then .up
  else .stopped

/-- R107: the first delivery after the DRIVE module's bay comes ONLINE. LIMIT MISMATCH is judged before the derived state is
taken (log entry 73). -/
def State.recover (s : State) (inputs : DriveInputs) : State :=
  let s₁ := ((s.clearFault .driveLost).takeInputs inputs).judgeLimits
  match s₁.recovered with
  | .descending => s₁.descend .recovery .recovery
  | state => s₁.enterState state .recovery

/-- R95: the beam, then the button, then the limits, each at its change; of the limits, LIMIT MISMATCH first and the
closing of the top limit second (log entry 48). -/
def State.judgeView (s : State) (before : LimitView) : State :=
  let now := s.curtain.view
  let s₁ := if now.beamBroken && !before.beamBroken then s.beamBreaks else s
  let s₂ := if now.buttonPressed != before.buttonPressed then s₁.testTriggers else s₁
  let s₃ := s₂.judgeLimits
  if now.topClosed && !before.topClosed then s₃.topCloses else s₃

/-- R95, R113: a delivery at a curtain station that has its state from the drive. The controller judges it first;
the supervisor takes it as a sample where the motion that ran before it still runs (log entry 14). -/
def State.deliver (s : State) (inputs : DriveInputs) : State :=
  let s₁ := ((s.takeInputs inputs).followPosition).judgeView s.curtain.view
  if s.descent.motion.isSome && s₁.curtain.state == s.curtain.state then
    s₁.slotSample inputs.reading inputs.bottomClosed
  else s₁

/-- A delivery of the DRIVE module at the Curtain Controller. At an UNCONFIGURED station it acts on nothing and only
the views that need no setting are kept (R108, log entry 15). -/
def State.curtainDelivery (s : State) (inputs : DriveInputs) : State :=
  match s.curtain.state with
  | .none => s
  | .unconfigured => s.withCurtain { s.curtain with view := viewOf inputs, delivery := some inputs }
  | .driveLost => s.recover inputs
  | _ => s.deliver inputs

/-- An exchange that ends with no answer is a missing sample of an active motion (R113). -/
def State.missingSample (s : State) : State := s.slotSample none false

/-! ### Losing and regaining the drive (R106, R108, R110) -/

/-- R106: the DRIVE module is lost. The CURTAIN entry is logged before DRIVE LOST is raised (log entry 75). -/
def State.driveLost (s : State) : State :=
  match s.curtain.state with
  | .none => s
  | .unconfigured => s
  | .driveLost => s.raiseFault .driveLost .none
  | _ =>
    let s₁ := s.motionEnd .driveLost
    ((s₁.withCurtain { s₁.curtain with position := none }).enterState .driveLost
      (.reason .driveLost)).raiseFault .driveLost .none

/-- The DRIVE module comes ONLINE: it has made no delivery yet (R113). An UNCONFIGURED controller commands HOLD
released and the motor off (R108). -/
def State.driveOnline (s : State) : State :=
  let s₁ := s.withCurtain { s.curtain with delivery := none }
  if s.curtain.state = .unconfigured then s₁.command else s₁

/-- R110: DRIVE LOST at the end of the own joining period. -/
def State.curtainJoined (s : State) : State :=
  if s.curtain.state = .driveLost then s.raiseFault .driveLost .none else s

/-! ### Proof and timers (R103, R109) -/

/-- R109: the proof that stood before a passing of time no longer does. -/
def State.proofAges (s : State) (wasProven : Bool) : State :=
  if s.roles.curtain && wasProven && !s.proven then (s.log .proofExpired).mark else s

/-- The curtain is proven, or was when the station last went into reset (log entry 44). -/
def State.lastProven (s : State) : Bool := if s.power.running then s.proven else s.station.provenAtStop

/-- RAISE_TIMEOUT (R103): the raise timer expires in RAISING. The CURTAIN entry is logged before RAISE TIMEOUT is raised
(log entry 75), with a detail that names the timeout, for which R97 lists no reason (log entry 82). -/
def execRaiseTimeout (s : State) : Result :=
  whenRunning s fun s =>
    match s.curtain.raiseTimer with
    | some t =>
      if s.curtain.state = .raising then
        (((s.advanceTo t).enterState .stopped .raiseTimeout).raiseFault .raiseTimeout .none).testTriggers
      else s
    | none => s

end Sys2Proof.Machine
end

