-- ==== Sys2Proof/Machine/Detection.lean ====
section
/-! DEFINITION. The Detection Unit's own operations (chapter 4): detector counts, zone conditions, disablement,
effects windows and the release of latches. None of them hands a notice; `Machine/Alarm.lean` takes the notices
of R59 from the zone records. -/

namespace Sys2Proof.Machine

/-! ### Detectors (R52 to R55) -/

/-- A count that holds at its greatest value. -/
def countUp (greatest n : Nat) : Nat := min greatest (n + 1)

/-- The alarm threshold in force (R54). -/
def alarmThreshold (t : Thresholds) (type : DetectorType) (window : Bool) : Nat :=
  match type, window with
  | .smoke, true => min (t.alarm + t.effectsOffset) Config.windowThresholdMax
  | _, _ => t.alarm

/-- The dwell in force (R54). -/
def dwellInForce (t : Thresholds) (type : DetectorType) (window : Bool) : Nat :=
  match type, window with
  | .smoke, true => t.dwell * Config.effectsDwellFactor
  | .manual, _ => 1
  | _, _ => t.dwell

/-- The clear level: the prealarm threshold minus the hysteresis (R52). -/
def clearLevel (t : Thresholds) : Nat := t.prealarm - Config.hysteresis

def Detector.clearCounts (d : Detector) : Detector :=
  { d with alarmCount := 0, prealarmCount := 0, clearRun := 0 }

/-- A detector FAULTED with a kind has its counts and clear run at 0 (R53, R60). -/
def Detector.setFaulted (d : Detector) (kind : FaultKind) : Detector :=
  { d.clearCounts with status := .faulted, fault := some kind }

/-- R53: the reading itself. -/
def Detector.take (d : Detector) (r : Nat) : Detector :=
  let d' := { d with reading := r }
  if r = 0 then d'.setFaulted .missing
  else if r = 255 then d'.setFaulted .short
  else { d' with status := .valid, fault := none }

/-- R55: the counts of a VALID detector in a zone that is not disabled. -/
def Detector.count (t : Thresholds) (window : Bool) (d : Detector) : Detector :=
  { d with
    alarmCount := if alarmThreshold t d.type window ≤ d.reading then countUp 255 d.alarmCount else 0
    prealarmCount := if t.prealarm ≤ d.reading then countUp 255 d.prealarmCount else 0
    clearRun := if d.reading < clearLevel t then countUp 10 d.clearRun else 0 }

/-- One sample for one detector, in a zone with the given record (R53 to R55, R63). -/
def Detector.sample (t : Thresholds) (zone : ZoneRecord) (r : Nat) (d : Detector) : Detector :=
  let d' := d.take r
  if zone.disabled then d'.clearCounts
  else if d'.status = .valid then d'.count t zone.window
  else d'

/-- R55: an onset is counted when the alarm count rises from 0 to 1. -/
def isOnset (before after : Detector) : Bool := before.alarmCount == 0 && after.alarmCount == 1

/-! ### Zone records -/

def State.zone (s : State) (z : Nat) : Option ZoneRecord :=
  s.detection.zones.find? fun r => r.zone == z

def State.withZone (s : State) (record : ZoneRecord) : State :=
  s.withDetection { s.detection with
    zones := s.detection.zones.map fun r => if r.zone = record.zone then record else r }

/-- The own zones, ascending. -/
def State.ownZones (s : State) : List Nat := s.detection.zones.map (·.zone)

def State.detectorsOf (s : State) (z : Nat) : List Detector :=
  s.detection.detectors.filter fun d => d.zone == z

def State.withDetectors (s : State) (detectors : List Detector) : State :=
  s.withDetection { s.detection with detectors := detectors }

/-- R51: an own zone is held FAULT by configuration at a station without DETECT, and where no position of the
detector map names it; from the end of the joining period. -/
def State.heldByConfiguration (s : State) (z : Nat) : Bool :=
  !s.station.joining && (!s.roles.detect || (s.detectorsOf z).isEmpty)

/-! ### Zone conditions (R56 to R61) -/

/-- The detector's alarm count has reached its dwell in force. -/
def Detector.inAlarm (t : Thresholds) (window : Bool) (d : Detector) : Bool :=
  dwellInForce t d.type window ≤ d.alarmCount

/-- The detector's prealarm count has reached its dwell in force. -/
def Detector.coincides (t : Thresholds) (window : Bool) (d : Detector) : Bool :=
  dwellInForce t d.type window ≤ d.prealarmCount

/-- The coincidence of R56: two or more VALID detectors each at their own dwell in force. -/
def coincidence (t : Thresholds) (window : Bool) (valid : List Detector) : Bool :=
  2 ≤ (valid.filter (·.coincides t window)).length

/-- ALARM_ACTIVE applies (R56, order 1). -/
def activeBy (t : Thresholds) (window : Bool) (valid : List Detector) : Bool :=
  valid.any (·.inAlarm t window) || coincidence t window valid

/-- The first VALID detector that met the test of R56: the lower bay first, then the position, where R57 says by
position alone (log entry 49). -/
def firstActive (t : Thresholds) (window : Bool) (valid : List Detector) : Option (Bay × Nat) :=
  (valid.find? fun d => d.inAlarm t window || (coincidence t window valid && d.coincides t window)).map
    fun d => (d.bay, d.position)

/-- R58: the prealarm hold after an evaluation. -/
def holdAfter (hold : Bool) (valid : List Detector) : Bool :=
  if valid.any fun d => 2 ≤ d.prealarmCount then true
  else if valid.all fun d => d.clearRun == 10 then false
  else hold

/-- R56: the first condition that applies. -/
def conditionOf (active latch hold faulted : Bool) : Condition :=
  if active then .alarmActive
  else if latch then .alarmLatched
  else if hold then .prealarm
  else if faulted then .fault
  else .normal

/-- The detail of ZONE FAULT: the first FAULTED detector, the lower bay first and then the position (log entry 49), or
configuration where there is none (R61; log entry 69). -/
def faultDetail (ds : List Detector) : FaultDetail :=
  match ds.find? fun d => d.status == .faulted with
  | some d => .detector d.bay d.position (d.fault.getD .missing)
  | none => .byConfiguration

/-- R56 to R58 and R61: one evaluation of an own zone. ZONE ALARM is logged before ZONE FAULT is judged (log entry 68). -/
def State.evalZone (s : State) (z : Nat) : State :=
  match s.zone z with
  | none => s
  | some r =>
    if r.disabled then s.withZone { r with condition := .disabled }
    else
      let t := s.image.thresholds
      let ds := s.detectorsOf z
      let valid := ds.filter fun d => d.status == .valid
      let active := activeBy t r.window valid
      let latch := r.latch || active
      let manual := r.manual ||
        (active && valid.any fun d => d.type == .manual && decide (1 ≤ d.alarmCount))
      let hold := holdAfter r.hold valid
      let faulted := ds.any (fun d => d.status == .faulted) || s.heldByConfiguration z
      ((s.withZone { r with condition := conditionOf active latch hold faulted, latch := latch,
                            manual := manual, hold := hold }).logIf (active && !r.latch)
        (.zoneAlarm z (firstActive t r.window valid))).setFault (.zoneFault z) (faultDetail ds) faulted

/-- Evaluates zones in the order given; the callers give the ascending one (log entry 78). -/
def State.evalZones (s : State) (zones : List Nat) : State := zones.foldl State.evalZone s

/-- The own zones that have a detector on a bay, ascending. -/
def State.zonesOnBay (s : State) (b : Bay) : List Nat :=
  s.ownZones.filter fun z => s.detection.detectors.any fun d => d.zone == z && d.bay == b

/-! ### Samples and lost modules (R53, R60) -/

/-- The reading of a detector's position in a sample. -/
def readingOf (readings : Vector Byte 32) (position : Nat) : Nat :=
  (readings.toList.getD (position - 1) 0).toNat

/-- The detector after a sample of its bay; a detector of another bay keeps its record. -/
def State.sampledDetector (s : State) (b : Bay) (readings : Vector Byte 32) (d : Detector) : Detector :=
  if d.bay = b then
    match s.zone d.zone with
    | some r => d.sample s.image.thresholds r (readingOf readings d.position)
    | none => d
  else d

/-- R55: the onsets that a change of the detectors counts in a zone. -/
def onsetsIn (z : Nat) (before after : List Detector) : Nat :=
  ((before.zip after).filter fun p => p.1.zone == z && isOnset p.1 p.2).length

/-- R53: first the detectors of the bay in own zones, then the own zones that have a detector there. -/
def State.sampleBay (s : State) (b : Bay) (readings : Vector Byte 32) : State :=
  let before := s.detection.detectors
  let after := before.map (s.sampledDetector b readings)
  let counted := s.withDetection { s.detection with
    detectors := after
    zones := s.detection.zones.map fun r =>
      { r with onsets := r.onsets + BitVec.ofNat 16 (onsetsIn r.zone before after) } }
  counted.evalZones (counted.zonesOnBay b)

/-- R60: the LOOP module of a bay has been lost. -/
def State.loopLost (s : State) (b : Bay) : State :=
  let s' := s.withDetectors (s.detection.detectors.map fun d =>
    if d.bay = b then d.setFaulted .missing else d)
  s'.evalZones (s'.zonesOnBay b)

/-- R60: at the end of the joining period every detector still UNREAD becomes FAULTED with kind MISSING, and
every own zone is evaluated. -/
def State.detectionJoined (s : State) : State :=
  let s' := s.withDetectors (s.detection.detectors.map fun d =>
    if d.status = .unread then d.setFaulted .missing else d)
  s'.evalZones s'.ownZones

/-! ### Disablement (R62, R63) -/

/-- R62: the zone is listed by the own desk or by a LIVE peer whose disablements are honoured. -/
def State.listedDisabled (s : State) (z : Nat) : Bool :=
  (s.roles.desk && s.alarm.disablements.contains z) ||
    s.peers.records.any fun r =>
      match r.liveReport r.honoured.disablements with
      | some report => report.desk.disablements.contains z
      | none => false

/-- R63: the disabled field changes to yes. -/
def State.disableZone (s : State) (r : ZoneRecord) : State :=
  let s₁ := s.withZone { r with disabled := true, latch := false, manual := false, hold := false,
                                condition := .disabled }
  let s₂ := s₁.withDetectors (s₁.detection.detectors.map fun d =>
    if d.zone = r.zone then d.clearCounts else d)
  (s₂.clearFault (.zoneFault r.zone)).log (.zoneDisabled r.zone)

/-- R63: the disabled field changes to no. ZONE ENABLED is logged before the evaluation (log entry 78). -/
def State.enableZone (s : State) (r : ZoneRecord) : State :=
  ((s.withZone { r with disabled := false }).log (.zoneEnabled r.zone)).evalZone r.zone

/-- R62: the disabled field of one own zone. -/
def State.recomputeDisabledZone (s : State) (z : Nat) : State :=
  match s.zone z with
  | none => s
  | some r =>
    if s.listedDisabled z = r.disabled then s
    else if r.disabled then s.enableZone r
    else s.disableZone r

/-- R62: the disabled field of every own zone. -/
def State.recomputeDisabled (s : State) : State := s.ownZones.foldl State.recomputeDisabledZone s

/-! ### Effects windows (R64, R67, R68) -/

/-- R68: a window is in force for an own zone. -/
def State.windowInForce (s : State) (z : Nat) : Bool :=
  s.zoneInhibitable z && s.alarm.stage == .quiet &&
    ((s.roles.desk && s.authorities.effects && s.detection.windows.any fun w => w.zone == z) ||
      s.detection.copies.any fun c => c.zone == z)

/-- R68: the window-in-force field of one own zone; a change evaluates the zone (R59). -/
def State.recomputeWindowZone (s : State) (z : Nat) : State :=
  match s.zone z with
  | none => s
  | some r =>
    if s.windowInForce z = r.window then s
    else (s.withZone { r with window := s.windowInForce z }).evalZone z

def State.recomputeWindows (s : State) : State := s.ownZones.foldl State.recomputeWindowZone s

def State.withWindows (s : State) (windows : List WindowEntry) : State :=
  s.withDetection { s.detection with windows := windows }

def State.withCopies (s : State) (copies : List WindowCopy) : State :=
  s.withDetection { s.detection with copies := copies }

/-- R64: the own stage leaves QUIET. -/
def State.windowsLeaveQuiet (s : State) : State :=
  (s.withWindows []).markIf (!s.detection.windows.isEmpty)

/-- A stage notice at the Detection Unit (R64, R68). -/
def State.detectionStage (s : State) (old new : Stage) : State :=
  (if old = .quiet ∧ new ≠ .quiet then s.windowsLeaveQuiet else s).recomputeWindows

/-- R64, R67: one increment of node time counts down the own windows and the copies. -/
def State.countDownWindows (s : State) : State :=
  let windows := (s.detection.windows.map fun w => { w with remaining := w.remaining - 1 }).filter
    fun w => 0 < w.remaining
  let copies := (s.detection.copies.map fun c => { c with remaining := c.remaining - 1 }).filter
    fun c => 0 < c.remaining
  (((s.withWindows windows).withCopies copies).markIf
    (decide (windows.length < s.detection.windows.length))).recomputeWindows

/-- R67: the copies that an accepted report of a desk gives: an entry passed over unless it names an own zone
that is INHIBITABLE with a remaining value above 0; a zone still listed keeps the lesser value. A list that names a zone
twice, which R23 does not reject, gives two copies of it (log entry 50). -/
def State.copiesFrom (s : State) (desk : Nat) (windows : List WindowEntry) : List WindowCopy :=
  (windows.filter fun w => (s.zone w.zone).isSome && s.zoneInhibitable w.zone && decide (0 < w.remaining)).map
    fun w =>
      match s.detection.copies.find? fun c => c.desk == desk && c.zone == w.zone with
      | some c => { c with remaining := min c.remaining w.remaining }
      | none => { desk := desk, zone := w.zone, remaining := w.remaining }

/-- R67: the copies of a peer after an acceptance or a silence: none but from a LIVE record with its effects
windows honoured. -/
def State.alignCopies (s : State) (desk : Nat) : State :=
  let others := s.detection.copies.filter fun c => c.desk != desk
  let taken := match s.peer desk with
    | some r =>
      match r.liveReport r.honoured.windows with
      | some report => s.copiesFrom desk report.desk.windows
      | none => []
    | none => []
  s.withCopies (others ++ taken)

/-! ### Release by a newer generation (R69) -/

/-- R69: one own zone at a generation notice. LATCH CLEARED is logged before the evaluation (log entry 78). -/
def State.releaseZone (s : State) (z : Nat) : State :=
  match s.zone z with
  | none => s
  | some r =>
    if r.condition = .alarmActive then s
    else
      ((s.withZone { r with latch := false, manual := false }).logIf r.latch (.latchCleared z)).evalZone z

/-- R69: the generation notice, each own zone in turn. -/
def State.releaseLatches (s : State) : State := s.ownZones.foldl State.releaseZone s

/-! ### Values at a start (R70, R71) -/

/-- The detector records of a bay: one for each mapped position whose zone is an own zone (R52). -/
def coldDetectors (isOwn : Nat → Bool) (b : Bay) (settings : List (Option DetectorSetting)) : List Detector :=
  settings.zipIdx.filterMap fun (setting, i) =>
    match setting with
    | some { zone := z, type := some type } =>
      if isOwn z then
        some { bay := b, position := i + 1, zone := z, type := type, status := .unread, fault := none,
               reading := 0, alarmCount := 0, prealarmCount := 0, clearRun := 0 }
      else none
    | _ => none

/-- The zone record of an own zone at a cold start (R70). -/
def coldZone (z : Nat) : ZoneRecord :=
  { zone := z, condition := .normal, latch := false, manual := false, hold := false, disabled := false,
    window := false, onsets := 0, handed := .normal, handedManual := false }

/-- R71: what a warm start keeps of an own zone: latch, manual mark and onset tally; a latched zone is
ALARM_LATCHED and handed so. -/
def warmZone (kept : Option ZoneRecord) (z : Nat) : ZoneRecord :=
  match kept with
  | none => coldZone z
  | some r =>
    let condition : Condition := if r.latch then .alarmLatched else .normal
    { coldZone z with latch := r.latch, manual := r.manual, onsets := r.onsets, condition := condition,
                      handed := condition, handedManual := r.manual }

/-- The Detection Unit of a station at a start; `kept` gives the retained zone record, none at a cold start. -/
def startDetection (isOwn : Nat → Bool) (map : PerBay (List (Option DetectorSetting)))
    (kept : Nat → Option ZoneRecord) : Detection :=
  { detectors := bayList.flatMap fun b => coldDetectors isOwn b (map.get b),
    zones := (zoneNumbers.filter isOwn).map fun z => warmZone (kept z) z,
    windows := [], copies := [] }

end Sys2Proof.Machine
end

