-- ==== Sys2Proof/Machine/Lights.lean ====
section
/-! DEFINITION. The Light Mixer (chapter 8): the claim view, the precedence lists, targets and fades, the own
claim list with its two requests, and the meaning of OUTPUT_UPDATE. -/

namespace Sys2Proof.Machine

def State.withGroups (s : State) (groups : List LightGroup) : State :=
  s.withLights { s.lights with groups := groups }

/-- The row of the light group table. -/
def State.groupRow (s : State) (g : Nat) : Option GroupRow :=
  if g = 0 then none else s.image.lightTable[g - 1]?

/-- The level and fade of a group in a phase (R128). -/
def presetIn (row : GroupRow) : Phase → PhasePreset
  | .closed => row.closed
  | .houseOpen => row.houseOpen
  | .performance => row.performance
  | .interval => row.interval
  | .houseClearing => row.houseClearing

/-- The phase preset of a group for the phase held in the own phase view. -/
def State.phasePreset (s : State) (g : Nat) : PhasePreset :=
  match s.groupRow g with
  | some row => presetIn row s.phase.phase
  | none => { level := 0, fade := 0 }

/-! ### Targets (R135, R136) -/

/-- The claim that stands in a claimant's slot of the view. -/
def Lights.claimOf (l : Lights) (ref : ClaimRef) : Option Claim :=
  (l.view.find? fun v => v.station == ref.station && v.slot == ref.slot).map (·.claim)

/-- The levels of the claims of one kind on a group. -/
def Lights.levels (l : Lights) (kind : ClaimKind) (g : Nat) : List Nat :=
  (l.view.filter fun v => v.claim.kind == kind && v.claim.group == g).map (·.claim.level)

/-- The hold floor: the hold level for an AUDITORIUM group while the hold is on, else 0 (R135). -/
def State.holdFloor (s : State) (g : Nat) : Nat :=
  match s.groupRow g with
  | some row => if row.auditorium && s.phase.hold then s.image.holdLevel else 0
  | none => 0

/-- R135: base, floor and cap of a group. -/
def State.mix (s : State) (g : Nat) (group : LightGroup) : Mix :=
  let head := group.precedence.head?
  { base := match head.bind s.lights.claimOf with
      | some claim => claim.level
      | none => (s.phasePreset g).level,
    head := head,
    floor := (s.lights.levels .floor g).foldl max (s.holdFloor g),
    cap := (s.lights.levels .cap g).foldl min 255 }

/-- R135: the lesser of base and cap, raised to the floor. -/
def Mix.target (m : Mix) : Nat := max m.floor (min m.base m.cap)

/-! ### Fades (R138, R139) -/

/-- R138: a recomputed target with the fade of R137, in tenths of a second. -/
def LightGroup.retarget (group : LightGroup) (target fade : Nat) : LightGroup :=
  if group.target = some target then group
  else if fade = 0 then
    { group with target := some target, start := group.output, steps := 0, step := 0,
                 output := target, fading := false }
  else
    { group with target := some target, start := group.output, steps := fade * 5, step := 0,
                 fading := true }

/-- The quotient a × n ÷ N to the nearest whole number, a half away from zero. -/
def roundedShare (a n steps : Nat) : Nat := (2 * a * n + steps) / (2 * steps)

/-- R139: the output level at step n of N, from the start level towards the target. -/
def fadeLevel (start target n steps : Nat) : Nat :=
  if start ≤ target then start + roundedShare (target - start) n steps
  else start - roundedShare (start - target) n steps

/-- R139: one output update of a group. -/
def LightGroup.update (group : LightGroup) : LightGroup :=
  match group.fading, group.target with
  | true, some target =>
    let n := group.step + 1
    { group with step := n, output := fadeLevel group.start target n group.steps,
                 fading := decide (n < group.steps) }
  | _, _ => group

/-! ### Recomputing (R135 to R138, R141) -/

/-- One group recomputed: 255 while the own stage is EVACUATE, else by R135. -/
def State.recomputeGroup (s : State) (fade : Nat → Nat) (g : Nat) (group : LightGroup) : LightGroup :=
  if s.alarm.stage = .evacuate then group.retarget 255 (fade g)
  else
    let m := s.mix g group
    { group with mix := some m }.retarget m.target (fade g)

/-- The groups with their numbers. -/
def numbered (groups : List LightGroup) : List (Nat × LightGroup) :=
  groups.zipIdx.map fun (group, i) => (i + 1, group)

/-- Recomputes every group's target, with the fade that R137 gives each group. -/
def State.recomputeAll (s : State) (fade : Nat → Nat) : State :=
  s.withGroups ((numbered s.lights.groups).map fun (g, group) => s.recomputeGroup fade g group)

/-- R141: during the own joining period no target is computed. -/
def State.recomputeTargets (s : State) (fade : Nat → Nat) : State :=
  if s.station.joining then s else s.recomputeAll fade

/-- The group's phase fade for the phase held (R137). -/
def State.phaseFade (s : State) (g : Nat) : Nat := (s.phasePreset g).fade

/-- A stage notice at the Light Mixer (R136, R137, R141). An entry to EVACUATE takes every group to 255 over a
fade of 20, in the joining period too; every other notice recomputes over the phase fade. -/
def State.lightsStage (s : State) (old new : Stage) : State :=
  if new = .evacuate ∧ old ≠ .evacuate then s.recomputeAll fun _ => 20
  else s.recomputeTargets s.phaseFade

/-- A phase-entry or hold notice, and the end of the joining period (R137, R141). -/
def State.lightsPhase (s : State) : State := s.recomputeTargets s.phaseFade

/-! ### Claim changes (R132 to R134, R137) -/

/-- A claim change: a slot, the claim it held in the view, and the claim it holds now. -/
structure ClaimChange where
  slot : Nat
  before : Option Claim
  after : Option Claim
  deriving DecidableEq, Repr

/-- The slots 1 to 8 whose claim differs between the view and the claims now offered (R132). Of two entries of one slot,
which R23 does not reject, the first counts (log entry 86). -/
def Lights.changes (l : Lights) (station : Nat) (claims : List ClaimEntry) : List ClaimChange :=
  ((List.range' 1 8).map fun slot =>
    { slot := slot, before := l.claimOf ⟨station, slot⟩,
      after := (claims.find? fun c => c.slot == slot).map (·.claim) : ClaimChange }).filter
    fun c => c.before != c.after

/-- The claim is a PRESET on a group. -/
def isPresetOn (g : Nat) : Option Claim → Bool
  | some c => c.kind == .preset && c.group == g
  | none => false

/-- R134: the precedence list of a group after the claim changes of one claimant. Every changed pair leaves the
list; those that are now a PRESET on the group enter at its head, ascending; the list keeps 16 entries. The leavings of
an event come before its entries (log entry 85). -/
def precedenceAfter (station : Nat) (changes : List ClaimChange) (g : Nat) (list : List ClaimRef) :
    List ClaimRef :=
  let entering := (changes.filter fun c => isPresetOn g c.after).map fun c => (⟨station, c.slot⟩ : ClaimRef)
  let staying := list.filter fun ref =>
    !(ref.station == station && changes.any fun c => c.slot == ref.slot)
  (entering ++ staying).take Config.precedenceSize

/-- R137: a claim change bears on a group if the claim names it now or named it before. -/
def ClaimChange.bearsOn (c : ClaimChange) (g : Nat) : Bool :=
  (match c.after with | some claim => claim.group == g | none => false) ||
    match c.before with | some claim => claim.group == g | none => false

/-- R137: the fade of the changed claim as it now stands; for a removal, the fade it held. -/
def ClaimChange.fade (c : ClaimChange) : Nat :=
  match c.after, c.before with
  | some claim, _ => claim.fade
  | none, some claim => claim.fade
  | none, none => 0

/-- R137: the shortest fade of the changes that bear on a group; where none bears on it, the fade otherwise given (log
entry 23). -/
def fadeOfChanges (changes : List ClaimChange) (otherwise : Nat) (g : Nat) : Nat :=
  match (changes.filter fun c => c.bearsOn g).map (·.fade) with
  | [] => otherwise
  | f :: fs => fs.foldl min f

/-- The claims of one claimant put in place of those the view held; of two entries of one slot the first (log entry
86). -/
def viewAfter (view : List ViewClaim) (station : Nat) (claims : List ClaimEntry) : List ViewClaim :=
  (view.filter fun v => v.station != station) ++
    ((List.range' 1 8).filterMap fun slot =>
      (claims.find? fun c => c.slot == slot).map fun c =>
        { station := station, slot := slot, claim := c.claim })

/-- R132, R134: the claim view and the precedence lists after the claim changes of one claimant. -/
def Lights.takeClaims (l : Lights) (station : Nat) (claims : List ClaimEntry) : Lights :=
  let changes := l.changes station claims
  { l with
    view := viewAfter l.view station claims
    groups := (numbered l.groups).map fun (g, group) =>
      { group with precedence := precedenceAfter station changes g group.precedence } }

/-- R132: the claim changes of one claimant, taken at a LIGHTS station, with the fades given for each group. -/
def State.changeClaims (s : State) (station : Nat) (claims : List ClaimEntry)
    (fade : List ClaimChange → Nat → Nat) : State :=
  if s.roles.lights then
    let changes := s.lights.changes station claims
    (s.withLights (s.lights.takeClaims station claims)).recomputeTargets (fade changes)
  else s

/-- The claims that may be used from a peer: its record LIVE or JOINING and its claims honoured (R131). -/
def State.peerClaims (s : State) (station : Nat) : List ClaimEntry :=
  match s.peer station with
  | some r =>
    if r.state.heard && r.honoured.claims then
      match r.lastReport with
      | some report => report.desk.claims
      | none => []
    else []
  | none => []

/-- An acceptance notice at the Light Mixer (R132). -/
def State.lightsAccept (s : State) (station : Nat) : State :=
  s.changeClaims station (s.peerClaims station) fun changes g => fadeOfChanges changes (s.phaseFade g) g

/-- A silence notice at the Light Mixer: every claim of the peer leaves the view, over a fade of 30 (R133). -/
def State.lightsSilence (s : State) (station : Nat) : State :=
  s.changeClaims station [] fun _ _ => 30

/-- The own claim list after a change, handed to the own mixer at a LIGHTS station (R129, R130). -/
def State.setOwnClaims (s : State) (claims : List ClaimEntry) : State :=
  let s' := (s.withLights { s.lights with claims := claims }).mark
  s'.changeClaims s.own claims fun changes g => fadeOfChanges changes (s.phaseFade g) g

/-! ### Requests (R129, R130) -/

/-- The list with a claim put in a slot, in ascending slot number. -/
def putClaim (claims : List ClaimEntry) (entry : ClaimEntry) : List ClaimEntry :=
  (claims.filter fun c => c.slot < entry.slot) ++ entry :: claims.filter fun c => entry.slot < c.slot

/-- LIGHT CLAIM SET (R129). -/
def setClaim (s : State) (slot group : Nat) (kind : Option ClaimKind) (level fade : Nat) : State × Answer :=
  if !(s.roles.desk && s.authorities.lights) then (s, { code := .noAuthority })
  else
    match kind, decide (1 ≤ slot ∧ slot ≤ 8 ∧ 1 ≤ group ∧ group ≤ 16) with
    | some kind, true =>
      let entry : ClaimEntry := ⟨slot, { group := group, kind := kind, level := level, fade := min fade 600 }⟩
      let code : AnswerCode := if 600 < fade then .clamped else .accepted
      if s.lights.claims.contains entry then (s, { code := code })
      else (s.setOwnClaims (putClaim s.lights.claims entry), { code := code })
    | _, _ => (s, { code := .badRequest })

/-- LIGHT CLAIM CLEAR (R130). -/
def clearClaims (s : State) (selection : SlotSelection) : State × Answer :=
  if !(s.roles.desk && s.authorities.lights) then (s, { code := .noAuthority })
  else
    match selection with
    | .all =>
      if s.lights.claims.isEmpty then (s, { code := .accepted })
      else (s.setOwnClaims [], { code := .accepted })
    | .slot slot =>
      if !decide (1 ≤ slot ∧ slot ≤ 8) then (s, { code := .badRequest })
      else if s.lights.claims.any fun c => c.slot == slot then
        (s.setOwnClaims (s.lights.claims.filter fun c => c.slot != slot), { code := .accepted })
      else (s, { code := .refusedState .notSet })

/-! ### Output (R139, R140) -/

/-- The output level of a group; an unused channel takes 0 (R140). -/
def State.groupOutput (s : State) (g : Nat) : Nat :=
  if g = 0 then 0
  else match s.lights.groups[g - 1]? with
    | some group => group.output
    | none => 0

/-- R140: the 8 levels of a DIMMER module's channels. -/
def State.channelLevels (s : State) (b : Bay) : List Nat :=
  (List.range 8).map fun i =>
    match (s.image.channelMap.get b).getD i none with
    | some g => s.groupOutput g
    | none => 0

/-- OUTPUT_UPDATE (R139): 20 ms have passed and each running fade advances one step. No rule says from which moment the
updates are counted: the first is counted from the start, and each later one from the one before, at the moment at which
it came, late or not (log entry 95). -/
def execOutputUpdate (s : State) : Result :=
  whenRunning s fun s =>
    let s' := s.advanceTo (s.clock.outputAt + Config.outputMs)
    (s'.withClock { s'.clock with outputAt := s'.clock.now }).withGroups
      (s.lights.groups.map LightGroup.update)

end Sys2Proof.Machine
end

