-- ==== Sys2Proof/Machine/Alarm.lean ====
section
/-! DEFINITION. The Alarm Stage Unit (chapter 5): the merged zone view, the alarm order list, the stage and the
silenced flag, the notices to their readers, the taking of a new generation, the snapshot, the requests ACK,
SILENCE, RESET and CLEAR SNAPSHOT, and the meanings of its timers. -/

namespace Sys2Proof.Machine

def State.setAlarm (s : State) (f : Alarm → Alarm) : State := s.withAlarm (f s.alarm)

/-! ### The merged zone view (R73, R74) -/

/-- A contribution to a zone: its condition and its source. -/
structure Contribution where
  condition : Condition
  source : ZoneSource
  deriving DecidableEq, Repr

/-- The own Detection Unit's contribution: the condition last handed. -/
def State.ownContribution (s : State) (z : Nat) : List Contribution :=
  match s.zone z with
  | some r => [{ condition := r.handed, source := .own }]
  | none => []

/-- R73, R74: the condition that an entry of a peer's zone list contributes, by the record's state, by whether the
reported generation is the own, and by whether the report may hold alarms. -/
def entryCondition (state : PeerState) (sameGeneration holdsAlarms : Bool) (c : Condition) :
    Option Condition :=
  match state with
  | .live => if sameGeneration ∨ c = .alarmActive then some c else none
  | .joining => if c = .alarmActive then some c else none
  | .silent => if sameGeneration && holdsAlarms && c.inAlarm then some .alarmLatched else none
  | .absent => none

/-- R74: a last report that was not joining: its JOINING flag is clear and its role set is not empty. -/
def Report.notJoining (r : Report) : Bool := !r.joining && r.roles != {}

/-- The contributions of one peer record to a zone. -/
def State.peerContributions (s : State) (z : Nat) (r : PeerRecord) : List Contribution :=
  match r.lastReport with
  | none => []
  | some report =>
    (report.alarm.zones.filter fun e => e.zone == z).filterMap fun e =>
      (entryCondition r.state (report.alarm.generation == s.alarm.generation) report.notJoining
        e.condition).map fun c =>
          { condition := c, source := if r.state = .silent then .heldFrom r.station else .peer r.station }

/-- R74: a record for which the zones it supervises are FAULT. -/
def State.supervisorGone (s : State) (r : PeerRecord) : Bool :=
  match r.state with
  | .silent => true
  | .absent => !s.station.joining
  | .joining =>
    match r.lastReport with
    | some report => report.roles == {}
    | none => false
  | .live => false

/-- R74: the supervisor-lost contribution, for a zone of another station. -/
def State.lossContribution (s : State) (z : Nat) : List Contribution :=
  match (s.zoneRow z).bind fun row => s.peer row.station with
  | some r => if s.supervisorGone r then [{ condition := .fault, source := .supervisorLost }] else []
  | none => []

/-- All contributions to a zone in the order of R73: own, peers ascending, supervisor lost. -/
def State.contributions (s : State) (z : Nat) : List Contribution :=
  s.ownContribution z ++ s.peers.records.flatMap (s.peerContributions z) ++ s.lossContribution z

/-- The first of the worst contributions; the codes of R17 rise from best to worst. -/
def worst : List Contribution → Option Contribution
  | [] => none
  | c :: cs =>
    match worst cs with
    | some d => if conditionCode c.condition < conditionCode d.condition then some d else some c
    | none => some c

/-- The manual mark that the Detection Unit last handed for an own zone. -/
def State.handedManual (s : State) (z : Nat) : Bool :=
  match s.zone z with
  | some r => r.handedManual
  | none => false

def isHeld : ZoneSource → Bool
  | .heldFrom _ => true
  | _ => false

/-- R73: one zone of the merged view. A zone with no contribution is NORMAL and shows no source (log entry 102). -/
def State.mergedZone (s : State) (z : Nat) : MergedZone :=
  match worst (s.contributions z) with
  | none => normalZone
  | some c =>
    { condition := c.condition, source := some c.source, held := isHeld c.source,
      manual := c.condition.inAlarm && s.handedManual z }

/-- Step 1 of R75. A station whose configuration is invalid keeps every zone NORMAL (R91). -/
def State.rebuildMerged (s : State) : State :=
  s.setAlarm fun a => { a with
    merged := if s.configured then zoneNumbers.map s.mergedZone else List.replicate 64 normalZone }

/-- A zone of the merged view. -/
def Alarm.zoneAt (a : Alarm) (z : Nat) : MergedZone := if z = 0 then normalZone else a.merged.getD (z - 1) normalZone

/-- The zones in ALARM in the merged view, ascending. -/
def Alarm.zonesInAlarm (a : Alarm) : List Nat := zoneNumbers.filter fun z => (a.zoneAt z).condition.inAlarm

/-! ### The alarm order list (R76) -/

/-- A zone joins the list at its end, with ZONE UP. -/
def State.zoneUp (s : State) (z : Nat) : State :=
  (s.setAlarm fun a => { a with order := a.order ++ [z] }).log (.zoneUp z (s.alarm.zoneAt z).source)

/-- Step 2 of R75: the zones newly in ALARM, ascending. -/
def State.appendOrder (s : State) : State :=
  (s.alarm.zonesInAlarm.filter fun z => !s.alarm.order.contains z).foldl State.zoneUp s

/-! ### The snapshot (R88) -/

/-- R88: the curtain owner's state and position, or UNKNOWN. -/
def State.snapshotCurtain (s : State) : Option SnapshotCurtain :=
  match s.roles.curtain, s.curtainPeers with
  | true, [] => some { state := s.curtain.state, position := s.curtain.position }
  | false, [r] =>
    r.lastReport.map fun report => { state := report.curtain.state, position := report.curtain.position }
  | _, _ => none

/-- R88: the own number and every station whose record is JOINING or LIVE, ascending. -/
def State.liveStations (s : State) : List Nat :=
  stationNumbers.filter fun n =>
    n == s.own || s.peers.records.any fun r => r.station == n && r.state.heard

/-- R88: an entry to EVACUATE takes the snapshot if the slot is empty. -/
def State.takeSnapshot (s : State) (cause : StageCause) : State :=
  match s.alarm.snapshot with
  | some _ => s.log (.snapshotHeld s.alarm.generation cause)
  | none =>
    let taken : Snapshot :=
      { time := s.nodeTime, phase := s.phase.phase, generation := s.alarm.generation, cause := cause,
        zones := s.alarm.order.take 8, curtain := s.snapshotCurtain, live := s.liveStations }
    (s.setAlarm fun a => { a with snapshot := some taken }).log .snapshotTaken

/-! ### The stage (R77 to R80) -/

/-- A record in state LIVE reports EVACUATE under the own generation. -/
def State.contagion (s : State) : Bool :=
  s.peers.records.any fun r =>
    match r.liveReport true with
    | some report => report.alarm.stage == .evacuate && report.alarm.generation == s.alarm.generation
    | none => false

/-- Node time is before the re-alarm end. -/
def State.realarmOpen (s : State) : Bool :=
  match s.alarm.realarmEnd with
  | some e => s.nodeTime < e
  | none => false

/-- R77: the highest evacuation condition that holds. None applies where the configuration is invalid (R91). -/
def State.evacuationCause (s : State) : Option StageCause :=
  let up := s.alarm.zonesInAlarm
  if !s.configured then none
  else if up.any s.zoneDirect then some .directZone
  else if up.any fun z => (s.alarm.zoneAt z).manual then some .manual
  else if 2 ≤ up.length then some .twoZones
  else if !up.isEmpty && !s.phase.phase.audiencePresent then some .noAudience
  else if !up.isEmpty && s.realarmOpen then some .reAlarm
  else if s.contagion && !s.station.joining then some .contagion
  else none

/-- R79: the acknowledgement test. -/
def State.acknowledged (s : State) : Bool :=
  (s.roles.desk && s.authorities.ack && s.alarm.ack == some s.alarm.generation) ||
    s.peers.records.any fun r =>
      match r.liveReport r.honoured.acknowledgement with
      | some report => report.alarm.ackPresent && report.alarm.ackGeneration == s.alarm.generation
      | none => false

/-- R78: an entry to EVACUATE. Both timers stop, and the snapshot is taken; STAGE EVACUATE is logged before SNAPSHOT
TAKEN or SNAPSHOT HELD (log entry 51). -/
def State.enterEvacuate (s : State) (cause : StageCause) : State :=
  (((s.setAlarm fun a => { a with
      stage := .evacuate, cause := some cause, ackWindow := none, investigation := none }).log
    (.stageEvacuate s.alarm.order.head? cause)).mark).takeSnapshot cause

/-- R78: an entry to ALERT starts the ack window. -/
def State.enterAlert (s : State) : State :=
  ((s.setAlarm fun a => { a with
      stage := .alert, ackWindow := some (s.clock.now + s.image.ackTime * 1000) }).log
    (.stageAlert s.alarm.order.head?)).mark

/-- R79: an entry to INVESTIGATE stops the ack window and starts the investigation timer. -/
def State.enterInvestigate (s : State) : State :=
  ((s.setAlarm fun a => { a with
      stage := .investigate, ackWindow := none,
      investigation := some (s.clock.now + s.image.investigationTime * 1000) }).log
    (.stageInvestigate s.alarm.order.head?)).mark

/-- R78: exactly one zone in ALARM, TWO_STAGE, with the audience present. -/
def State.alertCondition (s : State) : Bool :=
  match s.alarm.zonesInAlarm with
  | [z] => !s.zoneDirect z && s.phase.phase.audiencePresent
  | _ => false

/-- Step 3 of R75 (R78 to R80). -/
def State.evalStage (s : State) : State :=
  match s.alarm.stage, s.evacuationCause with
  | .evacuate, _ => s
  | _, some cause => s.enterEvacuate cause
  | .quiet, none =>
    if s.alertCondition then (if s.acknowledged then s.enterInvestigate else s.enterAlert) else s
  | .alert, none => if s.acknowledged then s.enterInvestigate else s
  | .investigate, none => s

/-! ### The silenced flag (R81) -/

/-- R81: a silence under the own generation whose count covers the own list. -/
def Alarm.coveredBy (a : Alarm) (generation : Byte) (count : Nat) : Bool :=
  generation == a.generation && decide (a.order.length ≤ count)

/-- R81: at least one silence source exists. -/
def State.silenceSource (s : State) : Bool :=
  (s.roles.desk && s.authorities.ack &&
    match s.alarm.silence with
    | some x => s.alarm.coveredBy x.generation x.count
    | none => false) ||
    s.peers.records.any fun r =>
      match r.liveReport r.honoured.silence with
      | some report =>
        report.alarm.silencePresent &&
          s.alarm.coveredBy report.alarm.silenceGeneration report.alarm.silenceCount
      | none => false

/-- A change of the silenced flag: its log entry and the mark (R81). -/
def State.setSilenced (s : State) (silenced : Bool) : State :=
  if silenced = s.alarm.silenced then s
  else
    ((s.setAlarm fun a => { a with silenced := silenced }).log
      (if silenced then .silenced else .silenceLifted)).mark

/-- Step 4 of R75. -/
def State.evalSilenced (s : State) : State :=
  s.setSilenced (s.alarm.stage == .evacuate && s.silenceSource)

/-! ### Re-evaluation and its notices (R75, R78, R81) -/

/-- The four steps of R75, with the stage step given. -/
def State.evaluateBy (stage : State → State) (s : State) : State :=
  (stage s.rebuildMerged.appendOrder).evalSilenced

/-- R78: a stage notice, to the Detection Unit, the Light Mixer, the Call Sequencer and the Curtain Controller, in this
order (log entry 74). -/
def State.stageNotice (s : State) (old new : Stage) : State :=
  (((s.detectionStage old new).lightsStage old new).callsStage old new).testTriggers

/-- The conditions and manual marks of a merged view. -/
def Alarm.marks (a : Alarm) : List (Condition × Bool) := a.merged.map fun m => (m.condition, m.manual)

/-- The merged-view notice to the Curtain Controller, where the view differs from the one before. -/
def State.mergedNotice (s : State) (before : Alarm) : State :=
  if s.alarm.marks = before.marks then s else s.testTriggers

/-- The silence notice to the Call Sequencer, where the flag differs from the one before. -/
def State.silenceNotice (s : State) (before : Alarm) : State :=
  if s.alarm.silenced = before.silenced then s else s.callsSilence

/-- The notices of a re-evaluation: merged view, stage, silence (log entry 16). -/
def State.handNotices (s : State) (before : Alarm) : State :=
  let s₁ := s.mergedNotice before
  let s₂ := if s.alarm.stage = before.stage then s₁ else s₁.stageNotice before.stage s.alarm.stage
  s₂.silenceNotice before

/-- A re-evaluation with the stage step given, and its notices. -/
def State.reevaluateBy (stage : State → State) (s : State) : State :=
  (s.evaluateBy stage).handNotices s.alarm

/-- R75. -/
def State.reevaluate (s : State) : State := s.reevaluateBy State.evalStage

/-! ### Zone-condition notices (R59, R75) -/

/-- An own zone whose condition or manual mark is not the one last handed. -/
def ZoneRecord.outstanding (r : ZoneRecord) : Bool := r.condition != r.handed || r.manual != r.handedManual

def ZoneRecord.hand (r : ZoneRecord) : ZoneRecord :=
  { r with handed := r.condition, handedManual := r.manual }

/-- R59: the zone-condition notices not yet handed, one re-evaluation each, the lowest zone first (log entry 17).
The first argument bounds their number: after each own zone has been handed, only the closing of the effects
windows at the first stage change can give more. -/
def reactUpTo : Nat → State → State
  | 0, s => s
  | n + 1, s =>
    match s.detection.zones.find? (·.outstanding) with
    | none => s
    | some r => reactUpTo n ((s.withZone r.hand).mark.reevaluate)

def State.react (s : State) : State := reactUpTo 256 s

/-- R82 step 7: every zone-condition notice of the release is taken before the one re-evaluation. -/
def State.handAll (s : State) : State :=
  (s.withDetection { s.detection with zones := s.detection.zones.map ZoneRecord.hand }).markIf
    (s.detection.zones.any (·.outstanding))

/-- A re-evaluation, and what its stage notice brings about in the own zones. -/
def State.review (s : State) : State := s.reevaluate.react

/-! ### A new generation (R82, R83, R90) -/

/-- R82, steps 1 to 6. A re-alarm end past the range of node time is held as it is computed (log entry 52). -/
def State.beginGeneration (s : State) (g : Byte) (way : GenerationWay) : State :=
  (((s.setSilenced false).setAlarm fun a => { a with
      generation := g, stage := .quiet, ackWindow := none, investigation := none, order := [],
      ack := none, silence := none,
      realarmEnd := some (s.nodeTime + Config.realarmSeconds) }).log (.generation g way)).mark

/-- R90: the stage step of R82's step 8. A stage that JOINING_ADOPTION replaces is not entered and not logged. -/
def State.stepEight (adopts : Bool) (s : State) : State :=
  if adopts && s.evacuationCause.isNone then s else s.evalStage

/-- R90: a source at EVACUATE, where step 8 did not end there. -/
def State.adoptEvacuate (adopts : Bool) (s : State) : State :=
  if adopts && s.alarm.stage != .evacuate then s.enterEvacuate .joiningAdoption else s

/-- R82 in full, with the JOINING_ADOPTION of R90 where `adopts`. The readers receive one stage notice, also where
the stage is the one before. Where R90 replaces the stage of step 8, the silenced flag stays as step 8 left it until the
next re-evaluation (log entry 53). -/
def State.takeGeneration (s : State) (g : Byte) (way : GenerationWay) (adopts : Bool) : State :=
  let s₁ := (s.beginGeneration g way).releaseLatches.handAll
  let s₂ := (s₁.evaluateBy (State.stepEight adopts)).adoptEvacuate adopts
  let s₃ := (s₂.mergedNotice s.alarm).stageNotice s.alarm.stage s₂.alarm.stage
  (s₃.silenceNotice s.alarm).react

/-- R83: the report from which a generation is adopted. -/
def State.adoptableGeneration (s : State) (station : Nat) : Option Byte :=
  match s.peer station with
  | some r =>
    match r.liveReport true with
    | some report =>
      if s.configured && !s.station.joining && newer report.alarm.generation s.alarm.generation then
        some report.alarm.generation
      else none
    | none => none
  | none => none

/-- An acceptance notice at the Alarm Stage Unit (R75, R83). -/
def State.alarmAccept (s : State) (station : Nat) : State :=
  match s.adoptableGeneration station with
  | some g => s.takeGeneration g (.adopted station) false
  | none => s.review

/-- R74, R90: from this moment absent supervisors count; the stage stands as R82 left it. -/
def State.endJoiningView (s : State) : State :=
  let s₁ := s.withStation { s.station with joining := false }
  s₁.rebuildMerged.mergedNotice s.alarm

/-- The end of the joining period with a source of an equal generation, or with none: the adoption, and then the
re-evaluation with joining ended. -/
def State.endJoiningReview (s : State) (adopts : Bool) : State :=
  let s₁ := (s.withStation { s.station with joining := false }).adoptEvacuate adopts
  ((s₁.evaluateBy State.evalStage).handNotices s.alarm).react

/-- R90: the end-of-joining notice at the Alarm Stage Unit. The JOINING flag is cleared in the same change. -/
def State.alarmJoined (s : State) (source : Option PeerRecord) : State :=
  match source.bind fun r => r.lastReport.map fun report => (r.station, report), s.configured with
  | some (station, report), true =>
    let evacuates := report.alarm.stage == .evacuate
    if report.alarm.generation = s.alarm.generation then s.endJoiningReview evacuates
    else (s.takeGeneration report.alarm.generation (.endOfJoining station) evacuates).endJoiningView
  | _, _ => s.endJoiningReview false

/-! ### Requests (R84, R85, R86, R89) -/

/-- ACK (R84). -/
def requestAck (s : State) : State × Answer :=
  if !(s.roles.desk && s.authorities.ack) then (s, { code := .noAuthority })
  else if s.station.joining then (s, { code := .refusedState .joining })
  else if s.alarm.stage ≠ .alert then (s, { code := .refusedState .notAlert })
  else
    (((s.setAlarm fun a => { a with ack := some a.generation }).mark).review, { code := .accepted })

/-- SILENCE (R85). -/
def requestSilence (s : State) : State × Answer :=
  if !(s.roles.desk && s.authorities.ack) then (s, { code := .noAuthority })
  else if s.station.joining then (s, { code := .refusedState .joining })
  else if s.alarm.stage ≠ .evacuate then (s, { code := .refusedState .notEvacuate })
  else
    (((s.setAlarm fun a => { a with
        silence := some { generation := a.generation, count := a.order.length } }).mark).review,
      { code := .accepted })

/-- The lowest zone whose merged condition is ALARM_ACTIVE. -/
def Alarm.lowestActive (a : Alarm) : Option Nat :=
  zoneNumbers.find? fun z => (a.zoneAt z).condition == .alarmActive

/-- RESET (R86). -/
def requestReset (s : State) : State × Answer :=
  if !(s.roles.desk && s.authorities.reset) then (s, { code := .noAuthority })
  else if s.station.joining then (s, { code := .refusedState .joining })
  else
    match s.alarm.lowestActive with
    | some z => (s, { code := .refusedState .notClear, zone := some z })
    | none => (s.takeGeneration (s.alarm.generation + 1) .ownReset false, { code := .accepted })

/-- CLEAR SNAPSHOT (R89). -/
def requestClearSnapshot (s : State) : State × Answer :=
  ((s.setAlarm fun a => { a with snapshot := none }).logIf s.alarm.snapshot.isSome .snapshotCleared,
    { code := .accepted })

/-! ### Timers (R79, R80, R75) -/

/-- The stage step at the expiry of a timer in its stage: EVACUATE with the timer's cause. -/
def expiryStage (stage : Stage) (cause : StageCause) (s : State) : State :=
  if s.alarm.stage = stage then s.enterEvacuate cause else s

/-- ACK_WINDOW_EXPIRY (R79): the ack window expires in ALERT. -/
def execAckWindowExpiry (s : State) : Result :=
  whenRunning s fun s =>
    match s.alarm.ackWindow with
    | some t =>
      (((s.advanceTo t).setAlarm fun a => { a with ackWindow := none }).reevaluateBy
        (expiryStage .alert .ackTimeout)).react
    | none => s

/-- INVESTIGATION_TIMEOUT (R80): the investigation timer expires in INVESTIGATE. -/
def execInvestigationTimeout (s : State) : Result :=
  whenRunning s fun s =>
    match s.alarm.investigation with
    | some t =>
      (((s.advanceTo t).setAlarm fun a => { a with investigation := none }).reevaluateBy
        (expiryStage .investigate .investigationTimeout)).react
    | none => s

end Sys2Proof.Machine
end

