-- ==== Sys2Proof/Machine/Phase.lean ====
section
/-! DEFINITION. The Phase Tracker (chapter 1): taking a phase view, the requests SET PHASE, HOLD ON and HOLD OFF,
adoption from peers and at the end of the joining period, and the interval timer. -/

namespace Sys2Proof.Machine

/-! ### Taking a view (R3) -/

/-- A phase view as a request or a peer gives it: the five reported fields, the hold off outside PERFORMANCE and
INTERVAL (R2). -/
def normalView (p : PhaseSection) : PhaseSection := { p with hold := p.hold && p.phase.holdAllowed }

/-- R3, R12: the remaining time after a view is taken. `restart` starts the timer in full in any INTERVAL (R11). -/
def remainingAfter (held : PhaseView) (taken : PhaseSection) (restart : Bool) : Nat :=
  if taken.phase = .interval then
    if held.phase = .interval ∧ held.minutes = taken.minutes ∧ restart = false then held.remaining
    else taken.minutes * 60
  else 0

/-- The view after taking. -/
def PhaseView.take (held : PhaseView) (taken : PhaseSection) (restart : Bool) : PhaseView :=
  let taken := normalView taken
  { phase := taken.phase, hold := taken.hold, epoch := taken.epoch, origin := taken.origin,
    minutes := taken.minutes, remaining := remainingAfter held taken restart }

/-- The reported fields of a view. -/
def PhaseView.section (v : PhaseView) : PhaseSection :=
  { phase := v.phase, hold := v.hold, epoch := v.epoch, origin := v.origin, minutes := v.minutes }

/-- R3: a phase-entry notice, to the Alarm Stage Unit, the Light Mixer and the Call Sequencer, in this order (log entry
63). -/
def State.phaseNotice (s : State) : State := (s.review.lightsPhase).callsPhase s.phase.phase

/-- R3: a view is taken whole, with its notices and the mark. A hold notice bears on the Light Mixer alone: of the
Alarm Stage Unit no rule names the hold (R75), and the Call Sequencer reads it at its start test (R150; log entry 55). A
change of the minutes alone, in INTERVAL, hands no notice (log entry 64). -/
def State.takeView (s : State) (view : PhaseSection) (restart : Bool) : State :=
  let taken := s.phase.take view restart
  let s₁ := (s.withPhase taken).markIf (s.phase.section != taken.section)
  if taken.phase ≠ s.phase.phase then s₁.phaseNotice
  else if taken.hold ≠ s.phase.hold then s₁.lightsPhase
  else s₁

/-! ### Requests (R4 to R8) -/

/-- R4: the transition table. -/
def allowedMove : Phase → Phase → Bool
  | .closed, .houseOpen => true
  | .houseOpen, .performance => true
  | .houseOpen, .closed => true
  | .performance, .interval => true
  | .performance, .houseClearing => true
  | .interval, .performance => true
  | .interval, .houseClearing => true
  | .houseClearing, .closed => true
  | _, _ => false

/-- R5: the peers that count as curtain stations: heard, with the role CURTAIN in a report accepted less than 3.5 s
ago. -/
def State.openingPeers (s : State) : List PeerRecord :=
  s.curtainPeers.filter fun r => s.clock.now < r.acceptedMs + Config.peerSilentMs

/-- A peer's last report shows its curtain proven. -/
def PeerRecord.proven (r : PeerRecord) : Bool :=
  match r.lastReport with
  | some report => report.curtain.flags.proven
  | none => false

/-- R5: the one counted curtain station is proven; none, or more than one, gives its reason. -/
def State.curtainCheck (s : State) : Option Reason :=
  match s.roles.curtain, s.openingPeers with
  | false, [] => some .noCurtain
  | true, [] => if s.proven then none else some .unproven
  | false, [r] => if r.proven then none else some .unproven
  | _, _ => some .conflict

/-- R5: the house-opening checks. -/
def State.openingCheck (s : State) : Option Reason :=
  match s.curtainCheck with
  | some reason => some reason
  | none => if s.alarm.stage = .quiet then none else some .alarm

/-- R6: the interval length of a request. -/
def clampMinutes (m : Nat) : Nat := min 40 (max 5 m)

/-- R7: the view that an accepted SET PHASE makes. -/
def State.newView (s : State) (target : Phase) (minutes : Nat) : PhaseSection :=
  { phase := target, hold := false, epoch := s.phase.epoch + 1, origin := s.own,
    minutes := if target = .interval then clampMinutes minutes else s.phase.minutes }

/-- R6, R7: an accepted SET PHASE. -/
def State.acceptPhase (s : State) (target : Phase) (minutes : Nat) : State × Answer :=
  (s.takeView (s.newView target minutes) false,
    { code := if target = .interval ∧ clampMinutes minutes ≠ minutes then .clamped else .accepted })

/-- SET PHASE (R4). -/
def requestPhase (s : State) (target : Option Phase) (minutes : Nat) : State × Answer :=
  if !(s.roles.desk && s.authorities.phase) then (s, { code := .noAuthority })
  else
    match target with
    | none => (s, { code := .badRequest })
    | some target =>
      if s.station.joining then (s, { code := .refusedState .joining })
      else if !allowedMove s.phase.phase target then (s, { code := .badTransition })
      else
        match if target = .houseOpen then s.openingCheck else none with
        | some reason => (s, { code := .refusedState reason })
        | none => s.acceptPhase target minutes

/-- HOLD ON and HOLD OFF (R8). -/
def requestHold (s : State) (hold : Bool) : State × Answer :=
  if !(s.roles.desk && s.authorities.phase) then (s, { code := .noAuthority })
  else if s.station.joining then (s, { code := .refusedState .joining })
  else if !s.phase.phase.holdAllowed then (s, { code := .refusedState .notInShow })
  else
    (s.takeView { phase := s.phase.phase, hold := hold, epoch := s.phase.epoch + 1, origin := s.own,
                  minutes := s.phase.minutes } false, { code := .accepted })

/-! ### Adoption (R9 to R11) -/

/-- R10: an origin in its order; 0 ranks after station 40. -/
def originRank (origin : Nat) : Nat := if origin = 0 then 41 else origin

/-- R10: a view of equal epoch is adopted over the held one. -/
def winsTie (held : PhaseView) (view : PhaseSection) (station : Nat) : Bool :=
  (view.phase != held.phase || view.hold != held.hold || view.minutes != held.minutes) &&
    (decide (originRank view.origin < originRank held.origin) ||
      view.origin == held.origin && view.origin == station)

/-- R9, R10: the held view gives way to a LIVE peer's. At equal epochs the reported hold is compared as R2 would take
it, off outside PERFORMANCE and INTERVAL (log entry 54). -/
def adoptsView (held : PhaseView) (view : PhaseSection) (station : Nat) : Bool :=
  newer view.epoch held.epoch || view.epoch == held.epoch && winsTie held (normalView view) station

/-- An acceptance notice at the Phase Tracker (R9). -/
def State.phaseAccept (s : State) (station : Nat) : State :=
  match (s.peer station).bind fun r => r.liveReport true with
  | some report =>
    if s.configured && !s.station.joining && adoptsView s.phase report.phase station then
      s.takeView report.phase false
    else s
  | none => s

/-- R11: the view of the source is taken unconditionally at the end of the joining period. -/
def State.phaseJoined (s : State) (source : Option PeerRecord) : State :=
  match source.bind fun r => r.lastReport with
  | some report => if s.configured then s.takeView report.phase true else s
  | none => s

/-! ### The interval timer (R12, R13) -/

def markSeconds : IntervalMark → Nat
  | .m300 => 300 | .m180 => 180 | .m60 => 60

/-- R12: the timer runs. -/
def PhaseView.timerRuns (v : PhaseView) : Bool :=
  v.phase == .interval && !v.hold && decide (0 < v.remaining)

/-- R13: the marks that a decrement of the remaining time passes. -/
def marksPassed (before after : Nat) : List IntervalMark :=
  [IntervalMark.m300, .m180, .m60].filter fun m => markSeconds m < before && after ≤ markSeconds m

/-- A decrement of the interval timer, with the marks that it passes. -/
def State.countInterval (s : State) (remaining : Nat) : State :=
  (marksPassed s.phase.remaining remaining).foldl State.callsMark
    (s.withPhase { s.phase with remaining := remaining })

/-- R12: one increment of node time at the interval timer. -/
def State.intervalSecond (s : State) : State :=
  if s.phase.timerRuns then s.countInterval (s.phase.remaining - 1) else s

end Sys2Proof.Machine
end

