-- ==== Sys2Proof/Machine/Peers.lean ====
section
/-! DEFINITION. The Peer Table (chapter 3): the judging and accepting of reports, poisoned notices, silence, the end
of the own joining period; and the meanings of their three events. -/

namespace Sys2Proof.Machine

/-! ### Items, warnings and faults of a peer (R41, R44 to R47) -/

/-- R44: the items that a desk's authorities let readers use. -/
def honouredItems (r : Report) : DeskItems :=
  let desk := r.roles.desk
  { acknowledgement := desk && r.authorities.ack, silence := desk && r.authorities.ack,
    demand := desk && r.authorities.curtain, windows := desk && r.authorities.effects,
    disablements := desk && r.authorities.reset, claims := desk && r.authorities.lights,
    calls := desk && r.authorities.calls }

/-- R44: the items present in a report. -/
def presentItems (r : Report) : DeskItems :=
  { acknowledgement := r.alarm.ackPresent, silence := r.alarm.silencePresent,
    demand := r.desk.demandKind.isSome, windows := !r.desk.windows.isEmpty,
    disablements := !r.desk.disablements.isEmpty, claims := !r.desk.claims.isEmpty,
    calls := !r.desk.calls.isEmpty }

/-- R45: the items present but not honoured. -/
def DeskItems.without (present honoured : DeskItems) : DeskItems :=
  { acknowledgement := present.acknowledgement && !honoured.acknowledgement,
    silence := present.silence && !honoured.silence, demand := present.demand && !honoured.demand,
    windows := present.windows && !honoured.windows,
    disablements := present.disablements && !honoured.disablements,
    claims := present.claims && !honoured.claims, calls := present.calls && !honoured.calls }

def unauthorisedItems (r : Report) : DeskItems := (presentItems r).without (honouredItems r)

/-- R45: UNAUTHORISED FIELD at an acceptance. -/
def State.judgeUnauthorised (s : State) (report : Report) : State :=
  s.setFault (.unauthorisedField report.station) (.items (unauthorisedItems report))
    (unauthorisedItems report != {})

/-- R41: the DEGRADED fault follows the gap score; from 2 to 5 it keeps its value. -/
def State.judgeDegraded (s : State) (station score : Nat) : State :=
  if 6 ≤ score then s.raiseFault (.peerDegraded station) .none
  else if score ≤ 1 then s.clearFault (.peerDegraded station)
  else s

/-- R46: the config mismatch warning of a record, with its log entry at a change. -/
def State.setMismatchWarning (s : State) (r : PeerRecord) (mismatch : Bool) : State :=
  if mismatch = r.mismatch then s
  else
    (s.withPeer { r with mismatch := mismatch }).log
      (if mismatch then .configMismatch r.station else .configMismatchCleared r.station)

/-- R47: CURTAIN CONFLICT stands while two or more curtain stations are counted. -/
def State.judgeConflict (s : State) : State := s.setFault .curtainConflict .none (decide (2 ≤ s.curtainCount))

/-! ### Acceptance (R37 to R39) -/

/-- R39: a report is joining if its JOINING flag is set or its role set is empty. -/
def stateAfter (report : Report) : PeerState := if report.notJoining then .live else .joining

/-- R39: the record after an acceptance that adds `missed` to the gaps. -/
def PeerRecord.accept (r : PeerRecord) (report : Report) (missed nodeTime now : Nat) : PeerRecord :=
  { r with
    state := stateAfter report, lastReport := some report, acceptedAt := some nodeTime, acceptedMs := now,
    honoured := honouredItems report, accepted := r.accepted + 1,
    gaps := r.gaps + BitVec.ofNat 16 missed, gapScore := min 255 (r.gapScore + missed) }

/-- R39: the change of the record, with its warnings and faults. The place of PEER DEGRADED, which R39 does not give, is
the first (log entry 67). -/
def State.acceptRecord (s : State) (r : PeerRecord) (report : Report) (missed : Nat) : State :=
  let r' := r.accept report missed s.nodeTime s.clock.now
  let s₁ := ((s.withPeer r').judgeDegraded r.station r'.gapScore).judgeUnauthorised report
  let s₂ := s₁.setMismatchWarning r' (report.signature != s.station.config.signature)
  (s₂.clearFault (.peerSilent r.station)).judgeConflict

/-- An acceptance or silence notice at the Detection Unit: the windows first and the disabled fields second (log entry
56), each evaluation's zone-condition notices handed before the next evaluation (R59, R62, R67, R68). -/
def State.detectionPeer (s : State) (station : Nat) : State :=
  ((((s.alignCopies station).recomputeWindows).react).recomputeDisabled).react

/-- R39: the acceptance notices, in the order of its table. -/
def State.acceptNotices (s : State) (station : Nat) (resync live : Bool) : State :=
  let s₁ := ((s.phaseAccept station).alarmAccept station).detectionPeer station
  ((s₁.curtainAccept station resync).lightsAccept station).callsAccept station resync live

/-- R39: a report is accepted. -/
def State.accept (s : State) (r : PeerRecord) (report : Report) (missed : Nat) (resync : Bool) : State :=
  (s.acceptRecord r report missed).acceptNotices r.station resync (stateAfter report == .live)

/-- R37: a report that is accepted whatever its sequence. -/
def isResync (r : PeerRecord) (report : Report) : Bool :=
  !r.state.heard ||
    match r.lastReport with
    | some last => report.restartCount != last.restartCount
    | none => true

/-- R38: the sequence distance from the last report held. -/
def distance (r : PeerRecord) (report : Report) : Nat :=
  match r.lastReport with
  | some last => (report.sequence - last.sequence).toNat
  | none => 0

/-- R38: a report that is no resync, judged by its sequence. -/
def State.judgeSequence (s : State) (r : PeerRecord) (report : Report) : State :=
  let d := distance r report
  if d = 0 then s.withPeer { r with duplicates := r.duplicates + 1 }
  else if d ≤ 127 then s.accept r report (d - 1) false
  else s

/-! ### The own number (R36) -/

/-- R36: another station uses the own number. -/
def State.duplicateSeen (s : State) : State :=
  let s' := s.raiseFault .duplicateStation .none
  s'.withPeers { s'.peers with duplicateTimer := some (s'.clock.now + Config.duplicateMs) }

/-- R36 to R38: a handed report, with the last-sent note of its line. -/
def State.takeReport (s : State) (note : Option (Byte × Byte)) (report : Report) : State :=
  if report.station = s.own then
    (if note = some (report.sequence, report.restartCount) then s else s.duplicateSeen)
  else
    match s.peer report.station with
    | none => s
    | some r => if isResync r report then s.accept r report 0 true else s.judgeSequence r report

/-- R36, R40: a poisoned notice naming a station. -/
def State.poisonedNotice (s : State) (station : Nat) : State :=
  if station = s.own then s.duplicateSeen
  else
    match s.peer station with
    | some r => s.withPeer { r with poisoned := r.poisoned + 1 }
    | none => s

/-- DUPLICATE_STATION_CLEARED (R36): the 10 s clearing timer expires. -/
def execDuplicateStationCleared (s : State) : Result :=
  whenRunning s fun s =>
    match s.peers.duplicateTimer with
    | some t =>
      let s' := s.advanceTo t
      (s'.withPeers { s'.peers with duplicateTimer := none }).clearFault .duplicateStation
    | none => s

/-! ### Silence (R42) -/

/-- R42: the record goes SILENT, with its fault, its warning and CURTAIN CONFLICT in this order (log entry 78). -/
def State.silenceRecord (s : State) (r : PeerRecord) : State :=
  let r' := { r with state := .silent }
  (((s.withPeer r').raiseFault (.peerSilent r.station) .none).setMismatchWarning r' false).judgeConflict

/-- R42: the silence notices, to the Alarm Stage Unit, the Detection Unit and the Light Mixer in this order (log entry
57). -/
def State.silenceNotices (s : State) (station : Nat) : State :=
  (s.review.detectionPeer station).lightsSilence station

/-- PEER_SILENT (R42): the age of a record in JOINING or LIVE reaches 3.5 s. -/
def execPeerSilent (station : Nat) (s : State) : Result :=
  whenRunning s fun s =>
    match s.peer station with
    | some r =>
      if r.state.heard then
        ((s.advanceTo (r.acceptedMs + Config.peerSilentMs)).silenceRecord r).silenceNotices station
      else s
    | none => s

/-! ### The end of the own joining period (R49) -/

/-- R49: the record in state LIVE with the lowest station number. -/
def State.joiningSource (s : State) : Option PeerRecord := s.peers.records.find? fun r => r.state == .live

/-- The standing after the joining period (R171). -/
def State.joinedStanding (s : State) : Standing := if s.configured then .running else .unconfigured

/-- R49: the notices and the change of the flag. -/
def State.endJoining (s : State) : State :=
  let source := s.joiningSource
  let s₁ := ((s.phaseJoined source).alarmJoined source).lightsPhase
  let s₂ := (((s₁.detectionJoined.react).recomputeDisabled).react).curtainJoined
  (s₂.withStation { s₂.station with joining := false, standing := s₂.joinedStanding }).mark

/-- END_OF_JOINING (R49): 3.5 s of the joining period have passed. -/
def execEndOfJoining (s : State) : Result :=
  whenRunning s fun s =>
    if s.station.joining then (s.advanceTo s.station.joiningUntil).endJoining else s

end Sys2Proof.Machine
end

