-- ==== Sys2Proof/Machine/LineEvents.lean ====
section
/-! DEFINITION. The Line Controllers' events (R20 to R25): a frame received, a contention lost, a frame sent, and a
line's silence. -/

namespace Sys2Proof.Machine

/-- The line falls idle after a frame (R20): a report still in flight has met another station's frame and goes back to
the slot (log entry 93); a waiting controller then contends. -/
def LineController.fallIdle (c : LineController) : LineController :=
  let c' := { c.returnFlight with busy := false, ownFrame := none }
  match c'.transmitter with
  | .waiting => c'.contend
  | _ => c'

/-! ### Line faults (R25) -/

/-- The silence time of a line, in ms. -/
def State.silenceOf (s : State) (l : Line) : Nat := s.clock.now - (s.line l).silenceSince

/-- R25: the fault of a line is raised while it is silent and the other is not. -/
def State.judgeSilence (s : State) (l : Line) : State :=
  if Config.lineSilentMs ≤ s.silenceOf l ∧ s.silenceOf l.other < Config.lineSilentMs then
    s.raiseFault (.lineFault l) .none
  else s

/-- R22, R25: a credited frame restarts the silence time of its line. -/
def State.credit (s : State) (l : Line) : State :=
  (s.withLine l { s.line l with silenceSince := s.clock.now }).judgeSilence l.other

/-! ### Classification (R22) -/

def State.countGood (s : State) (l : Line) : State :=
  s.withLine l { s.line l with goodFrames := (s.line l).goodFrames + 1 }

def State.countCrc (s : State) (l : Line) : State :=
  s.withLine l { s.line l with crcFailures := (s.line l).crcFailures + 1 }

/-- The station numbers that R22 hands on. -/
def isStation (n : Nat) : Bool := 1 ≤ n && n ≤ 40

def State.handReport (s : State) (l : Line) (report : Report) : State :=
  if isStation report.station then s.takeReport (s.line l).lastSent report else s

def State.handPoisoned (s : State) (n : Nat) : State := if isStation n then s.poisonedNotice n else s

/-- R22: the table, for a classified frame; `own` says that the controller sent it to completion. The line's own part,
its count, its silence time and the two line faults, comes before the Peer Table's (log entry 66). -/
def State.classified (s : State) (l : Line) (own : Bool) : FrameVerdict → State
  | .crcFailure => s.countCrc l
  | .formatFailure n => if isStation n then (s.credit l).handPoisoned n else s.countCrc l
  | .poisoned n => if own then s else (s.credit l).handPoisoned n
  | .good report =>
    if own then s.handReport l report
    else (((s.countGood l).credit l).clearFault (.lineFault l)).handReport l report

/-- R20, R22: the line falls idle after a frame, and the frame is classified (log entry 8). The own transmission is the
frame last sent to completion, read back byte for byte (log entry 93). -/
def State.frameEnds (s : State) (l : Line) (frame : List Byte) : State :=
  (s.withLine l (s.line l).fallIdle).classified l ((s.line l).ownFrame == some frame) (classify frame)

/-- FRAME_RECEIVED (R22): a composition that the frame brings about finds its line idle (R20). -/
def execFrameReceived (l : Line) (frame : List Byte) (s : State) : Result :=
  if s.power.running then .next ((s.frameEnds l frame).settleAt (some l)) else .next s

/-- ARBITRATION_LOST (R20): the report in flight goes back to the slot. -/
def execArbitrationLost (l : Line) (s : State) : Result :=
  whenRunning s fun s => s.withLine l (s.line l).returnFlight

/-- FRAME_SENT (R21): the frame in flight has been sent to completion. -/
def execFrameSent (l : Line) (s : State) : Result :=
  whenRunning s fun s => s.withLine l (s.line l).frameSent

/-- LINE_SILENCE_TIMEOUT (R25): the silence time of a line reaches 3 s. -/
def execLineSilenceTimeout (l : Line) (s : State) : Result :=
  whenRunning s fun s => (s.advanceTo ((s.line l).silenceSince + Config.lineSilentMs)).judgeSilence l

end Sys2Proof.Machine
end

