-- ==== Sys2Proof/Machine/NodeTime.lean ====
section
/-! DEFINITION. Node time (R184): one increment at every block that counts on it, and the meanings of NODE_TIME_INCREMENT
and of the six rows that name what falls due at an increment. -/

namespace Sys2Proof.Machine

/-! ### One increment -/

/-- R184: node time advances by 1. What follows 4294967295 is a free value (log entry 1). -/
def State.advanceNodeTime (s : State) : State :=
  if s.nodeTime < Config.nodeTimeMax then s.withStation { s.station with nodeTime := s.nodeTime + 1 }
  else
    (s.withStation { s.station with nodeTime := (Config.nodeTimePastEnd s.draws).toNat }).withDraws
      (s.draws + 1)

/-- One second of running time has passed since the last increment. -/
def State.second (s : State) : State :=
  let s' := s.advanceTo (s.clock.secondAt + 1000)
  (s'.withClock { s'.clock with secondAt := s.clock.secondAt + 1000 }).advanceNodeTime

/-- R41: at a multiple of 10 the score of one record leaks. -/
def State.leakRecord (s : State) (r : PeerRecord) : State :=
  if 0 < r.gapScore then
    (s.withPeer { r with gapScore := r.gapScore - 1 }).judgeDegraded r.station (r.gapScore - 1)
  else s

/-- R41: every record's score above 0 decreases by 1 at a multiple of 10, in ascending station number (log entry 65). -/
def State.leak (s : State) : State :=
  if s.nodeTime % 10 = 0 then s.peers.records.foldl State.leakRecord s else s

/-- R75: node time has reached the re-alarm end. -/
def State.realarmReached (s : State) : State :=
  if s.alarm.realarmEnd = some s.nodeTime then s.review else s

/-- R184: an increment of node time for every block that counts on it. The proof is judged first, so that it lapses here
by the passing of time alone (R109). The order of the others, the interval timer, the windows with their evaluations, the
gap scores and the re-alarm end, is the model's (log entry 65). -/
def State.blocksCount (s : State) (wasProven : Bool) : State :=
  (((((s.proofAges wasProven).intervalSecond).countDownWindows).react).leak).realarmReached

/-- An increment of node time at a station that is running. -/
def State.increment (s : State) : State := s.second.blocksCount s.proven

/-- NODE_TIME_INCREMENT (R184). A station that is not running counts on while its retained store is good, and hands
nothing to its blocks. -/
def execNodeTimeIncrement (s : State) : Result :=
  if s.power.running then .next s.increment.settle
  else if s.power.storeGood then .next s.second
  else .next s

/-! ### What falls due at an increment (log entry 9)

Each row is the increment at which what it names comes about, with all that the increment brings. Where the next
increment does not bring it, the event does not occur. -/

/-- The next increment is the event, where it is due. -/
def whenDue (s : State) (due : Bool) : Result := whenRunning s fun s => if due then s.increment else s

/-- INTERVAL_MARK (R13): the increment that takes the remaining time of the running timer to the mark. -/
def execIntervalMark (mark : IntervalMark) (s : State) : Result :=
  whenDue s (s.phase.timerRuns && s.phase.remaining == markSeconds mark + 1)

/-- INTERVAL_TIMER_EXPIRY (R12): the increment that takes the remaining time of the running timer to 0. -/
def execIntervalTimerExpiry (s : State) : Result :=
  whenDue s (s.phase.timerRuns && s.phase.remaining == 1)

/-- EFFECTS_WINDOW_EXPIRY (R64): the increment that takes the own window entry of a zone to 0. -/
def execEffectsWindowExpiry (z : Nat) (s : State) : Result :=
  whenDue s (s.detection.windows.any fun w => w.zone == z && decide (w.remaining ≤ 1))

/-- WINDOW_COPY_EXPIRY (R67): the increment that takes a copy of a desk's window to 0. -/
def execWindowCopyExpiry (desk z : Nat) (s : State) : Result :=
  whenDue s (s.detection.copies.any fun c => c.desk == desk && c.zone == z && decide (c.remaining ≤ 1))

/-- The next increment takes node time to `t`. -/
def State.reachesNext (s : State) (t : Nat) : Bool := s.nodeTime + 1 == t && decide (t ≤ Config.nodeTimeMax)

/-- REALARM_WINDOW_END (R75): the increment at which node time reaches the re-alarm end. -/
def execRealarmWindowEnd (s : State) : Result :=
  whenDue s (s.alarm.realarmEnd.any s.reachesNext)

/-- PROOF_EXPIRED (R109): the increment at which node time passes the end of the proof period of a proven curtain. -/
def execProofExpired (s : State) : Result :=
  whenDue s (s.roles.curtain && s.proven &&
    s.reachesNext (s.curtain.proof.time + s.image.curtain.proofPeriod + 1))

end Sys2Proof.Machine
end

