-- ==== Sys2Proof/Machine/Bays.lean ====
section
/-! DEFINITION. The Bay Controller (chapter 10): seating, powering, losing and exchanging with the modules of the four
bays, what a module presents, and the meanings of the bays' events. -/

namespace Sys2Proof.Machine

/-! ### The fault key and the failing of a bay (R158, R161, R162) -/

/-- R158: the bay's key follows its state; a bay passes between MISSEATED and FAILED only through another state. -/
def State.bayKey (s : State) (b : Bay) : State :=
  let bay := s.bay b
  let s' := (s.setFault (.bayMisseated b) .none (bay.state == .misseated))
  s'.setFault (.bayFailed b) (.bayFailure (bay.reason.getD .noAnswer)) (bay.state == .failed)

/-- A bay record takes a new state, and its fault key follows. -/
def State.changeBay (s : State) (b : Bay) (record : BayRecord) : State := (s.withBay b record).bayKey b

/-- Every supply off, and what the module had taken and played forgotten; commands not yet carried are dropped (log entry
91). -/
def BayRecord.unpower (bay : BayRecord) : BayRecord :=
  { bay with supplies := suppliesOff, debounce := none, ready := none, commands := [], sent := none,
             taken := none, playing := none }

/-- The record on entry to FAILED (R161, R162, R164). -/
def BayRecord.fail (bay : BayRecord) (reason : FailureReason) : BayRecord :=
  { bay.unpower with state := .failed, reason := some reason }

/-- The record on entry to EMPTY (R163). -/
def BayRecord.vacate (bay : BayRecord) : BayRecord :=
  { bay.unpower with state := .empty, presence := .none, sensed := none, reason := none }

/-- The record on entry to MISSEATED. -/
def BayRecord.misseat (bay : BayRecord) : BayRecord := { bay.unpower with state := .misseated }

/-! ### Notices to the users of the modules (R165) -/

/-- The lost notice of a bay that fails: an ONLINE bay fails by overcurrent or by link loss alone. -/
def FailureReason.lostCause : FailureReason → Option LostCause
  | .overcurrent => some .overcurrent
  | .linkLost => some .linkLost
  | .noAnswer => none
  | .unwanted => none
  | .wrongType => none

/-- The user of a module's type acts on its loss. -/
def State.userLoses (s : State) (b : Bay) : Option ModuleType → State
  | some .loop => (s.loopLost b).react
  | some .drive => s.driveLost
  | some .call => s.callLost b
  | some .dimmer => s
  | none => s

/-- A lost notice, which names the bay and the cause, to the user of the module's type. -/
def State.lostNotice (s : State) (b : Bay) (cause : Option LostCause) (type : Option ModuleType) : State :=
  (s.withBay b { s.bay b with lost := cause }).userLoses b type

/-- An online notice, to the user of the module's type. -/
def State.onlineNotice (s : State) (b : Bay) : ModuleType → State
  | .drive => s.driveOnline
  | .call => s.callCameOnline b
  | .loop => s
  | .dimmer => s

/-- A bay leaves its seat or its use; a bay that was ONLINE hands a lost notice from its new state, after its own entries of
the log (log entry 77). -/
def State.leave (s : State) (b : Bay) (record : BayRecord) (cause : Option LostCause) (logged : State → State) :
    State :=
  let bay := s.bay b
  let s' := logged (s.changeBay b record)
  if bay.state = .online then s'.lostNotice b cause bay.sensed else s'

def State.failBay (s : State) (b : Bay) (reason : FailureReason) : State :=
  s.leave b ((s.bay b).fail reason) reason.lostCause id

/-! ### Seating (R159, R160, R163) -/

/-- SETTLING with the debounce started. -/
def State.settleBay (s : State) (b : Bay) (presence : Presence) : State :=
  s.changeBay b { s.bay b with
    state := .settling, presence := presence, debounce := some (s.clock.now + Config.debounceMs) }

/-- A removal: EMPTY at once, with MODULE REMOVED after the clearing of the bay's key (R159, R163; log entry 78). -/
def State.removeModule (s : State) (b : Bay) : State :=
  s.leave b (s.bay b).vacate (some .removed) fun t => t.log (.moduleRemoved b)

/-- R163: the debounce of a module that rocks in POWERING or ONLINE. -/
def State.rock (s : State) (b : Bay) (presence : Presence) : State :=
  s.withBay b { s.bay b with
    presence := presence,
    debounce := if presence = .one then some (s.clock.now + Config.debounceMs) else none }

/-- R159, R163: a change of the presence reading. -/
def State.takePresence (s : State) (b : Bay) (presence : Presence) : State :=
  match (s.bay b).state, presence with
  | .empty, .none => s
  | .empty, p => s.settleBay b p
  | .settling, .none => s.changeBay b (s.bay b).vacate
  | .settling, p => s.settleBay b p
  | _, .none => s.removeModule b
  | .misseated, .both => s.settleBay b .both
  | .powering, p => s.rock b p
  | .online, p => s.rock b p
  | _, p => s.withBay b { s.bay b with presence := p }

/-- A bay holds a DRIVE module in POWERING or ONLINE. -/
def State.drivesIn (s : State) (b : Bay) : Bool :=
  (s.bay b).sensed == some .drive && ((s.bay b).state == .powering || (s.bay b).state == .online)

/-- R160: the station wants the module. -/
def State.wanted (s : State) (b : Bay) : ModuleType → Bool
  | .loop => s.roles.detect
  | .drive => (s.roles.curtain || !s.configured) && bayList.all fun x => x == b || !s.drivesIn x
  | .dimmer => s.roles.lights
  | .call => s.roles.calls

/-- R160: the supplies of a type. -/
def suppliesFor : ModuleType → Supplies
  | .loop => { logic := true, loop := true, field := false }
  | .drive => { logic := true, loop := false, field := true }
  | .dimmer => { logic := true, loop := false, field := false }
  | .call => { logic := true, loop := false, field := true }

/-- R160: the type-sense lines are read at the expiry of the debounce with presence BOTH. -/
def State.typeRead (s : State) (b : Bay) (type : ModuleType) : State :=
  let bay := { s.bay b with sensed := some type, debounce := none }
  if s.wanted b type then
    s.changeBay b { bay with
      state := .powering, supplies := suppliesFor type,
      ready := some (s.clock.now + Config.readyMs) }
  else s.changeBay b (bay.fail .unwanted)

/-- R159, R163: the expiry of the debounce. -/
def State.debounced (s : State) (b : Bay) (sense : ModuleType) : State :=
  match (s.bay b).state, (s.bay b).presence with
  | .settling, .both => s.typeRead b sense
  | .settling, .one => s.changeBay b (s.bay b).misseat
  | .powering, .one => s.leave b (s.bay b).misseat (some .misseated) id
  | .online, .one => s.leave b (s.bay b).misseat (some .misseated) id
  | _, _ => s.withBay b { s.bay b with debounce := none }

/-! ### Exchanges (R164 to R168) -/

/-- The exchange period of a type, in ms. -/
def periodOf : ModuleType → Nat
  | .loop => 500 | .drive => 100 | .dimmer => 20 | .call => 100

/-- The controller's part of an exchange. -/
def State.partFor (s : State) (b : Bay) : ModuleType → ControllerPart
  | .loop => .loopRequest
  | .drive => .driveOutputs s.curtain.output
  | .dimmer => .dimmerLevels (s.channelLevels b)
  | .call => .callCommands (s.bay b).commands

/-- A bay is ONLINE with a module of a type. -/
def State.online (s : State) (b : Bay) (type : ModuleType) : Bool :=
  (s.bay b).state == .online && (s.bay b).sensed == some type

/-- An exchange begins at the present moment: the controller's part goes to the module, and the next exchange is due a
period later (log entry 95). -/
def State.beginExchange (s : State) (b : Bay) (type : ModuleType) : State :=
  s.withBay b { s.bay b with
    sent := some (s.partFor b type), commands := [], exchangeAt := s.clock.now + periodOf type }

/-- The period of a type elapses, and the next exchange begins. -/
def State.exchange (s : State) (b : Bay) (type : ModuleType) : State :=
  (s.advanceTo (max s.clock.now (s.bay b).exchangeAt)).beginExchange b type

/-- R168: what a CALL module plays after a command. -/
def CallCommand.take : CallCommand → Option Play
  | .play p => some p
  | .stop => none

/-- R168: what a module plays after an exchange that carries commands. -/
def playingAfter (playing : Option Play) : Option ControllerPart → Option Play
  | some (.callCommands commands) => commands.foldl (fun _ c => c.take) playing
  | _ => playing

/-- R164, R166 to R168: an exchange has reached the module, which takes the part sent. -/
def BayRecord.reach (bay : BayRecord) (now : Nat) : BayRecord :=
  { bay with sent := none, taken := bay.sent.orElse fun _ => bay.taken, reachedAt := now,
             playing := playingAfter bay.playing bay.sent }

/-- An answer: the missed run is 0, and the exchange has reached the module (R164). -/
def State.answered (s : State) (b : Bay) : State :=
  s.withBay b { (s.bay b).reach s.clock.now with missed := 0 }

/-- An exchange that ends with no answer may have reached the module or not: a free value (log entry 26). -/
def State.lostExchange (s : State) (b : Bay) : State :=
  let reached := Config.exchangeReached s.draws
  let r := (s.bay b).reach s.clock.now
  (s.withBay b { s.bay b with
    sent := none
    taken := if reached then r.taken else (s.bay b).taken
    reachedAt := if reached then r.reachedAt else (s.bay b).reachedAt
    playing := if reached then r.playing else (s.bay b).playing }).withDraws (s.draws + 1)

/-- R164: an exchange with no answer; a motion of the curtain takes a missing sample from a DRIVE bay. -/
def State.unanswered (s : State) (b : Bay) : State :=
  let s₀ := s.lostExchange b
  let s₁ := if (s.bay b).sensed = some .drive then s₀.missingSample else s₀
  let s₂ := s₁.withBay b { s₁.bay b with missed := min 3 ((s₁.bay b).missed + 1) }
  if (s₂.bay b).missed = 3 then s₂.failBay b .linkLost else s₂

/-! ### What a module presents (R166 to R168) -/

/-- R167: the module's own fail-safe: three exchange periods have passed with no exchange reaching it. -/
def State.failsSafe (s : State) (b : Bay) : Bool := (s.bay b).reachedAt + Config.failSafeMs ≤ s.clock.now

/-- What a DRIVE module drives: unpowered, HOLD is released and the motor off, at a governor setting of its own;
powered and not commanded, HOLD released, the motor off and GOVERNOR NORMAL; commanded, the set that it last took, of
which its fail-safe releases HOLD and switches the motor off. -/
def State.drivePresents (s : State) (b : Bay) : OutputSet :=
  if (s.bay b).supplies.field then
    match (s.bay b).taken with
    | some (.driveOutputs (some outputs)) =>
      { hold := outputs.hold && !s.failsSafe b, governor := some (outputs.governor.getD .normal),
        motor := outputs.motor && !s.failsSafe b }
    | _ => { hold := false, governor := some .normal, motor := false }
  else { hold := false, governor := none, motor := false }

/-- What a CALL module plays: nothing while its FIELD supply is off. -/
def State.callPresents (s : State) (b : Bay) : Option Play :=
  if (s.bay b).supplies.field then (s.bay b).playing else none

/-- The levels of a DIMMER module's channels (R166): those last received while its LOGIC supply is on, and 0 while it is off.
A powered module that has received none stands at 0 too (log entry 101). -/
def State.dimmerPresents (s : State) (b : Bay) : List Nat :=
  if (s.bay b).supplies.logic then
    match (s.bay b).taken with
    | some (.dimmerLevels levels) => levels
    | _ => List.replicate 8 0
  else List.replicate 8 0

/-! ### Meanings -/

/-- PRESENCE_CHANGE (R159, R163). A reading equal to the one last seen is no change. -/
def execPresenceChange (b : Bay) (presence : Presence) (s : State) : Result :=
  whenRunning s fun s => if (s.bay b).presence = presence then s else s.takePresence b presence

/-- DEBOUNCE_EXPIRY (R159, R160, R163): the 500 ms debounce expires. -/
def execDebounceExpiry (b : Bay) (sense : ModuleType) (s : State) : Result :=
  whenRunning s fun s =>
    match (s.bay b).debounce with
    | some t => (s.advanceTo t).debounced b sense
    | none => s

/-- The record on entry to ONLINE, with no exchange made yet (R161). -/
def BayRecord.comeOnline (bay : BayRecord) (now : Nat) : BayRecord :=
  { bay with state := .online, ready := none, lost := none, missed := 0, exchangeAt := now, sent := none,
             taken := none, reachedAt := now, playing := none }

/-- READY_ANSWER (R161): a module in POWERING names its type. MODULE ONLINE is logged before the online notice acts (log
entry 77). R164: the first exchange begins at the entry to ONLINE, with the commands that the notice gave (log entry
80). -/
def execReadyAnswer (b : Bay) (type : ModuleType) (s : State) : Result :=
  whenRunning s fun s =>
    if (s.bay b).state ≠ .powering then s
    else if (s.bay b).sensed = some type then
      ((s.changeBay b ((s.bay b).comeOnline s.clock.now)).log (.moduleOnline b type)).onlineNotice b type
        |>.beginExchange b type
    else s.failBay b .wrongType

/-- READY_TIMER_EXPIRY (R161): the 2 s ready timer expires in POWERING. -/
def execReadyTimerExpiry (b : Bay) (s : State) : Result :=
  whenRunning s fun s =>
    match (s.bay b).state, (s.bay b).ready with
    | .powering, some t => (s.advanceTo t).failBay b .noAnswer
    | _, _ => s

/-- OVERCURRENT (R162): sensed in POWERING or ONLINE, on any supply. -/
def execOvercurrent (b : Bay) (_supply : Supply) (s : State) : Result :=
  whenRunning s fun s =>
    match (s.bay b).state with
    | .powering => s.failBay b .overcurrent
    | .online => s.failBay b .overcurrent
    | _ => s

/-- BAY_EXCHANGE (R164): the period of an ONLINE bay's type elapses. -/
def execBayExchange (b : Bay) (s : State) : Result :=
  whenRunning s fun s =>
    match (s.bay b).state, (s.bay b).sensed with
    | .online, some type => s.exchange b type
    | _, _ => s

/-- LOOP_SAMPLE (R53, R164): a LOOP module answers with its 32 readings. -/
def execLoopSample (b : Bay) (readings : Vector Byte 32) (s : State) : Result :=
  whenRunning s fun s =>
    if s.online b .loop then ((s.answered b).sampleBay b readings).react else s

/-- DRIVE_DELIVERY (R95, R164): a DRIVE module answers with its inputs. -/
def execDriveDelivery (b : Bay) (inputs : DriveInputs) (s : State) : Result :=
  whenRunning s fun s => if s.online b .drive then (s.answered b).curtainDelivery inputs else s

/-- DIMMER_ACKNOWLEDGEMENT (R166). -/
def execDimmerAcknowledgement (b : Bay) (s : State) : Result :=
  whenRunning s fun s => if s.online b .dimmer then s.answered b else s

/-- CALL_EXCHANGE_ANSWER (R164): a CALL module answers an exchange. -/
def execCallExchangeAnswer (b : Bay) (s : State) : Result :=
  whenRunning s fun s => if s.online b .call then s.answered b else s

/-- EXCHANGE_NO_ANSWER (R164): an exchange ends without answer. -/
def execExchangeNoAnswer (b : Bay) (s : State) : Result :=
  whenRunning s fun s => if (s.bay b).state = .online then s.unanswered b else s

/-- R168: the play of a number ends at the module that plays it. -/
def BayRecord.endPlay (bay : BayRecord) (play : Byte) : BayRecord :=
  if (bay.playing.map (·.number)) = some play then { bay with playing := none } else bay

/-- An answer that carries a play event. -/
def State.playEnds (s : State) (b : Bay) (play : Byte) : State :=
  (s.answered b).withBay b (((s.answered b).bay b).endPlay play)

/-- R168: a play event is handed where its play number is the bay's. -/
def State.playEvent (s : State) (b : Bay) (play : Byte) (event : State → State) : State :=
  if s.online b .call then
    (if (s.bay b).play = play then event (s.playEnds b play) else s.playEnds b play)
  else s

/-- PLAY_COMPLETE (R151, R168). -/
def execPlayComplete (b : Bay) (play : Byte) (s : State) : Result :=
  whenRunning s fun s => s.playEvent b play fun t => t.bayDone b

/-- PLAYER_FAULT (R151, R168). -/
def execPlayerFault (b : Bay) (play : Byte) (s : State) : Result :=
  whenRunning s fun s => s.playEvent b play fun t => t.bayFault b

end Sys2Proof.Machine
end

