-- ==== Sys2Proof/Machine/Zones.lean ====
section
/-! DEFINITION. The requests DISABLE, ENABLE, EFFECTS OPEN and EFFECTS CLOSE (R65, R66, R87). -/

namespace Sys2Proof.Machine

/-! ### Disablements (R87) -/

/-- A list of zones with one more, ascending. -/
def insertZone (zones : List Nat) (z : Nat) : List Nat :=
  zones.filter (· < z) ++ z :: zones.filter (z < ·)

/-- A change to the own disablement list: the log, the mark, and the own Detection Unit (R62), in this order (log entry
78). -/
def State.setDisablements (s : State) (zones : List Nat) (event : LogEvent) : State :=
  ((((s.setAlarm fun a => { a with disablements := zones }).log event).mark).recomputeDisabled).react

/-- DISABLE (R87). -/
def requestDisable (s : State) (z : Nat) : State × Answer :=
  if !(s.roles.desk && s.authorities.reset) then (s, { code := .noAuthority })
  else if !zoneInRange z then (s, { code := .badRequest })
  else if s.alarm.disablements.contains z then (s, { code := .accepted })
  else if (s.alarm.zoneAt z).condition.inAlarm then (s, { code := .refusedState .alarm })
  else if 8 ≤ s.alarm.disablements.length then (s, { code := .full })
  else (s.setDisablements (insertZone s.alarm.disablements z) (.disablementSet z), { code := .accepted })

/-- ENABLE (R87). -/
def requestEnable (s : State) (z : Nat) : State × Answer :=
  if !(s.roles.desk && s.authorities.reset) then (s, { code := .noAuthority })
  else if !zoneInRange z then (s, { code := .badRequest })
  else if !s.alarm.disablements.contains z then (s, { code := .refusedState .notDisabled })
  else
    (s.setDisablements (s.alarm.disablements.filter (· ≠ z)) (.disablementCleared z), { code := .accepted })

/-! ### Effects windows (R65, R66) -/

/-- The own window list with an entry for a zone it does not hold, ascending by zone. -/
def insertWindow (windows : List WindowEntry) (entry : WindowEntry) : List WindowEntry :=
  windows.filter (·.zone < entry.zone) ++ entry :: windows.filter (entry.zone < ·.zone)

/-- R65: one zone of EFFECTS OPEN. -/
def openZone (inhibitable : Nat → Bool) (duration : Nat) (windows : List WindowEntry) (z : Nat) :
    List WindowEntry × ZoneResult :=
  if !inhibitable z then (windows, .notInhibitable)
  else if windows.any fun w => w.zone == z then (windows, .alreadyOpen)
  else if 8 ≤ windows.length then (windows, .full)
  else (insertWindow windows { zone := z, remaining := duration }, .opened)

/-- R66: one zone of EFFECTS CLOSE. One that the request named before is no longer listed (log entry 70). -/
def closeZone (windows : List WindowEntry) (z : Nat) : List WindowEntry × ZoneResult :=
  if windows.any fun w => w.zone == z then (windows.filter fun w => w.zone != z, .closed)
  else (windows, .notOpen)

/-- The zones of a request taken one by one, with their zone results. -/
def takeZones (one : List WindowEntry → Nat → List WindowEntry × ZoneResult) :
    List WindowEntry → List Nat → List WindowEntry × List (Nat × ZoneResult)
  | windows, [] => (windows, [])
  | windows, z :: zs =>
    let (windows', result) := one windows z
    let (windows'', results) := takeZones one windows' zs
    (windows'', (z, result) :: results)

/-- A well-formed zone list of 1 to 8 zones (R65, R66). -/
def zonesGood (zones : List Nat) : Bool :=
  !zones.isEmpty && zones.length ≤ 8 && zones.all zoneInRange

/-- R65: the answer where no zone was OPENED follows the first zone named. -/
def refusalOf : List (Nat × ZoneResult) → AnswerCode
  | (_, .notInhibitable) :: _ => .refusedState .notInhibitable
  | (_, .alreadyOpen) :: _ => .refusedState .alreadyOpen
  | (_, .full) :: _ => .full
  | _ => .badRequest

/-- A changed window list: the mark, and the windows in force (R64, R68). -/
def State.changeWindows (s : State) (windows : List WindowEntry) : State :=
  ((s.withWindows windows).mark.recomputeWindows).react

/-- EFFECTS OPEN (R65). -/
def requestOpen (s : State) (zones : List Nat) (duration : Nat) : State × Answer :=
  if !(s.roles.desk && s.authorities.effects) then (s, { code := .noAuthority })
  else if !zonesGood zones || duration == 0 then (s, { code := .badRequest })
  else if s.alarm.stage ≠ .quiet then (s, { code := .refusedState .alarm })
  else
    let (windows, results) := takeZones
      (openZone s.zoneInhibitable (min duration Config.windowSeconds)) s.detection.windows zones
    if results.any fun x => x.2 == .opened then
      (s.changeWindows windows,
        { code := if Config.windowSeconds < duration then .clamped else .accepted, results := results })
    else (s, { code := refusalOf results, results := results })

/-- EFFECTS CLOSE (R66). R172 carries zone results with ACCEPTED and R66 gives none for the selection all: its answer carries
an empty list (log entry 97). -/
def requestClose (s : State) (selection : WindowSelection) : State × Answer :=
  if !(s.roles.desk && s.authorities.effects) then (s, { code := .noAuthority })
  else
    match selection with
    | .all =>
      (if s.detection.windows.isEmpty then s else s.changeWindows [], { code := .accepted })
    | .zones zones =>
      if !zonesGood zones then (s, { code := .badRequest })
      else
        let (windows, results) := takeZones closeZone s.detection.windows zones
        if results.any fun x => x.2 == .closed then
          (s.changeWindows windows, { code := .accepted, results := results })
        else (s, { code := .refusedState .notOpen, results := results })

end Sys2Proof.Machine
end

