-- ==== Sys2Proof/Machine/Panel.lean ====
section
/-! DEFINITION. The Panel Port (chapter 11): the judging of a request by the station's standing, the operator requests,
the records of READ RECORD, the end of a transaction with the read marking, and RELEASE TRACE. -/

namespace Sys2Proof.Machine

/-! ### The transaction (R170 to R172) -/

/-- A judged request with its answer; the header's unread count is the one after the judgement (log entry 18). -/
def State.judged (s : State) (body : AnswerBody) (entry : Option Half) : State :=
  s.withPanel { s.panel with
    transaction := some { body := body, unread := s.unread, standing := s.station.standing,
                          logEntry := entry } }

/-- R171, R172: requests are handed to their owners while the standing is JOINING or RUNNING. -/
def State.servesRequests (s : State) : Bool :=
  match s.station.standing with
  | .joining => true
  | .running => true
  | _ => false

/-- The end of a panel command: the composition that its marks call for. -/
def State.concluded (s : State) : State := if s.power.running then s.settle else s

/-- R172: an operator request, handed to its owner or answered BAD_REQUEST with no effect. -/
def operatorRequest (s : State) (owner : State → State × Answer) : Result :=
  if s.servesRequests then
    .next ((owner s).1.judged (.request (owner s).2) none).concluded
  else .next (s.judged (.request { code := .badRequest }) none).concluded

/-! ### What is clocked out (R170, R171) -/

/-- The answer code of an operator request, or the record flag of READ RECORD. -/
def AnswerBody.head : AnswerBody → PortItem
  | .request answer => .code answer.code
  | .present _ => .flag true
  | .notPresent => .flag false

/-- R171: an answer as it is clocked out: the start byte of 0, the rest of the header, and the body. -/
def Transaction.items (t : Transaction) : List PortItem :=
  [.start 0, t.body.head, .unread t.unread, .standing t.standing, .body t.body]

/-- R170: what the port clocks out once `n` items of the answer have been: while no answer is ready, and after it, the
idle pattern, in which every byte reads 255. -/
def State.portOutput (s : State) (n : Nat) : PortItem :=
  ((s.panel.transaction.bind fun t => t.items[n]?)).getD (.idle 255)

/-! ### The records of READ RECORD (R173) -/

/-- The zone record of an own zone as shown (R52). Without a VALID detector no highest reading is shown (log entry
71). -/
def State.zoneView (s : State) (z : Nat) : Option ZoneView :=
  (s.zone z).map fun r =>
    let ds := s.detectorsOf z
    { record := r, zoneFault := s.stands (.zoneFault z),
      highest := ((ds.filter fun d => d.status == .valid).map (·.reading)).max?,
      faulted := (ds.filter fun d => d.status == .faulted).length }

/-- The curtain state, at a station that holds CURTAIN or is UNCONFIGURED. -/
def State.showsCurtain (s : State) : Bool := s.roles.curtain || s.station.standing == .unconfigured

/-- R112: the per-motion items for reading at the panel port, which the curtain section record shows (log entry 62). -/
def Supervisor.items (d : Supervisor) : MotionItems :=
  { motion := d.motion, k := d.k, history := d.history, validRun := d.validRun, missingRun := d.missingRun,
    zone := d.zone, overspeedRun := d.overspeedRun, firstReason := d.firstReason, completed := d.completed,
    mismatch := d.mismatch, maxMain := d.maxMain, maxSlow := d.maxSlow }

/-- The own-status record (R173), in which the ack window, the investigation timer and the re-alarm end of R72 are read
too (log entry 58). -/
def State.ownStatus (s : State) : OwnStatus :=
  { number := s.own, roles := s.roles, authorities := s.authorities,
    restartCount := s.composer.restartCount, nodeTime := s.nodeTime, standing := s.station.standing,
    phase := s.phase, timerRunning := s.phase.timerRuns, generation := s.alarm.generation,
    stage := s.alarm.stage, silenced := s.alarm.silenced, cause := s.alarm.cause,
    ackWindow := s.alarm.ackWindow, investigation := s.alarm.investigation, realarmEnd := s.alarm.realarmEnd,
    ack := s.alarm.ack, silence := s.alarm.silence, disablements := s.alarm.disablements,
    curtain := if s.showsCurtain then some s.curtain.state else none, callMode := s.callMode,
    occupancy := s.calls.queue.length, currentCall := s.calls.current, summary := s.summary,
    faults := s.panel.faults.length, unread := s.unread, logEntries := s.panel.log.length,
    newest := s.panel.log.getLast?.map (·.number) }

/-- The channels that serve a group. -/
def State.channelsOf (s : State) (g : Nat) : List (Bay × Nat) :=
  bayList.flatMap fun b =>
    ((List.range' 1 8).filter fun n => (s.image.channelMap.get b).getD (n - 1) none == some g).map
      fun n => (b, n)

/-- The light group record (R128). -/
def State.groupRecord (s : State) (g : Nat) : Option Record :=
  if s.roles.lights && decide (1 ≤ g) then
    (s.lights.groups[g - 1]?).map fun group =>
      .lightGroup group (s.lights.levels .floor g).length (s.lights.levels .cap g).length (s.channelsOf g)
  else none

/-- The peer record of a station (R34), with its age and the flags that follow its fault keys. An ABSENT record, which
has had no acceptance, shows age 0 (log entry 59). -/
def State.peerRecord (s : State) (n : Nat) : Option Record :=
  (s.peer n).map fun r =>
    .peer r (if r.state = .absent then 0 else s.clock.now - r.acceptedMs) (s.stands (.peerDegraded n))
      (s.stands (.unauthorisedField n))

/-- The entry that an index of the incident log names. -/
def Panel.entryAt (p : Panel) : LogIndex → Option LogEntry
  | .position n => p.log[n]?
  | .nextUnread => p.log.find? fun e => !e.read

/-- The counters record (R177). -/
def State.countersRecord (s : State) (n : Nat) : Option Record :=
  if n = 0 then
    let one (c : LineController) := (c.goodFrames, c.crcFailures, c.superseded)
    some (.stationCounters ⟨one s.lines.a, one s.lines.b⟩ s.calls.counters s.curtain.descents)
  else (s.peer n).map fun r => .peerCounters r.accepted r.gaps r.duplicates r.poisoned

/-- The trace sample record (R126). -/
def State.traceRecord (s : State) (n : Nat) : Option Record :=
  s.descent.trace.bind fun t => (t.samples[n]?).map fun sample => .trace t sample

/-- R173: the record of a kind and index, none where it is NOT_PRESENT. -/
def State.recordOf (s : State) : RecordName → Option Record
  | .ownStatus n => if n = 0 then some (.ownStatus s.ownStatus) else none
  | .peer n => s.peerRecord n
  | .mergedZone z =>
    if zoneInRange z then some (.mergedZone (s.alarm.zoneAt z) (s.zoneView z)) else none
  | .alarmOrder n => (s.alarm.order[n]?).map fun z => .alarmOrder z (s.alarm.zoneAt z).condition
  | .snapshot n => if n = 0 then s.alarm.snapshot.map .snapshot else none
  | .curtainSection n =>
    if n = 0 ∧ s.showsCurtain = true then some (.curtain s.curtain s.curtainFlags s.descent.items) else none
  | .traceSample n => s.traceRecord n
  | .lightGroup g => s.groupRecord g
  | .callQueue n => if s.roles.calls then (s.calls.queue[n]?).map .callQueue else none
  | .bay n => (bayOfNumber n).map fun b => .bay (s.bay b) suppliesOff
  | .faultList n => (s.panel.faults[n]?).map fun e => .fault e e.key.cls
  | .incidentLog i => (s.panel.entryAt i).map .log
  | .counters n => s.countersRecord n
  | .unknown => none

/-- The log entry that a record carries, for the read marking of R176. -/
def entryRead : Option Record → Option Half
  | some (.log e) => some e.number
  | _ => none

/-- The body of an answer to READ RECORD. -/
def bodyOf : Option Record → AnswerBody
  | some r => .present r
  | none => .notPresent

/-- READ_RECORD (R173). While the standing is STARTING every record is NOT_PRESENT (R171). -/
def execReadRecord (name : RecordName) (s : State) : Result :=
  let record := if s.station.standing = .starting then none else s.recordOf name
  .next (s.judged (bodyOf record) (entryRead record)).concluded

/-! ### The end of a transaction (R170, R176) -/

/-- The number of the oldest unread entry. -/
def Panel.oldestUnread (p : Panel) : Option Half := (p.entryAt .nextUnread).map (·.number)

/-- R176: the entry of that number is marked read if it is the oldest unread entry held. -/
def Panel.markRead (p : Panel) (n : Half) : Panel :=
  if p.oldestUnread = some n then
    { p with log := p.log.map fun e => if e.number = n then { e with read := true } else e }
  else p

/-- The end of a transaction. -/
def State.endTransaction (s : State) : State := s.withPanel { s.panel with transaction := none }

/-- ANSWER_COMPLETE (R176): the answer is clocked out in full before release. -/
def execAnswerComplete (s : State) : Result :=
  match s.panel.transaction.bind (·.logEntry) with
  | some n => .next (s.withPanel (s.panel.markRead n)).endTransaction.concluded
  | none => .next s.endTransaction.concluded

/-- ANSWER_CUT_SHORT (R170): the answer is lost and nothing is marked read. -/
def execAnswerCutShort (s : State) : Result := .next s.endTransaction.concluded

/-- SELECT_RELEASED_EARLY (R170): the partial request is discarded, and no answer exists. -/
def execSelectReleasedEarly (s : State) : Result := .next s.endTransaction.concluded

/-- UNKNOWN_REQUEST (R170): a request of a kind not known to the port. -/
def execUnknownRequest (s : State) : Result := .next (s.judged (.request { code := .badRequest }) none).concluded

/-! ### Operator requests (R172) -/

/-- RELEASE TRACE (R126). -/
def requestReleaseTrace (s : State) : State × Answer :=
  let held := match s.descent.trace with
    | some t => t.held
    | none => false
  ((s.withDescent { s.descent with trace := s.descent.trace.map fun t => { t with held := false } }).logIf held
    .traceReleased, { code := .accepted })

/-- SET_PHASE (R4). -/
def execSetPhase (target : Option Phase) (minutes : Byte) (s : State) : Result :=
  operatorRequest s fun s => requestPhase s target minutes.toNat

/-- HOLD_ON (R8). -/
def execHoldOn (s : State) : Result := operatorRequest s fun s => requestHold s true

/-- HOLD_OFF (R8). -/
def execHoldOff (s : State) : Result := operatorRequest s fun s => requestHold s false

/-- ACK (R84). -/
def execAck (s : State) : Result := operatorRequest s requestAck

/-- SILENCE (R85). -/
def execSilence (s : State) : Result := operatorRequest s requestSilence

/-- RESET (R86). -/
def execReset (s : State) : Result := operatorRequest s requestReset

/-- DISABLE (R87). -/
def execDisable (z : Nat) (s : State) : Result := operatorRequest s fun s => requestDisable s z

/-- ENABLE (R87). -/
def execEnable (z : Nat) (s : State) : Result := operatorRequest s fun s => requestEnable s z

/-- EFFECTS_OPEN (R65). -/
def execEffectsOpen (zones : List Nat) (duration : Nat) (s : State) : Result :=
  operatorRequest s fun s => requestOpen s zones duration

/-- EFFECTS_CLOSE (R66). -/
def execEffectsClose (selection : WindowSelection) (s : State) : Result :=
  operatorRequest s fun s => requestClose s selection

/-- CURTAIN_RAISE (R99). -/
def execCurtainRaise (s : State) : Result := operatorRequest s fun s => requestDemand s (some .raise)

/-- CURTAIN_LOWER (R99). -/
def execCurtainLower (s : State) : Result := operatorRequest s fun s => requestDemand s (some .lower)

/-- CURTAIN_STOP (R99). -/
def execCurtainStop (s : State) : Result := operatorRequest s fun s => requestDemand s (some .stop)

/-- CURTAIN_TEST (R99). -/
def execCurtainTest (s : State) : Result := operatorRequest s fun s => requestDemand s (some .test)

/-- CURTAIN_DROP (R99). -/
def execCurtainDrop (s : State) : Result := operatorRequest s fun s => requestDemand s (some .drop)

/-- A CURTAIN request that names an unknown demand kind, which its owner judges (R99, R172; log entry 61). -/
def execCurtainUnknown (s : State) : Result := operatorRequest s fun s => requestDemand s none

/-- LIGHT_CLAIM_SET (R129). -/
def execLightClaimSet (slot group : Nat) (kind : Option ClaimKind) (level : Byte) (fade : Nat) (s : State) :
    Result :=
  operatorRequest s fun s => setClaim s slot group kind level.toNat fade

/-- LIGHT_CLAIM_CLEAR (R130). -/
def execLightClaimClear (selection : SlotSelection) (s : State) : Result :=
  operatorRequest s fun s => clearClaims s selection

/-- CALL_REQUEST (R146). -/
def execCallRequest (slot message : Nat) (zones : List Nat) (repeats : Nat) (s : State) : Result :=
  operatorRequest s fun s => requestCall s slot message zones repeats

/-- CLEAR_SNAPSHOT (R89). -/
def execClearSnapshot (s : State) : Result := operatorRequest s requestClearSnapshot

/-- RELEASE_TRACE (R126). -/
def execReleaseTrace (s : State) : Result := operatorRequest s requestReleaseTrace

end Sys2Proof.Machine
end

