-- ==== Sys2Proof/Machine/Start.lean ====
section
/-! DEFINITION. Configuration and restart (chapter 12): the validation of the configuration image with the house-table
signature, the start values of every block, the start itself, and the meanings of the events of supply and RESET. -/

namespace Sys2Proof.Machine

/-! ### The image as it is read (R178) -/

/-- R178: the length of the image, the CRC included, in its first two bytes. -/
def imageLength : List Byte → Nat
  | lo :: hi :: _ => readTwo lo hi
  | _ => 0

/-- R178: the read ends at the image's length; none where the memory ends before it, or where the length leaves no room
for the length itself and the CRC. -/
def imageBytes (contents : List Byte) : Option (List Byte) :=
  if 4 ≤ imageLength contents ∧ imageLength contents ≤ contents.length then
    some (contents.take (imageLength contents))
  else none

/-- R178, R179, check 1: the CRC-16 over every byte before it equals the one that closes the image, low byte first as in a
frame (R19). -/
def crcHolds (image : List Byte) : Bool :=
  image.drop (image.length - 2) == twoBytes (crc16 (image.take (image.length - 2))).toNat

/-- R178, R179, check 1: the memory answered with a complete image whose CRC matches. -/
def imageGood : ConfigMemory → Bool
  | .noAnswer => false
  | .bytes contents _ => (imageBytes contents).any crcHolds

/-! ### Validation (R179) -/

def between (low high n : Nat) : Bool := low ≤ n && n ≤ high

def presetGood (p : PhasePreset) : Bool := p.level ≤ 255 && p.fade ≤ 600

/-- The presets of a group's five phases. -/
def presetsOf (row : GroupRow) : List PhasePreset :=
  [row.closed, row.houseOpen, row.performance, row.interval, row.houseClearing]

def detectorGood : Option DetectorSetting → Bool
  | none => true
  | some d => between 1 64 d.zone && d.type.isSome

def optionGood (good : Nat → Bool) : Option Nat → Bool
  | none => true
  | some n => good n

/-- A per-bay map has an entry for each position, channel or output, and each entry is good. -/
def mapGood {α : Type} (size : Nat) (good : α → Bool) (map : PerBay (List α)) : Bool :=
  bayList.all fun b => (map.get b).length == size && (map.get b).all good

def messagesGood (m : HouseMessages) : Bool :=
  [m.houseOpen, m.performanceStart, m.intervalStart, m.bell5, m.bell3, m.bell1, m.staffAlert,
    m.evacuation].all (between 201 250)

/-- R179, check 4: each setting with its range, in the order in which they are judged (log entry 6). -/
def rangeChecks (i : ConfigImage) : List (ConfigSetting × Bool) :=
  [(.detectorMap, mapGood 32 detectorGood i.detectorMap),
    (.prealarmThreshold, between 20 200 i.thresholds.prealarm),
    (.alarmThreshold, between 40 240 i.thresholds.alarm),
    (.dwell, between 1 20 i.thresholds.dwell),
    (.effectsOffset, between 0 100 i.thresholds.effectsOffset),
    (.ackTime, between 10 60 i.ackTime),
    (.investigationTime, between 60 300 i.investigationTime),
    (.travelHeight, between 3000 12000 i.curtain.height),
    (.slowBoundary, between 300 3000 i.curtain.slowBoundary && decide (i.curtain.slowBoundary < i.curtain.height)),
    (.mainLimit, between 100 1500 i.curtain.mainLimit),
    (.slowLimit, between 30 400 i.curtain.slowLimit),
    (.descentLimit, between 20 40 i.curtain.descentLimit),
    (.proofPeriod, between 3600 172800 i.curtain.proofPeriod),
    (.channelMap, mapGood 8 (optionGood (between 1 16)) i.channelMap),
    (.outputMap, mapGood 4 (optionGood (between 1 16)) i.outputMap),
    (.houseMessages, messagesGood i.messages),
    (.zoneTable, i.zoneTable.length == 64 && i.zoneTable.all fun r => between 1 40 r.station),
    (.fohTable, i.fohTable.length == 16 && i.fohTable.all fun r => between 1 40 r.station),
    (.lightTable, i.lightTable.length == 16 && i.lightTable.all fun r => (presetsOf r).all presetGood),
    (.holdLevel, between 0 255 i.holdLevel)]

/-- The first setting out of its range. -/
def rangeFailure (i : ConfigImage) : Option ConfigSetting :=
  ((rangeChecks i).find? fun c => !c.2).map (·.1)

def zoneValue (r : ZoneRow) : Nat :=
  r.station + (if r.mode = .direct then 1 else 0) + r.curtain.toNat + r.inhibitable.toNat

def fohValue (r : FohRow) : Nat := r.station + r.adjacent.toNat + r.staff.toNat

def groupValue (r : GroupRow) : Nat :=
  r.auditorium.toNat + ((presetsOf r).map fun p => p.level + p.fade).sum

/-- R179: the house-table signature. -/
def signatureOf (i : ConfigImage) : Half :=
  BitVec.ofNat 16 ((i.zoneTable.map zoneValue).sum + (i.fohTable.map fohValue).sum +
    (i.lightTable.map groupValue).sum + i.holdLevel)

/-- The configuration of a valid image (R181). -/
def validConfiguration (i : ConfigImage) : Configuration :=
  { number := i.station, roles := i.roles, authorities := i.authorities, image := i,
    signature := signatureOf i, failure := none }

/-- R178, R179: the four checks in order; the number is usable when the first two pass. -/
def validate (memory : ConfigMemory) : Configuration :=
  match memory with
  | .noAnswer => noConfiguration 0 .crc
  | .bytes _ i =>
    if !imageGood memory then noConfiguration 0 .crc
    else if !between 1 40 i.station then noConfiguration 0 .station
    else if i.authorities != {} && !i.roles.desk then noConfiguration i.station .roles
    else
      match rangeFailure i with
      | some setting => noConfiguration i.station (.range setting)
      | none => validConfiguration i

/-! ### What a start keeps (R183) -/

/-- R33: the restart count of a start. -/
def State.nextRestartCount (s : State) : Byte :=
  if s.power.storeGood then s.composer.restartCount + 1 else 1

/-- R127: a trace that was being written is closed with end RESTART. -/
def closeTrace (t : Trace) : Trace :=
  if t.finish = .inProgress then { t with finish := .restart } else t

/-- R32: the line counters are kept across a warm restart. -/
def warmLine (c : LineController) (now : Nat) : LineController :=
  { coldLine now with goodFrames := c.goodFrames, crcFailures := c.crcFailures, superseded := c.superseded }

/-- R184, R92: a re-alarm end already passed is closed. -/
def openRealarm (nodeTime : Nat) : Option Nat → Option Nat
  | some e => if e ≤ nodeTime then none else some e
  | none => none

/-- R92: the Alarm Stage Unit after a warm start, before its view is rebuilt. A restored ALERT or INVESTIGATE starts
its timer in full. -/
def warmAlarm (a : Alarm) (i : ConfigImage) (now nodeTime : Nat) : Alarm :=
  { coldAlarm with
    generation := a.generation, stage := a.stage, cause := a.cause, order := a.order,
    realarmEnd := openRealarm nodeTime a.realarmEnd, ack := a.ack, silence := a.silence,
    snapshot := a.snapshot,
    ackWindow := if a.stage = .alert then some (now + i.ackTime * 1000) else none,
    investigation := if a.stage = .investigate then some (now + i.investigationTime * 1000) else none }

/-- R142, R143: one group after a start. -/
def startGroup (evacuate : Bool) (output : Nat) : LightGroup :=
  if evacuate then { restingGroup 255 with target := some 255 } else restingGroup output

/-- The retained output level of a group. -/
def Lights.retained (l : Lights) (g : Nat) : Nat :=
  match l.groups[g - 1]? with
  | some group => group.output
  | none => 0

/-- R142, R143: the Light Mixer after a start. -/
def startLights (config : Configuration) (evacuate : Bool) (output : Nat → Nat) : Lights :=
  { groups := if config.roles.lights then groupNumbers.map fun g => startGroup evacuate (output g) else [],
    view := [], claims := [] }

/-- R93, R108, R111: the curtain state after a start. -/
def startCurtainState (config : Configuration) : CurtainState :=
  if config.failure.isSome then .unconfigured
  else if config.roles.curtain then .driveLost
  else .none

/-- R51: the own zones by an image's zone table. -/
def isOwnZoneIn (config : Configuration) (z : Nat) : Bool :=
  match config.image.zoneTable[z - 1]? with
  | some row => decide (1 ≤ z) && row.station == config.number
  | none => false

/-! ### The steps of a start (R185) -/

/-- A frame that was being sent is cut off, and nothing is sent. -/
def LineController.halt (c : LineController) : LineController :=
  { c with slot := none, inFlight := none, transmitter := .idle, ownFrame := none }

/-- R182: the station is not running, in reset or at the beginning of a start; outputs, bays and the lines are released. A
transaction under way at the panel port ends with nothing marked read, of which no rule speaks (log entry 98). -/
def State.halt (s : State) (power : Power) : State :=
  { s with
    power := { power with running := false },
    station := { s.station with standing := .starting, provenAtStop := s.lastProven },
    lines := ⟨s.lines.a.halt, s.lines.b.halt⟩,
    curtain := { s.curtain with output := none },
    bays := ⟨emptyBay, emptyBay, emptyBay, emptyBay⟩,
    panel := { s.panel with transaction := none } }

/-- What every start sets alike. The output updates are counted from here, the moment of the start (R139; log entry 95). -/
def State.startCommon (s : State) (memory : ConfigMemory) (config : Configuration) : State :=
  { s with
    power := { s.power with storeGood := true },
    clock := { s.clock with outputAt := s.clock.now },
    station := { s.station with joining := true, memory := memory, config := config },
    composer := { sequence := 0, restartCount := s.composer.restartCount, changePending := false, image := none,
                  composedAt := s.clock.now },
    peers := coldPeers config.number,
    panel := { s.panel with faults := [] } }

/-- R183: the cold values of every record. -/
def State.coldValues (s : State) (config : Configuration) : State :=
  { s with
    clock := { s.clock with secondAt := s.clock.now },
    station := { s.station with nodeTime := 0, provenAtStop := false },
    lines := ⟨coldLine s.clock.now, coldLine s.clock.now⟩,
    phase := coldPhase,
    detection := startDetection (isOwnZoneIn config) config.image.detectorMap fun _ => none,
    alarm := coldAlarm,
    curtain := startCurtain (startCurtainState config) coldProof 0,
    descent := startSupervisor none,
    lights := startLights config false fun _ => 0,
    calls := startCalls zeroCounters,
    panel := { s.panel with log := [], nextEntry := 0 } }

/-- R183: each owner restores its retained records. -/
def State.warmValues (s : State) (config : Configuration) : State :=
  { s with
    lines := ⟨warmLine s.lines.a s.clock.now, warmLine s.lines.b s.clock.now⟩,
    detection := startDetection (isOwnZoneIn config) config.image.detectorMap fun z => s.zone z,
    alarm := warmAlarm s.alarm config.image s.clock.now s.station.nodeTime,
    curtain := startCurtain (startCurtainState config) s.curtain.proof s.curtain.descents,
    descent := startSupervisor (s.descent.trace.map closeTrace),
    lights := startLights config (s.alarm.stage == .evacuate) s.lights.retained,
    calls := startCalls s.calls.counters }

/-- R185, step 4: the retained store is rewritten, with the image and the identity that the start has validated, or each
owner restores its records; a warm start takes the image of the retained store in place of the memory's. The values that
every start sets alike (step 6) are put in place with them, since nothing can see them before the start completes (log
entry 92). -/
def State.setRecords (s : State) (kind : StartKind) (memory : ConfigMemory) : State :=
  match kind with
  | .cold => (s.startCommon memory (validate memory)).coldValues (validate memory)
  | .warm => (s.startCommon s.station.memory (validate s.station.memory)).warmValues (validate s.station.memory)

/-- R91, R92: the merged view from the own zones, and the silenced flag of a restored EVACUATE, with no notice and no
log entry. -/
def State.startView (s : State) : State :=
  let s' := s.rebuildMerged
  s'.setAlarm fun a => { a with silenced := a.stage == .evacuate && s'.silenceSource }

/-- R157: a restored ALERT makes the staff call due. -/
def State.startStandingCalls (s : State) : State :=
  if s.roles.calls && s.alarm.stage == .alert then s.staffBecomesDue else s

/-- R169: a bay whose presence lines show ONE or BOTH takes the reading as a change from NONE. -/
def State.readPresence (s : State) (presence : PerBay Presence) : State :=
  bayList.foldl (fun t b => t.takePresence b (presence.get b)) s

/-- The effect of one step of a start. Steps 1 and 2 change no block: the kind is held by the start in progress, and the
image that step 2 validates, with the identity locked (R181), goes to the store with step 4. -/
def State.stepEffect (s : State) (p : StartProgress) : StartStep → State
  | .kindDecided => s
  | .imageValidated => s
  | .countFixed => s.withComposer { s.composer with restartCount := s.nextRestartCount }
  | .recordsSet => s.setRecords p.kind p.memory
  | .startLogged => s.log (.start p.kind s.composer.restartCount)
  | .valuesTaken => ((s.startView).startStandingCalls).readPresence p.presence

/-- The start in progress makes a step. -/
def State.makeStep (p : StartProgress) (s : State) (step : StartStep) : State :=
  let s' := s.stepEffect p step
  s'.withPower { s'.power with start := some { p with step := step } }

/-- The completion of a start: the station's joining period begins (R48), the proof is judged against the outage (R109,
R184), CONFIG INVALID is raised where the image is invalid, before the first composition (R180; log entry 79), and the
standing follows. The curtain state that the start takes is no change of state: no CURTAIN entry is made (log entry 60). -/
def State.completeStart (s : State) : State :=
  let s₀ := (s.withPower { s.power with running := true, start := none }).withStation
    { s.station with joiningUntil := s.clock.now + Config.joiningMs }
  let s₁ := s₀.proofAges s₀.station.provenAtStop
  let s' :=
    match s₁.station.config.failure with
    | some failure => s₁.raiseFault .configInvalid (.invalid failure)
    | none => s₁
  let s'' := s'.compose
  s''.withStation { s''.station with
    standing := if s.configured then .joining else .unconfigured }

/-! ### The start (R185) -/

/-- R185: the steps after the first, in their order. -/
def laterSteps : List StartStep := [.imageValidated, .countFixed, .recordsSet, .startLogged, .valuesTaken]

/-- A start makes the steps given, one after the other. -/
def State.makeSteps (s : State) (p : StartProgress) (steps : List StartStep) : State := steps.foldl (State.makeStep p) s

/-- The beginning of a start: its kind is decided, and a start in progress begins afresh (R182). -/
def State.beginStart (s : State) (kind : StartKind) (memory : ConfigMemory) (presence : PerBay Presence) : State :=
  s.halt { s.power with supply := true, resetAsserted := false, start := some ⟨kind, memory, presence, .kindDecided⟩ }

/-- R182, R185: a start comes to the step `reached` before the next command, and is then in progress; with none it has
completed (log entry 92). -/
def State.start (s : State) (kind : StartKind) (memory : ConfigMemory) (presence : PerBay Presence)
    (reached : Option StartStep) : State :=
  let p : StartProgress := ⟨kind, memory, presence, .kindDecided⟩
  let begun := s.beginStart kind memory presence
  match reached with
  | some step => begun.makeSteps p (laterSteps.take (step.number - 1))
  | none => (begun.makeSteps p laterSteps).completeStart

/-- A start in progress that nothing abandons makes the steps left and completes (R185; log entry 92). -/
def State.finishStart (s : State) : State :=
  match s.power.start with
  | some p => (s.makeSteps p (laterSteps.drop (p.step.number - 1))).completeStart
  | none => s

/-- R182: the kind of a start at RESET and at a supply dip. -/
def State.startKind (s : State) (retain : Bool) : StartKind :=
  if retain && s.power.storeGood then .warm else .cold

/-! ### Supply and RESET (R182) -/

/-- POWER_ON (R182): supply rises with an unpowered retained store, which checks good or not. A store that a fall has left
failing goes on failing until a start writes it anew (R183, log entry 28). A station whose RESET is asserted stays in
reset. -/
def execPowerOn (storeGood : Bool) (memory : ConfigMemory) (course : StartCourse) (s : State) : Result :=
  let s' := s.withPower { s.power with supply := true, storeGood := s.power.storeGood && storeGood }
  if s.power.resetAsserted then .next s' else .next (s'.start .cold memory course.presence course.reached)

/-- RESET_RELEASED (R182): RETAIN is sampled and a start runs, where supply stands. -/
def execResetReleased (retain : Bool) (memory : ConfigMemory) (course : StartCourse) (s : State) : Result :=
  let s' := s.withPower { s.power with resetAsserted := false }
  if s.power.supply then .next (s'.start (s'.startKind retain) memory course.presence course.reached) else .next s'

/-- SUPPLY_DIP (R182): main supply returns, RETAIN is sampled and a start runs. A station whose RESET is asserted stays
in reset. -/
def execSupplyDip (retain : Bool) (memory : ConfigMemory) (course : StartCourse) (s : State) : Result :=
  let s' := s.withPower { s.power with supply := true }
  if s.power.resetAsserted then .next s' else .next (s'.start (s'.startKind retain) memory course.presence course.reached)

/-- RESET_ASSERTED (R182): the station is held in reset, and a start in progress is abandoned with what its steps have left
in the retained store. -/
def execResetAsserted (s : State) : Result := .next (s.halt { s.power with resetAsserted := true, start := none })

/-- SUPPLY_FALL (R182, R183): the station is held in reset, and a start in progress is abandoned; a fall beyond what the
store's own supply carries leaves the store failing its check. -/
def execSupplyFall (storeIntact : Bool) (s : State) : Result :=
  .next (s.halt { s.power with supply := false, storeGood := s.power.storeGood && storeIntact, start := none })

end Sys2Proof.Machine
end

