-- ==== Sys2Proof/Machine/Dispatch.lean ====
section
/-! DEFINITION. The meaning of each command: one arm for each constructor. -/

namespace Sys2Proof.Machine

/-- The effect of a command on everything but the queue. -/
def exec (i : Instr) (s : State) : Host.Outcome State Fault Refusal :=
  match i with
  | .frameReceived line frame => Sys2Proof.Machine.execFrameReceived line frame s
  | .arbitrationLost line => Sys2Proof.Machine.execArbitrationLost line s
  | .frameSent line => Sys2Proof.Machine.execFrameSent line s
  | .lineSilenceTimeout line => Sys2Proof.Machine.execLineSilenceTimeout line s
  | .composeSpacingExpiry => Sys2Proof.Machine.execComposeSpacingExpiry s
  | .routineComposition => Sys2Proof.Machine.execRoutineComposition s
  | .duplicateStationCleared => Sys2Proof.Machine.execDuplicateStationCleared s
  | .peerSilent station => Sys2Proof.Machine.execPeerSilent station s
  | .endOfJoining => Sys2Proof.Machine.execEndOfJoining s
  | .nodeTimeIncrement => Sys2Proof.Machine.execNodeTimeIncrement s
  | .intervalMark mark => Sys2Proof.Machine.execIntervalMark mark s
  | .intervalTimerExpiry => Sys2Proof.Machine.execIntervalTimerExpiry s
  | .loopSample bay readings => Sys2Proof.Machine.execLoopSample bay readings s
  | .effectsWindowExpiry zone => Sys2Proof.Machine.execEffectsWindowExpiry zone s
  | .windowCopyExpiry desk zone => Sys2Proof.Machine.execWindowCopyExpiry desk zone s
  | .ackWindowExpiry => Sys2Proof.Machine.execAckWindowExpiry s
  | .investigationTimeout => Sys2Proof.Machine.execInvestigationTimeout s
  | .realarmWindowEnd => Sys2Proof.Machine.execRealarmWindowEnd s
  | .driveDelivery bay inputs => Sys2Proof.Machine.execDriveDelivery bay inputs s
  | .raiseTimeout => Sys2Proof.Machine.execRaiseTimeout s
  | .proofExpired => Sys2Proof.Machine.execProofExpired s
  | .outputUpdate => Sys2Proof.Machine.execOutputUpdate s
  | .bayExchange bay => Sys2Proof.Machine.execBayExchange bay s
  | .dimmerAcknowledgement bay => Sys2Proof.Machine.execDimmerAcknowledgement bay s
  | .exchangeNoAnswer bay => Sys2Proof.Machine.execExchangeNoAnswer bay s
  | .playComplete bay play => Sys2Proof.Machine.execPlayComplete bay play s
  | .playerFault bay play => Sys2Proof.Machine.execPlayerFault bay play s
  | .gapExpiry => Sys2Proof.Machine.execGapExpiry s
  | .staffRepeatExpiry => Sys2Proof.Machine.execStaffRepeatExpiry s
  | .presenceChange bay presence => Sys2Proof.Machine.execPresenceChange bay presence s
  | .debounceExpiry bay sense => Sys2Proof.Machine.execDebounceExpiry bay sense s
  | .readyAnswer bay type => Sys2Proof.Machine.execReadyAnswer bay type s
  | .readyTimerExpiry bay => Sys2Proof.Machine.execReadyTimerExpiry bay s
  | .overcurrent bay supply => Sys2Proof.Machine.execOvercurrent bay supply s
  | .selectReleasedEarly => Sys2Proof.Machine.execSelectReleasedEarly s
  | .answerComplete => Sys2Proof.Machine.execAnswerComplete s
  | .unknownRequest => Sys2Proof.Machine.execUnknownRequest s
  | .readRecord record => Sys2Proof.Machine.execReadRecord record s
  | .setPhase target minutes => Sys2Proof.Machine.execSetPhase target minutes s
  | .holdOn => Sys2Proof.Machine.execHoldOn s
  | .holdOff => Sys2Proof.Machine.execHoldOff s
  | .ack => Sys2Proof.Machine.execAck s
  | .silence => Sys2Proof.Machine.execSilence s
  | .reset => Sys2Proof.Machine.execReset s
  | .disable zone => Sys2Proof.Machine.execDisable zone s
  | .enable zone => Sys2Proof.Machine.execEnable zone s
  | .effectsOpen zones duration => Sys2Proof.Machine.execEffectsOpen zones duration s
  | .effectsClose selection => Sys2Proof.Machine.execEffectsClose selection s
  | .curtainRaise => Sys2Proof.Machine.execCurtainRaise s
  | .curtainLower => Sys2Proof.Machine.execCurtainLower s
  | .curtainStop => Sys2Proof.Machine.execCurtainStop s
  | .curtainTest => Sys2Proof.Machine.execCurtainTest s
  | .curtainDrop => Sys2Proof.Machine.execCurtainDrop s
  | .curtainUnknown => Sys2Proof.Machine.execCurtainUnknown s
  | .lightClaimSet slot group kind level fade => Sys2Proof.Machine.execLightClaimSet slot group kind level fade s
  | .lightClaimClear selection => Sys2Proof.Machine.execLightClaimClear selection s
  | .callRequest slot message zones repeats => Sys2Proof.Machine.execCallRequest slot message zones repeats s
  | .clearSnapshot => Sys2Proof.Machine.execClearSnapshot s
  | .releaseTrace => Sys2Proof.Machine.execReleaseTrace s
  | .powerOn storeGood memory course => Sys2Proof.Machine.execPowerOn storeGood memory course s
  | .resetAsserted => Sys2Proof.Machine.execResetAsserted s
  | .resetReleased retain memory course => Sys2Proof.Machine.execResetReleased retain memory course s
  | .supplyFall storeIntact => Sys2Proof.Machine.execSupplyFall storeIntact s
  | .supplyDip retain memory course => Sys2Proof.Machine.execSupplyDip retain memory course s
  | .answerCutShort => Sys2Proof.Machine.execAnswerCutShort s
  | .callExchangeAnswer bay => Sys2Proof.Machine.execCallExchangeAnswer bay s

end Sys2Proof.Machine
end

