-- ==== Sys2Proof/Safety.lean ====
section
/-! DEFINITION. What the claims are made of: when a command completes and when a request is answered; the laws of the
incident log, the fault list, the peer records, the show hold, the drive's outputs, the call queue, the alarm order
list and the stage; and which reports the layout of R17 can carry. -/

namespace Sys2Proof.Machine

/-! ### Completing and answering -/

/-- The line that falls idle as the command comes (R22). -/
def idleLine : Instr → Option Line
  | .frameReceived l _ => some l
  | _ => none

/-- The command completes at the state: `u` is the state after its effect, and the composition that its marks call for
follows (R26), finding the line that has fallen idle at the command idle (R20). -/
def completes (c : Instr) (s u : State) : Prop := exec c s = .next (u.settleAt (idleLine c))

/-- The station is out of reset and its standing is JOINING or RUNNING, so that requests reach their owners (R171). -/
def State.attends (s : State) : Prop :=
  s.power.running = true ∧ (s.station.standing = .joining ∨ s.station.standing = .running)

/-- The command is an operator request that its owner answers, leaving the state `u`; the answer waits at the panel
port to be clocked out (R170). -/
def answers (c : Instr) (s u : State) (answer : Answer) : Prop :=
  completes c s (u.judged (.request answer) none)

/-! ### The incident log (R175, R176) -/

/-- R175: each entry's number is one more than the entry's before it, the newest being one below the next. -/
def Panel.numbered (p : Panel) : Prop :=
  ∀ i, ∀ e, p.log[i]? = some e → e.number + BitVec.ofNat 16 (p.log.length - i) = p.nextEntry

/-- R176: the unread entries of the ring are its newest. -/
def Panel.unreadNewest (p : Panel) : Prop :=
  p.log.Pairwise fun older newer => older.read = false → newer.read = false

/-- The ring: at most 32 entries, numbered in order, the unread ones newest. -/
def Panel.ringGood (p : Panel) : Prop := p.log.length ≤ 32 ∧ p.numbered ∧ p.unreadNewest

/-! ### The fault list (R174) -/

/-- R174: a key stands once at most. -/
def Panel.keysDistinct (p : Panel) : Prop := (p.faults.map (·.key)).Nodup

/-! ### The peer records (R34) -/

/-- R34: a station number has one record. -/
def PeerTable.oneEach (p : PeerTable) : Prop := (p.records.map (·.station)).Nodup

/-- R34: the peer records are those of the station numbers from 1 to 40 other than the own, in ascending order. -/
def State.peersComplete (s : State) : Prop :=
  s.peers.records.map (·.station) = stationNumbers.filter (· ≠ s.own)

/-! ### The show hold (R2) -/

/-- R2: the hold is on only while the phase is PERFORMANCE or INTERVAL. -/
def PhaseView.holdLegal (v : PhaseView) : Prop := v.hold = true → v.phase = .performance ∨ v.phase = .interval

/-! ### The drive's outputs (R94) -/

/-- R94: HOLD and RAISE MOTOR of a state. -/
def holdAndMotor : CurtainState → Bool × Bool
  | .up => (true, false)
  | .stopped => (true, false)
  | .down => (true, false)
  | .raising => (false, true)
  | _ => (false, false)

/-- R94: the output set last commanded holds and raises as the curtain state says. -/
def Curtain.outputsLegal (c : Curtain) : Prop :=
  ∀ o, c.output = some o → (o.hold, o.motor) = holdAndMotor c.state

/-- R94: no standing trigger meets a curtain in RAISING. -/
def State.raiseSafe (s : State) : Prop := s.curtain.state = .raising → s.standingTrigger = none

/-! ### The call queue (R145) and the alarm order list (R76) -/

/-- R145: at most 16 entries. -/
def Calls.queueBounded (c : Calls) : Prop := c.queue.length ≤ 16

/-- R76: the alarm order list never holds a zone twice. -/
def Alarm.orderDistinct (a : Alarm) : Prop := a.order.Nodup

/-! ### The stage (R78) -/

/-- The stages in their order, QUIET lowest. -/
def Stage.rank : Stage → Nat
  | .quiet => 0 | .alert => 1 | .investigate => 2 | .evacuate => 3

/-- The events that begin a start (R182). -/
def beginsStart : Instr → Bool
  | .powerOn _ _ _ => true
  | .resetReleased _ _ _ => true
  | .supplyDip _ _ _ => true
  | _ => false

/-! ### Kinds of command -/

/-- The operator requests (R172), with a CURTAIN request that names an unknown demand kind among them. -/
def isRequest : Instr → Bool
  | .setPhase _ _ | .holdOn | .holdOff | .ack | .silence | .reset | .disable _ | .enable _ | .effectsOpen _ _
  | .effectsClose _ | .curtainRaise | .curtainLower | .curtainStop | .curtainTest | .curtainDrop
  | .lightClaimSet _ _ _ _ _ | .lightClaimClear _ | .callRequest _ _ _ _ | .clearSnapshot
  | .releaseTrace | .curtainUnknown => true
  | _ => false

/-- The events of the lines, the timers and the bays, which only a station out of reset takes; node time, the panel port
and the events of supply and RESET are none of them. -/
def isOwnEvent : Instr → Bool
  | .readRecord _ | .answerComplete | .answerCutShort | .selectReleasedEarly | .unknownRequest => false
  | .powerOn _ _ _ | .resetAsserted | .resetReleased _ _ _ | .supplyFall _ | .supplyDip _ _ _ => false
  | .nodeTimeIncrement => false
  | c => !isRequest c

/-! ### Reports that the layout carries (R17) -/

def ZoneEntry.carried (e : ZoneEntry) : Prop := 1 ≤ e.zone ∧ e.zone ≤ 64 ∧ e.condition ≠ .normal

def WindowEntry.carried (e : WindowEntry) : Prop := 1 ≤ e.zone ∧ e.zone ≤ 64 ∧ e.remaining ≤ 1200

def ClaimEntry.carried (e : ClaimEntry) : Prop :=
  1 ≤ e.slot ∧ e.slot ≤ 8 ∧ 1 ≤ e.claim.group ∧ e.claim.group ≤ 16 ∧ e.claim.level ≤ 255 ∧ e.claim.fade ≤ 600

/-- The FOH zones of a call entry are a set, written as the ascending list of its members. -/
def CallEntry.carried (e : CallEntry) : Prop :=
  1 ≤ e.slot ∧ e.slot ≤ 4 ∧ 1 ≤ e.repeats ∧ e.repeats ≤ 3 ∧ 1 ≤ e.message ∧ e.message ≤ 250 ∧
    e.zones ≠ [] ∧ e.zones = fohSet e.zones

def PhaseSection.carried (p : PhaseSection) : Prop :=
  p.origin ≤ 40 ∧ (p.minutes = 0 ∨ 5 ≤ p.minutes ∧ p.minutes ≤ 40)

def AlarmSection.carried (a : AlarmSection) : Prop :=
  a.silenceCount ≤ 64 ∧ a.zones.length ≤ 64 ∧ ∀ e ∈ a.zones, e.carried

def DeskSection.carried (d : DeskSection) : Prop :=
  d.windows.length ≤ 8 ∧ (∀ e ∈ d.windows, e.carried) ∧
    d.disablements.length ≤ 8 ∧ (∀ z ∈ d.disablements, 1 ≤ z ∧ z ≤ 64) ∧
    d.claims.length ≤ 8 ∧ (∀ e ∈ d.claims, e.carried) ∧ d.calls.length ≤ 4 ∧ ∀ e ∈ d.calls, e.carried

/-- The station number, the values and the counts of the report lie in the ranges of R17. -/
def Report.carried (r : Report) : Prop :=
  r.station ≤ 40 ∧ r.phase.carried ∧ r.alarm.carried ∧ (∀ p, r.curtain.position = some p → p ≤ 12200) ∧
    r.desk.carried

end Sys2Proof.Machine
end

