-- ==== Sys2Proof/Certificates/Slice0/Obligations.lean ====
section
/-! DEFINITION. The statements about the FT-620 for the provers. Each says what it holds of a command or of every step,
and which rule of the manual it comes from. -/

open Sys2Proof Sys2Proof.Machine

/-! ### The queue -/

/-- A step runs the command at the front of the queue on the state with the rest of the queue. The model's choice (log
entry 3): on an empty queue one millisecond of running time passes, and nothing else changes but that a contention not
yet lost is won, and that a start in progress completes in that time (log entry 92). -/
def Obligations.StepRunsTheFrontCommandOrIdles : Prop :=
  (∀ (c : Instr) (rest : List Instr) (s : State),
    step (s.withPending (c :: rest)) = exec c (s.withPending rest)) ∧
  ∀ s : State, s.pending = [] →
    (s.power.start = none →
      ∃ t, step s = .next t ∧ t.clock = { s.clock with now := s.clock.now + 1 } ∧
        t = (s.withClock t.clock).withLines t.lines ∧
        ∀ l, t.line l = { s.line l with
          transmitter := if (s.line l).transmitter = .contending then .sending else (s.line l).transmitter }) ∧
    (s.power.start ≠ none →
      ∃ t, step s = .next t ∧ t.pending = [] ∧ t.clock.now = s.clock.now + 1 ∧ t.power.running = true ∧
        t.power.start = none ∧
        t.station.standing = if t.station.config.failure = none then .joining else .unconfigured)

/-! ### What every step keeps -/

/-- R175, R176: a step from a ring of at most 32 entries, numbered in order with the unread ones newest, leaves such a
ring. -/
def Obligations.EveryStepKeepsTheLogRing : Prop :=
  ∀ s t : State, s.panel.ringGood → step s = .next t → t.panel.ringGood

/-- R174: a step keeps each fault key at most once in the fault list. -/
def Obligations.EveryStepKeepsFaultKeysDistinct : Prop :=
  ∀ s t : State, s.panel.keysDistinct → step s = .next t → t.panel.keysDistinct

/-- R34: a step keeps one peer record for each station number from 1 to 40 other than the own, in ascending order, and no
other record. -/
def Obligations.EveryStepKeepsOneRecordPerPeer : Prop :=
  ∀ s t : State, step s = .next t →
    (s.peersComplete → t.peersComplete ∧ t.peers.oneEach) ∧ (s.peers.oneEach → t.peers.oneEach)

/-- R2: a step keeps the hold off outside PERFORMANCE and INTERVAL. -/
def Obligations.EveryStepKeepsTheHoldInTheShow : Prop :=
  ∀ s t : State, s.phase.holdLegal → step s = .next t → t.phase.holdLegal

/-- R94: a step keeps HOLD and RAISE MOTOR, as last commanded, at what the curtain state calls for. -/
def Obligations.EveryStepKeepsHoldAndMotorByState : Prop :=
  ∀ s t : State, s.curtain.outputsLegal → step s = .next t → t.curtain.outputsLegal

/-- R94: a step leaves no curtain in RAISING under a standing trigger, so the raise motor never runs while the stage is
EVACUATE or a CURTAIN zone is in ALARM. -/
def Obligations.NoStepRaisesUnderATrigger : Prop :=
  ∀ s t : State, s.raiseSafe → step s = .next t → t.raiseSafe

/-- R145: a step keeps the call queue at 16 entries at most. -/
def Obligations.EveryStepKeepsTheCallQueueBounded : Prop :=
  ∀ s t : State, s.calls.queueBounded → step s = .next t → t.calls.queueBounded

/-- R76: a step keeps the alarm order list free of a zone held twice. -/
def Obligations.EveryStepKeepsTheAlarmOrderDistinct : Prop :=
  ∀ s t : State, s.alarm.orderDistinct → step s = .next t → t.alarm.orderDistinct

/-- R78: a step that begins no start and takes no other generation never lowers the stage. -/
def Obligations.StageFallsOnlyWithANewGeneration : Prop :=
  ∀ (s t : State) (c : Instr) (rest : List Instr), s.pending = c :: rest → beginsStart c = false →
    step s = .next t → t.alarm.generation = s.alarm.generation → s.alarm.stage.rank ≤ t.alarm.stage.rank

/-- The state before the first start meets every law that the steps keep. No rule gives that state: its values are the
model's choice (log entry 4), and the chapters give the laws themselves. -/
def Obligations.ResetMeetsTheLaws : Prop :=
  State.reset.panel.ringGood ∧ State.reset.panel.keysDistinct ∧ State.reset.peers.oneEach ∧
    State.reset.peersComplete ∧ State.reset.phase.holdLegal ∧ State.reset.curtain.outputsLegal ∧ State.reset.raiseSafe ∧
    State.reset.calls.queueBounded ∧ State.reset.alarm.orderDistinct ∧ State.reset.pending = []

/-! ### Reports and frames -/

/-- R17: the bytes of a report within the ranges of the layout read back as that report. -/
def Obligations.ReportReadsBackFromItsBytes : Prop :=
  ∀ r : Report, r.carried → parseReport (encodeReport r) = some r

/-- R19, R22: a frame sent whole classifies as good with its report, and one sent poisoned as poisoned by its sender; the
CRC-16 of the characters 1 to 9 is 10673; and a frame shorter than 34 bytes is a CRC failure. -/
def Obligations.FrameClassifiesAsItWasSent : Prop :=
  (∀ (cls : ReportClass) (r : Report), r.carried →
    classify (encodeFrame cls false r) = .good r ∧
    classify (encodeFrame cls true r) = .poisoned r.station) ∧
  crc16 [49, 50, 51, 52, 53, 54, 55, 56, 57] = 10673 ∧
  ∀ frame : List Byte, frame.length < 34 → classify frame = .crcFailure

/-- R1: 8-bit counters are compared by their difference modulo 256: newer at 1 to 127, equal at 0, older at 128 to 255; so
3 is newer than 250, and 0 follows 255. -/
def Obligations.NewerComparesTheWrappingCounters : Prop :=
  (∀ a b : Byte, let d := (a.toNat + 256 - b.toNat) % 256
    (newer a b = true ↔ 1 ≤ d ∧ d ≤ 127) ∧ (d = 0 ↔ a = b) ∧
    (128 ≤ d ↔ newer a b = false ∧ a ≠ b) ∧ (newer a b = true → newer b a = false)) ∧
  newer 3 250 = true ∧ (255 : Byte) + 1 = 0

/-! ### The Line Controllers -/

/-- R21: a frame sent to completion leaves nothing in flight, notes its sequence and restart count, and leaves the
transmitter WAITING or IDLE by the slot. -/
def Obligations.FrameSentEndsTheFlight : Prop :=
  ∀ (l : Line) (s : State) (p : Pending), s.power.running = true → (s.line l).inFlight = some p →
    (s.line l).transmitter = .sending →
    completes (.frameSent l) s (s.withLine l { s.line l with
      inFlight := none
      lastSent := some (p.report.sequence, p.report.restartCount)
      ownFrame := some (encodeFrame p.cls p.poisoned p.report)
      transmitter := if (s.line l).slot = none then .idle else .waiting })

/-- R20, R30: a report that loses its contention goes back to an empty slot, or is superseded by the newer report there,
which keeps the more urgent class; a report placed by the Composer supersedes a held one in the same way, and takes an
empty slot, to wait, or to contend at once on an idle line. -/
def Obligations.SlotsKeepTheNewestReport : Prop :=
  (∀ (l : Line) (s : State) (p : Pending), s.power.running = true → (s.line l).inFlight = some p →
    ((s.line l).slot = none →
      completes (.arbitrationLost l) s (s.withLine l { s.line l with
        slot := some p, inFlight := none, transmitter := .waiting })) ∧
    ∀ newest, (s.line l).slot = some newest →
      completes (.arbitrationLost l) s (s.withLine l { s.line l with
        slot := some { newest with cls := if classCode p.cls ≤ classCode newest.cls then p.cls else newest.cls }
        inFlight := none, transmitter := .waiting, superseded := (s.line l).superseded + 1 })) ∧
  ∀ (c : LineController) (p : Pending),
    (∀ held, c.slot = some held →
      c.place p = { c with
        slot := some { p with cls := if classCode held.cls ≤ classCode p.cls then held.cls else p.cls }
        superseded := c.superseded + 1 }) ∧
    (c.slot = none → c.transmitter = .idle → c.busy = true →
      c.place p = { c with slot := some p, transmitter := .waiting }) ∧
    (c.slot = none → c.transmitter = .idle → c.busy = false →
      c.place p = { c with inFlight := some p, transmitter := .contending, busy := true }) ∧
    (c.slot = none → c.transmitter ≠ .idle → c.place p = { c with slot := some p })

/-- R20, R22: a CRC failure is counted on its line and hands nothing on; as the line falls idle after it, a waiting
controller contends with the report of its slot. -/
def Obligations.CrcFailureIsCountedAlone : Prop :=
  ∀ (l : Line) (s : State) (frame : List Byte), s.power.running = true → classify frame = .crcFailure →
    (s.line l).inFlight = none →
    ((s.line l).slot = none → (s.line l).transmitter = .idle →
      completes (.frameReceived l frame) s (s.withLine l { s.line l with
        busy := false, ownFrame := none, crcFailures := (s.line l).crcFailures + 1 })) ∧
    ∀ p, (s.line l).slot = some p → (s.line l).transmitter = .waiting →
      completes (.frameReceived l frame) s (s.withLine l { s.line l with
        slot := none, inFlight := some p, transmitter := .contending, busy := true, ownFrame := none
        crcFailures := (s.line l).crcFailures + 1 })

/-- R40: a poisoned notice naming a peer raises the poisoned count of its record by 1 and changes nothing else in it; one
that names the own number raises DUPLICATE STATION with its 10 s timer. -/
def Obligations.PoisonedNoticeIsCounted : Prop :=
  ∀ (l : Line) (s : State) (frame : List Byte) (n : Nat), s.power.running = true → 1 ≤ n → n ≤ 40 →
    classify frame = .poisoned n ∧ (s.line l).ownFrame ≠ some frame ∨ classify frame = .formatFailure n →
    ∃ u, completes (.frameReceived l frame) s u ∧
      u = (((s.withLine l (u.line l)).withPeers u.peers).withPanel u.panel).withComposer u.composer ∧
      (u.line l).silenceSince = s.clock.now ∧ (u.line l).goodFrames = (s.line l).goodFrames ∧
      (u.line l).crcFailures = (s.line l).crcFailures ∧
      (n ≠ s.own → ∀ r, s.peer n = some r →
        u.peers = { s.peers with records := s.peers.records.map fun x =>
          if x.station = n then { r with poisoned := r.poisoned + 1 } else x }) ∧
      (n = s.own → u.peers = { s.peers with duplicateTimer := some (s.clock.now + 10000) } ∧
        u.stands .duplicateStation = true)

/-- R36, R38: of the reports that are accepted nowhere, a duplicate is counted in its record, a stale one leaves every
record, the own echo raises no DUPLICATE STATION and leaves every record, and another report under the own number raises
DUPLICATE STATION with its 10 s timer. None of them reaches a reader: the line, the peer records, the panel and the mark
apart, nothing changes. -/
def Obligations.DiscardedReportLeavesTheRecord : Prop :=
  ∀ (l : Line) (s : State) (frame : List Byte) (report : Report), s.power.running = true →
    classify frame = .good report → 1 ≤ report.station → report.station ≤ 40 →
    let discarded (records : PeerTable) (duplicate : Bool) : Prop :=
      ∃ u, completes (.frameReceived l frame) s u ∧ u.peers = records ∧
        u.stands .duplicateStation = duplicate ∧
        u = (((s.withLine l (u.line l)).withPeers u.peers).withPanel u.panel).withComposer u.composer
    (∀ r last, report.station ≠ s.own → s.peer report.station = some r →
      r.state = .joining ∨ r.state = .live → r.lastReport = some last →
      report.restartCount = last.restartCount →
      (report.sequence = last.sequence →
        discarded { s.peers with records := s.peers.records.map fun x =>
          if x.station = report.station then { r with duplicates := r.duplicates + 1 } else x }
          (s.stands .duplicateStation)) ∧
      (128 ≤ (report.sequence - last.sequence).toNat → discarded s.peers (s.stands .duplicateStation))) ∧
    (report.station = s.own → (s.line l).lastSent = some (report.sequence, report.restartCount) →
      discarded s.peers (s.stands .duplicateStation)) ∧
    (report.station = s.own → (s.line l).lastSent ≠ some (report.sequence, report.restartCount) →
      discarded { s.peers with duplicateTimer := some (s.clock.now + 10000) } true)

/-- R37 to R39, R44, R46: an accepted report becomes the peer's record; a resync adds nothing to the gaps and a newer
report adds the sequence numbers missed; no other record changes, and the station's own settings and clock do not. R41:
PEER DEGRADED is raised by a gap score of 6 or more and cleared by 1 or less. R45: UNAUTHORISED FIELD stands while the
report holds an item that is present but not honoured. R47: CURTAIN CONFLICT stands while two or more curtain stations are
counted. R9, R10: of a peer that is LIVE after it, a configured station out of its joining period takes the phase view
where its epoch is newer, or equal with other content and the origin before the held one in order, 0 last, or equal and
the peer's own (that the hold is compared as R2 takes it is the model's, log entry 54). R83: it takes the generation where
that is newer. -/
def Obligations.AcceptedReportBecomesTheRecord : Prop :=
  ∀ (l : Line) (s : State) (frame : List Byte) (report : Report) (r : PeerRecord) (missed : Nat),
    s.power.running = true → classify frame = .good report → (s.line l).ownFrame ≠ some frame →
    1 ≤ report.station → report.station ≤ 40 → report.station ≠ s.own → s.peer report.station = some r →
    ((r.state = .absent ∨ r.state = .silent) ∧ missed = 0 ∨
      ∃ last, r.lastReport = some last ∧
        (report.restartCount ≠ last.restartCount ∧ missed = 0 ∨
          (r.state = .joining ∨ r.state = .live) ∧ report.restartCount = last.restartCount ∧
            (report.sequence - last.sequence).toNat = missed + 1 ∧ missed ≤ 126)) →
    ∃ u, completes (.frameReceived l frame) s u ∧
      u.peers = { s.peers with records := s.peers.records.map fun x =>
        if x.station = report.station then
          { r with
            state := if report.joining = true ∨ report.roles = {} then .joining else .live
            lastReport := some report
            acceptedAt := some s.station.nodeTime
            acceptedMs := s.clock.now
            honoured :=
              if report.roles.desk then
                { acknowledgement := report.authorities.ack, silence := report.authorities.ack,
                  demand := report.authorities.curtain, windows := report.authorities.effects,
                  disablements := report.authorities.reset, claims := report.authorities.lights,
                  calls := report.authorities.calls }
              else {}
            accepted := r.accepted + 1
            gaps := r.gaps + BitVec.ofNat 16 missed
            gapScore := min 255 (r.gapScore + missed)
            mismatch := report.signature != s.station.config.signature }
        else x } ∧
      u.pending = s.pending ∧ u.power = s.power ∧ u.station = s.station ∧ u.clock = s.clock ∧
      (u.line l).goodFrames = (s.line l).goodFrames + 1 ∧ u.stands (.lineFault l) = false ∧
      u.stands (.peerSilent report.station) = false ∧
      (
        let score := min 255 (r.gapScore + missed)
        u.stands (.peerDegraded report.station) =
          if 6 ≤ score then true else if score ≤ 1 then false else s.stands (.peerDegraded report.station)) ∧
      (
        let lacks (authority : Bool) : Prop := report.roles.desk = false ∨ authority = false
        u.stands (.unauthorisedField report.station) = true ↔
          report.alarm.ackPresent = true ∧ lacks report.authorities.ack ∨
          report.alarm.silencePresent = true ∧ lacks report.authorities.ack ∨
          report.desk.demandKind ≠ none ∧ lacks report.authorities.curtain ∨
          report.desk.windows ≠ [] ∧ lacks report.authorities.effects ∨
          report.desk.disablements ≠ [] ∧ lacks report.authorities.reset ∨
          report.desk.claims ≠ [] ∧ lacks report.authorities.lights ∨
          report.desk.calls ≠ [] ∧ lacks report.authorities.calls) ∧
      (u.stands .curtainConflict = true ↔ 2 ≤ u.curtainCount) ∧
      (
        let adopting : Prop := report.joining = false ∧ report.roles ≠ {} ∧ s.configured = true ∧
          s.station.joining = false
        let view := report.phase
        let hold := view.hold && view.phase.holdAllowed
        let rank (origin : Nat) : Nat := if origin = 0 then 41 else origin
        let takes : Prop := newer view.epoch s.phase.epoch = true ∨
          view.epoch = s.phase.epoch ∧
            (view.phase ≠ s.phase.phase ∨ hold ≠ s.phase.hold ∨ view.minutes ≠ s.phase.minutes) ∧
            (rank view.origin < rank s.phase.origin ∨
              view.origin = s.phase.origin ∧ view.origin = report.station)
        (adopting → takes →
          u.phase = { phase := view.phase, hold := hold, epoch := view.epoch, origin := view.origin
                      minutes := view.minutes
                      remaining :=
                        if view.phase = .interval then
                          if s.phase.phase = .interval ∧ s.phase.minutes = view.minutes then s.phase.remaining
                          else view.minutes * 60
                        else 0 }) ∧
        (¬(adopting ∧ takes) → u.phase = s.phase) ∧
        (adopting → newer report.alarm.generation s.alarm.generation = true →
          u.alarm.generation = report.alarm.generation) ∧
        (¬adopting ∨ newer report.alarm.generation s.alarm.generation = false →
          u.alarm.generation = s.alarm.generation))

/-- R25: as a line's silence time reaches 3 s, its fault is raised if the other line has been credited within 3 s, and
not newly raised otherwise. -/
def Obligations.SilentLineIsFaultedBesideALiveOne : Prop :=
  ∀ (l other : Line) (s : State), s.power.running = true → other ≠ l →
    ∃ u, completes (.lineSilenceTimeout l) s u ∧
      u.clock = { s.clock with now := max s.clock.now ((s.line l).silenceSince + 3000) } ∧
      u.stands (.lineFault l) =
        (s.stands (.lineFault l) || decide (u.clock.now - (s.line other).silenceSince < 3000)) ∧
      u = (((s.withClock u.clock).withLines u.lines).withPanel u.panel).withComposer u.composer

/-! ### The Report Composer -/

/-- R26 to R31: a routine composition, and one whose 50 ms spacing has passed, takes the sequence number and the next
one follows; both slots get the report with the class of its difference from the previous one; a report that fails the
check of R31 goes out cut and poisoned, with COMPOSER CHECK standing, and one that passes clears it; that the report which
clears it still carries the fault-summary word from before the clearing is the model's choice (log entry 46). R20: a
contention not yet lost is won as the clock moves, and a line that carries another station's frame, which is a free value
(log entry 7), is busy; a composition at the moment at which a line falls idle finds that line idle, whatever the free
value. -/
def Obligations.CompositionFillsBothSlots : Prop :=
  (∀ previous report : Report,
    (report.alarm ≠ previous.alarm ∨ report.curtain ≠ previous.curtain →
      classOf (some previous) report = .urgent) ∧
    (report.alarm = previous.alarm → report.curtain = previous.curtain →
      classOf (some previous) report =
        if report = { previous with sequence := report.sequence } then .routine else .prompt) ∧
    classOf none report = .urgent) ∧
  (∀ (s : State) (l : Line), (s.composeAt (some l)).line l = (s.line l).place s.composed) ∧
  ∀ (c : Instr) (s : State) (wait : Nat), s.power.running = true →
    c = .routineComposition ∧ wait = 1000 ∨
      c = .composeSpacingExpiry ∧ wait = 50 ∧ s.composer.changePending = true →
    let now := max s.clock.now (s.composer.composedAt + wait)
    let report := if reportGood s s.gather then s.gather else cutReport s.gather
    let p : Pending := ⟨report, classOf s.composer.image report, !reportGood s s.gather⟩
    ∃ u, exec c s = .next u ∧ report.sequence = s.composer.sequence ∧
      u.composer = { s.composer with sequence := s.composer.sequence + 1, image := some report, composedAt := now
                                     changePending := u.composer.changePending } ∧
      u.clock = { s.clock with now := now } ∧
      (∀ l, let c := s.line l
        u.line l = ({ c with
          transmitter := if s.clock.now < now ∧ c.transmitter = .contending then .sending else c.transmitter
          busy := c.busy || Config.carriesFrame s.draws l } : LineController).place p) ∧
      u.stands .composerCheck = (!reportGood s s.gather) ∧
      (s.stands .composerCheck = (!reportGood s s.gather) →
        u.composer.changePending = false ∧ u.panel = s.panel) ∧
      u = ((((s.withComposer u.composer).withClock u.clock).withLines u.lines).withPanel u.panel).withDraws
        (s.draws + 1)

/-! ### The Peer Table and node time -/

/-- R36: the expiry of the 10 s clearing timer clears DUPLICATE STATION. -/
def Obligations.DuplicateStationClearsAfterTenSeconds : Prop :=
  ∀ (s : State) (expiry : Nat), s.power.running = true → s.peers.duplicateTimer = some expiry →
    ∃ u, completes .duplicateStationCleared s u ∧
      u.peers = { s.peers with duplicateTimer := none } ∧ u.stands .duplicateStation = false ∧
      u.clock = { s.clock with now := max s.clock.now expiry } ∧
      u = ((((s.withClock u.clock).withLines u.lines).withPeers u.peers).withPanel u.panel).withComposer
        u.composer

/-- R42: a record in JOINING or LIVE goes SILENT 3.5 s after its last acceptance, keeping its report and counts and
losing its config mismatch warning, and PEER SILENT stands; no other record changes. -/
def Obligations.PeerFallsSilent : Prop :=
  ∀ (n : Nat) (s : State) (r : PeerRecord), s.power.running = true → s.peer n = some r →
    r.state = .joining ∨ r.state = .live →
    ∃ u, completes (.peerSilent n) s u ∧
      u.peers = { s.peers with records := s.peers.records.map fun x =>
        if x.station = n then { r with state := .silent, mismatch := false } else x } ∧
      u.stands (.peerSilent n) = true ∧
      u.clock = { s.clock with now := max s.clock.now (r.acceptedMs + 3500) } ∧
      u.pending = s.pending ∧ u.power = s.power ∧ u.station = s.station ∧ u.phase = s.phase ∧
      u.alarm.generation = s.alarm.generation

/-- R49 with R11 and R90: at the end of the joining period the flag is cleared and the standing becomes RUNNING, or
UNCONFIGURED; with a LIVE peer the lowest-numbered one's phase view and generation are taken whatever their epochs, an
INTERVAL running in full, and its EVACUATE; with none the view and the generation stay. -/
def Obligations.JoiningEndsWithTheLowestLivePeer : Prop :=
  ∀ s : State, s.power.running = true → s.station.joining = true →
    ∃ u, completes .endOfJoining s u ∧
      u.station = { s.station with joining := false
                                   standing := if s.configured then .running else .unconfigured } ∧
      u.peers = s.peers ∧ u.pending = s.pending ∧ u.power = s.power ∧
      u.clock = { s.clock with now := max s.clock.now s.station.joiningUntil } ∧
      ((∀ r ∈ s.peers.records, r.state ≠ .live) →
        u.phase = s.phase ∧ u.alarm.generation = s.alarm.generation) ∧
      ∀ r report, s.peersComplete → r ∈ s.peers.records → r.state = .live →
        (∀ x ∈ s.peers.records, x.state = .live → r.station ≤ x.station) → r.lastReport = some report →
        s.configured = true →
        u.alarm.generation = report.alarm.generation ∧
        (report.alarm.stage = .evacuate → u.alarm.stage = .evacuate) ∧
        u.phase = { phase := report.phase.phase
                    hold := report.phase.hold && report.phase.phase.holdAllowed
                    epoch := report.phase.epoch
                    origin := report.phase.origin
                    minutes := report.phase.minutes
                    remaining := if report.phase.phase = .interval then report.phase.minutes * 60 else 0 }

/-- R184, R12, R41: at an increment node time advances by 1, a running interval timer falls by 1, and at a multiple of 10
every gap score above 0 leaks by 1; before 4294967295 no free value is drawn. -/
def Obligations.NodeTimeAdvancesByOne : Prop :=
  ∀ s : State, s.power.running = true → s.station.nodeTime < 4294967295 → s.peers.oneEach →
    ∃ u, completes .nodeTimeIncrement s u ∧
      u.station = { s.station with nodeTime := s.station.nodeTime + 1 } ∧ u.draws = s.draws ∧
      u.clock = { s.clock with now := max s.clock.now (s.clock.secondAt + 1000)
                               secondAt := s.clock.secondAt + 1000 } ∧
      u.phase = { s.phase with remaining :=
        if s.phase.phase = .interval ∧ s.phase.hold = false then s.phase.remaining - 1
        else s.phase.remaining } ∧
      u.peers = { s.peers with records := s.peers.records.map fun r =>
        { r with gapScore := if (s.station.nodeTime + 1) % 10 = 0 then r.gapScore - 1 else r.gapScore } } ∧
      u.pending = s.pending ∧ u.power = s.power ∧ u.alarm.generation = s.alarm.generation

/-! ### The Phase Tracker -/

/-- R4 to R7: an allowed move is accepted and takes the view of R7, an INTERVAL running in full with its length clamped
to 5 to 40 minutes. -/
def Obligations.AcceptedSetPhaseTakesTheNewView : Prop :=
  ∀ (target : Phase) (minutes : Byte) (s : State), s.attends → s.station.joining = false →
    s.roles.desk = true → s.authorities.phase = true →
    (s.phase.phase, target) ∈ [(Phase.closed, Phase.houseOpen), (.houseOpen, .performance), (.houseOpen, .closed),
      (.performance, .interval), (.performance, .houseClearing), (.interval, .performance),
      (.interval, .houseClearing), (.houseClearing, .closed)] →
    (target = .houseOpen → s.openingCheck = none) →
    let length := if minutes.toNat < 5 then 5 else if 40 < minutes.toNat then 40 else minutes.toNat
    ∃ u, answers (.setPhase (some target) minutes) s u
        { code := if target = .interval ∧ length ≠ minutes.toNat then .clamped else .accepted } ∧
      u.phase = { phase := target, hold := false, epoch := s.phase.epoch + 1, origin := s.own
                  minutes := if target = .interval then length else s.phase.minutes
                  remaining := if target = .interval then length * 60 else 0 } ∧
      u.pending = s.pending ∧ u.power = s.power ∧ u.station = s.station ∧ u.clock = s.clock ∧ u.lines = s.lines ∧
      u.peers = s.peers ∧ u.alarm.generation = s.alarm.generation

/-- R4, R5: a refused SET PHASE changes nothing and is answered by the first test that fails: authority, the form, the
joining period, a move that is none of R4's table, and for the opening of the house the count of curtain stations, then
the proof, then the stage. -/
def Obligations.RefusedSetPhaseChangesNothing : Prop :=
  ∀ (target : Option Phase) (minutes : Byte) (s : State), s.attends →
    let refused (code : AnswerCode) : Prop := answers (.setPhase target minutes) s s { code := code }
    ((s.roles.desk = false ∨ s.authorities.phase = false) → refused .noAuthority) ∧
    (s.roles.desk = true → s.authorities.phase = true →
      (target = none → refused .badRequest) ∧
      (target ≠ none → s.station.joining = true → refused (.refusedState .joining)) ∧
      (∀ move, s.station.joining = false → target = some move →
        (s.phase.phase, move) ∉ [(Phase.closed, Phase.houseOpen), (.houseOpen, .performance), (.houseOpen, .closed),
          (.performance, .interval), (.performance, .houseClearing), (.interval, .performance),
          (.interval, .houseClearing), (.houseClearing, .closed)] →
        refused .badTransition) ∧
      (s.station.joining = false → s.phase.phase = .closed → target = some .houseOpen →
        let count := s.roles.curtain.toNat + s.openingPeers.length
        (count = 0 → refused (.refusedState .noCurtain)) ∧
        (2 ≤ count → refused (.refusedState .conflict)) ∧
        (count = 1 → (s.roles.curtain = true → s.proven = false) →
          (∀ r ∈ s.openingPeers, r.proven = false) → refused (.refusedState .unproven)) ∧
        (count = 1 → (s.roles.curtain = true → s.proven = true) →
          (∀ r ∈ s.openingPeers, r.proven = true) → s.alarm.stage ≠ .quiet → refused (.refusedState .alarm))))

/-- R8: HOLD ON and HOLD OFF are judged for authority, the joining period and the phase, in that order; an accepted one
takes the held phase and minutes with the hold asked for, the next epoch and the own origin, also where the hold already
had that value, and only a change of the hold is noticed. That of the three blocks R3 hands it to the lights alone act on
it is the model's inference from R75, R137 and R150 (log entry 55). -/
def Obligations.HoldRequestsAreJudgedInOrder : Prop :=
  ∀ (hold : Bool) (s : State), s.attends →
    let c := if hold then Instr.holdOn else Instr.holdOff
    ((s.roles.desk = false ∨ s.authorities.phase = false) → answers c s s { code := .noAuthority }) ∧
    (s.roles.desk = true → s.authorities.phase = true →
      (s.station.joining = true → answers c s s { code := .refusedState .joining }) ∧
      (s.station.joining = false →
        (s.phase.phase ≠ .performance → s.phase.phase ≠ .interval →
          answers c s s { code := .refusedState .notInShow }) ∧
        (s.phase.phase = .performance ∨ s.phase.phase = .interval →
          let view : PhaseView :=
            { s.phase with hold := hold, epoch := s.phase.epoch + 1, origin := s.own
                           remaining := if s.phase.phase = .interval then s.phase.remaining else 0 }
          let taken := (s.withPhase view).mark
          answers c s (if s.phase.hold = hold then taken else taken.lightsPhase) { code := .accepted })))

/-- R12, R13: the increment of node time that takes the running timer to a mark is that mark's event, and the one that
takes it to 0, where it stops, is its expiry; a decrement to a mark hands the mark to the Call Sequencer, and no other
hands one. That each of the rows is such an increment, and has no effect where the next increment does not bring it, is
the model's (log entry 9). -/
def Obligations.IntervalTimerCountsToItsMarks : Prop :=
  (∀ (s : State) (c : Instr) (left : Nat), s.power.running = true → s.station.nodeTime < 4294967295 →
    (c, left) ∈ [(Instr.intervalTimerExpiry, 0), (.intervalMark .m300, 300), (.intervalMark .m180, 180),
      (.intervalMark .m60, 60)] →
    (s.phase.phase = .interval → s.phase.hold = false → s.phase.remaining = left + 1 →
      ∃ u, completes c s u ∧ completes .nodeTimeIncrement s u ∧ u.phase = { s.phase with remaining := left } ∧
        u.station = { s.station with nodeTime := s.station.nodeTime + 1 }) ∧
    (s.phase.phase ≠ .interval ∨ s.phase.hold = true ∨ s.phase.remaining ≠ left + 1 → completes c s s)) ∧
  ∀ s : State, s.phase.phase = .interval → s.phase.hold = false →
    let counted := s.withPhase { s.phase with remaining := s.phase.remaining - 1 }
    s.intervalSecond =
      if s.phase.remaining = 301 then counted.callsMark .m300
      else if s.phase.remaining = 181 then counted.callsMark .m180
      else if s.phase.remaining = 61 then counted.callsMark .m60
      else counted

/-! ### The Detection Unit -/

/-- R53 to R55, R63: a sample of an ONLINE LOOP module gives each mapped detector of its bay its reading; 0 and 255 fault
it as MISSING and SHORT, and the counts run against the thresholds in force, a window raising a smoke detector's. R56 to
R58: the evaluation of a zone sets its latch, manual mark and prealarm hold from its VALID detectors, and its condition is
the first that applies. R73, R74: a zone of the merged view is as bad as the worst contribution to it, and holds the first
such one's source. R78: one TWO_STAGE zone in ALARM with the audience present, where no evacuation condition holds, takes
QUIET to ALERT with its ack window, or to INVESTIGATE where it is acknowledged. -/
def Obligations.LoopSampleReadsEveryDetector : Prop :=
  (∀ (b : Bay) (readings : Vector Byte 32) (s : State) (i : Nat) (d : Detector) (z : ZoneRecord),
    s.power.running = true → (s.bay b).state = .online → (s.bay b).sensed = some .loop →
    s.detection.detectors[i]? = some d → s.zone d.zone = some z → 1 ≤ d.position → d.position ≤ 32 →
    let r := (readings.toList.getD (d.position - 1) 0).toNat
    let t := s.image.thresholds
    let alarm := if d.type = .smoke ∧ z.window = true then min 250 (t.alarm + t.effectsOffset) else t.alarm
    ∃ u d', completes (.loopSample b readings) s u ∧ (u.bay b).missed = 0 ∧
      u.peers = s.peers ∧ u.phase = s.phase ∧ u.station = s.station ∧ u.clock = s.clock ∧
      u.detection.detectors.length = s.detection.detectors.length ∧
      u.detection.detectors[i]? = some d' ∧
      (d.bay ≠ b → d' = d) ∧
      (d.bay = b → d'.reading = r ∧ d'.zone = d.zone ∧ d'.type = d.type ∧
        (r = 0 → d'.status = .faulted ∧ d'.fault = some .missing) ∧
        (r = 255 → d'.status = .faulted ∧ d'.fault = some .short) ∧
        (0 < r → r < 255 → d'.status = .valid ∧ d'.fault = none) ∧
        (r = 0 ∨ r = 255 ∨ z.disabled = true →
          d'.alarmCount = 0 ∧ d'.prealarmCount = 0 ∧ d'.clearRun = 0) ∧
        (0 < r → r < 255 → z.disabled = false →
          d'.alarmCount = (if alarm ≤ r then min 255 (d.alarmCount + 1) else 0) ∧
          d'.prealarmCount = (if t.prealarm ≤ r then min 255 (d.prealarmCount + 1) else 0) ∧
          d'.clearRun = (if r < t.prealarm - 10 then min 10 (d.clearRun + 1) else 0)))) ∧
  (∀ (s : State) (z : Nat) (r : ZoneRecord), s.zone z = some r → r.disabled = false →
    let dwell (d : Detector) : Nat := if d.type = .manual then 1
      else if d.type = .smoke ∧ r.window = true then 4 * s.image.thresholds.dwell else s.image.thresholds.dwell
    let detectors := s.detection.detectors.filter (·.zone = z)
    let valid := detectors.filter (·.status = .valid)
    let active : Prop := (∃ d ∈ valid, dwell d ≤ d.alarmCount) ∨
      2 ≤ (valid.filter fun d => dwell d ≤ d.prealarmCount).length
    let hold : Prop := (∃ d ∈ valid, 2 ≤ d.prealarmCount) ∨ r.hold = true ∧ ∃ d ∈ valid, d.clearRun ≠ 10
    let latch : Prop := r.latch = true ∨ active
    let faulted : Prop := (∃ d ∈ detectors, d.status = .faulted) ∨
      s.station.joining = false ∧ (s.roles.detect = false ∨ detectors = [])
    ∃ r', (s.evalZone z).zone z = some r' ∧ (r'.latch = true ↔ latch) ∧ (r'.hold = true ↔ hold) ∧
      (r'.manual = true ↔
        r.manual = true ∨ active ∧ ∃ d ∈ valid, d.type = .manual ∧ 1 ≤ d.alarmCount) ∧
      (active → r'.condition = .alarmActive) ∧ (¬active → latch → r'.condition = .alarmLatched) ∧
      (¬latch → hold → r'.condition = .prealarm) ∧ (¬latch → ¬hold → faulted → r'.condition = .fault) ∧
      (¬latch → ¬hold → ¬faulted → r'.condition = .normal) ∧
      ((s.evalZone z).stands (.zoneFault z) = true ↔ faulted)) ∧
  (∀ (s : State) (z : Nat),
    let code := conditionCode
    let merged := s.mergedZone z
    (∀ r, s.zone z = some r → code r.handed ≤ code merged.condition) ∧
    (∀ r ∈ s.peers.records, ∀ report, r.lastReport = some report → ∀ e ∈ report.alarm.zones, e.zone = z →
      let same : Prop := report.alarm.generation = s.alarm.generation
      (r.state = .live → same ∨ e.condition = .alarmActive → code e.condition ≤ code merged.condition) ∧
      (r.state = .joining → e.condition = .alarmActive → merged.condition = .alarmActive) ∧
      (r.state = .silent → same → report.joining = false → report.roles ≠ {} →
        e.condition = .alarmActive ∨ e.condition = .alarmLatched → code .alarmLatched ≤ code merged.condition)) ∧
    (∀ row r, s.zoneRow z = some row → s.peer row.station = some r →
      r.state = .silent ∨ r.state = .absent ∧ s.station.joining = false ∨
        r.state = .joining ∧ (∃ report, r.lastReport = some report ∧ report.roles = {}) →
      code .fault ≤ code merged.condition) ∧
    (s.contributions z = [] → merged = ⟨.normal, none, false, false⟩) ∧
    (s.contributions z ≠ [] →
      ∃ before c after, s.contributions z = before ++ c :: after ∧ merged.condition = c.condition ∧
        merged.source = some c.source ∧ (∀ x ∈ before, code x.condition < code c.condition) ∧
        (∀ x ∈ after, code x.condition ≤ code c.condition))) ∧
  ∀ (s : State) (z : Nat), s.alarm.stage = .quiet → s.rebuildMerged.alarm.zonesInAlarm = [z] →
    s.zoneDirect z = false → s.phase.phase.audiencePresent = true → s.rebuildMerged.evacuationCause = none →
    let t := s.reevaluate
    (s.acknowledged = false → t.alarm.stage = .alert ∧
      t.alarm.ackWindow = some (s.clock.now + s.image.ackTime * 1000)) ∧
    (s.acknowledged = true → t.alarm.stage = .investigate ∧
      t.alarm.investigation = some (s.clock.now + s.image.investigationTime * 1000)) ∧
    t.alarm.order = (if z ∈ s.alarm.order then s.alarm.order else s.alarm.order ++ [z]) ∧
    t.alarm.generation = s.alarm.generation

/-- R65, R66, R64: EFFECTS OPEN over one INHIBITABLE zone in QUIET lists it for its duration, 1200 s at most; EFFECTS
CLOSE takes listed zones out. A stage that leaves QUIET in the same change empties the list. That the answer to a close of
all carries no zone results, of which no rule speaks, is the model's choice (log entry 97). -/
def Obligations.EffectsRequestsChangeTheWindowList : Prop :=
  ∀ (s : State), s.attends → s.roles.desk = true → s.authorities.effects = true →
    let lists (u : State) (windows : List WindowEntry) : Prop :=
      (u.detection.windows = windows ∨ u.alarm.stage ≠ .quiet ∧ u.detection.windows = []) ∧
        u.peers = s.peers ∧ u.phase = s.phase ∧ u.station = s.station ∧ u.clock = s.clock ∧
        u.alarm.generation = s.alarm.generation ∧ u.alarm.disablements = s.alarm.disablements
    (∀ z duration, 1 ≤ z → z ≤ 64 → 0 < duration → s.alarm.stage = .quiet → s.zoneInhibitable z = true →
      (∀ w ∈ s.detection.windows, w.zone ≠ z) → s.detection.windows.length < 8 →
      ∃ u, answers (.effectsOpen [z] duration) s u
          { code := if 1200 < duration then .clamped else .accepted, results := [(z, .opened)] } ∧
        lists u (s.detection.windows.filter (·.zone < z) ++
          ⟨z, min duration 1200⟩ :: s.detection.windows.filter (z < ·.zone))) ∧
    (∃ u, answers (.effectsClose .all) s u { code := .accepted } ∧ lists u []) ∧
    (∀ z, 1 ≤ z → z ≤ 64 → (∃ w ∈ s.detection.windows, w.zone = z) →
      ∃ u, answers (.effectsClose (.zones [z])) s u { code := .accepted, results := [(z, .closed)] } ∧
        lists u (s.detection.windows.filter (·.zone ≠ z)))

/-- R64, R67: the increment of node time that takes an own window entry to 0, or a copy of a peer's, is its expiry: every
entry of both lists falls by 1, and those at 0 leave their list. That the rows are such an increment, and have no effect
where the next increment does not bring them, is the model's (log entry 9). -/
def Obligations.ExpiredWindowsLeaveTheirLists : Prop :=
  ∀ (s : State) (c : Instr) (due : Prop), s.power.running = true → s.station.nodeTime < 4294967295 →
    ((∃ z, c = .effectsWindowExpiry z ∧ (due ↔ ∃ w ∈ s.detection.windows, w.zone = z ∧ w.remaining ≤ 1)) ∨
      ∃ desk z, c = .windowCopyExpiry desk z ∧
        (due ↔ ∃ x ∈ s.detection.copies, x.desk = desk ∧ x.zone = z ∧ x.remaining ≤ 1)) →
    (due →
      ∃ u, completes c s u ∧ completes .nodeTimeIncrement s u ∧
        u.station = { s.station with nodeTime := s.station.nodeTime + 1 } ∧
        u.detection.detectors = s.detection.detectors ∧ u.alarm.generation = s.alarm.generation ∧
        u.detection.copies = (s.detection.copies.map fun x => { x with remaining := x.remaining - 1 }).filter
          (0 < ·.remaining) ∧
        (u.detection.windows = (s.detection.windows.map fun w => { w with remaining := w.remaining - 1 }).filter
            (0 < ·.remaining) ∨
          u.alarm.stage ≠ .quiet ∧ u.detection.windows = [])) ∧
    (¬due → completes c s s)

/-! ### The Alarm Stage Unit -/

/-- R87, R62, R63: DISABLE puts a zone in the own list and ENABLE takes it out; at its supervisor, the zone that no desk
disabled before becomes DISABLED with its latch cleared, and the disabled zone that no other desk lists is enabled and
re-evaluated: with its latch and hold clear and every count of its detectors at 0, as a disabled zone has them, it is
FAULT if a detector is FAULTED or the zone is held FAULT by configuration, and NORMAL otherwise, and ZONE FAULT stands by
the same test. -/
def Obligations.DisableAndEnableChangeTheOwnList : Prop :=
  ∀ (z : Nat) (s : State), s.attends → s.roles.desk = true → s.authorities.reset = true → 1 ≤ z → z ≤ 64 →
    let frame (u : State) : Prop :=
      u.peers = s.peers ∧ u.phase = s.phase ∧ u.station = s.station ∧ u.clock = s.clock ∧
        u.alarm.generation = s.alarm.generation
    (z ∉ s.alarm.disablements → (s.alarm.zoneAt z).condition ≠ .alarmActive →
      (s.alarm.zoneAt z).condition ≠ .alarmLatched → s.alarm.disablements.length < 8 →
      ∃ u, answers (.disable z) s u { code := .accepted } ∧ frame u ∧
        u.alarm.disablements =
          s.alarm.disablements.filter (· < z) ++ z :: s.alarm.disablements.filter (z < ·) ∧
        ∀ r, s.zone z = some r → r.disabled = false →
          ∃ r', u.zone z = some r' ∧ r'.disabled = true ∧ r'.latch = false ∧ r'.condition = .disabled) ∧
    (z ∈ s.alarm.disablements →
      ∃ u, answers (.enable z) s u { code := .accepted } ∧ frame u ∧
        u.alarm.disablements = s.alarm.disablements.filter (· ≠ z) ∧
        ∀ r, s.zone z = some r → r.disabled = true → r.latch = false → r.hold = false →
          (∀ x ∈ s.peers.records, ∀ report, x.state = .live → x.honoured.disablements = true →
            x.lastReport = some report → z ∉ report.desk.disablements) →
          (∀ d ∈ s.detection.detectors, d.zone = z → d.alarmCount = 0 ∧ d.prealarmCount = 0 ∧ d.clearRun = 0) →
          1 ≤ s.image.thresholds.dwell →
          let faulted : Prop := (∃ d ∈ s.detection.detectors, d.zone = z ∧ d.status = .faulted) ∨
            s.station.joining = false ∧ (s.roles.detect = false ∨ ∀ d ∈ s.detection.detectors, d.zone ≠ z)
          ∃ r', u.zone z = some r' ∧ r'.disabled = false ∧ r'.latch = false ∧ r'.hold = false ∧
            (faulted → r'.condition = .fault) ∧ (¬faulted → r'.condition = .normal) ∧
            (u.stands (.zoneFault z) = true ↔ faulted)) ∧
    (z ∈ s.alarm.disablements → answers (.disable z) s s { code := .accepted }) ∧
    (z ∉ s.alarm.disablements →
      answers (.enable z) s s { code := .refusedState .notDisabled } ∧
      ((s.alarm.zoneAt z).condition = .alarmActive ∨ (s.alarm.zoneAt z).condition = .alarmLatched →
        answers (.disable z) s s { code := .refusedState .alarm }))

/-- R79, R80: the ack window that expires in ALERT, and the investigation timer that expires in INVESTIGATE, take the
stage to EVACUATE with their cause, stop both timers and leave a snapshot. R75, R77: at the increment of node time that
reaches the re-alarm end the window is closed and the re-evaluation never lowers the stage; that its row is such an
increment, and has no effect where the next increment does not bring it, is the model's (log entry 9). -/
def Obligations.StageTimersExpire : Prop :=
  ∀ (s : State) (expiry : Nat), s.power.running = true →
    let evacuated (c : Instr) (cause : StageCause) : Prop :=
      ∃ u, completes c s u ∧ u.alarm.stage = .evacuate ∧ u.alarm.cause = some cause ∧
        u.alarm.generation = s.alarm.generation ∧ u.alarm.ackWindow = none ∧ u.alarm.investigation = none ∧
        u.alarm.snapshot.isSome = true ∧ u.clock = { s.clock with now := max s.clock.now expiry } ∧
        u.peers = s.peers ∧ u.phase = s.phase ∧ u.station = s.station
    (s.alarm.stage = .alert → s.alarm.ackWindow = some expiry → evacuated .ackWindowExpiry .ackTimeout) ∧
    (s.alarm.stage = .investigate → s.alarm.investigation = some expiry →
      evacuated .investigationTimeout .investigationTimeout) ∧
    (s.alarm.realarmEnd = some expiry → expiry = s.station.nodeTime + 1 → expiry ≤ 4294967295 →
      ∃ u, completes .realarmWindowEnd s u ∧ completes .nodeTimeIncrement s u ∧
        u.station = { s.station with nodeTime := expiry } ∧ u.realarmOpen = false ∧
        u.alarm.generation = s.alarm.generation ∧ s.alarm.stage.rank ≤ u.alarm.stage.rank) ∧
    (s.alarm.realarmEnd ≠ some (s.station.nodeTime + 1) → completes .realarmWindowEnd s s)

/-- R84: ACK is judged in order; an accepted one makes the own acknowledgement present under the own generation and moves
the desk on from ALERT at once. -/
def Obligations.AckMovesTheDeskOnFromAlert : Prop :=
  ∀ s : State, s.attends →
    ((s.roles.desk = false ∨ s.authorities.ack = false) → answers .ack s s { code := .noAuthority }) ∧
    (s.roles.desk = true → s.authorities.ack = true →
      (s.station.joining = true → answers .ack s s { code := .refusedState .joining }) ∧
      (s.station.joining = false →
        (s.alarm.stage ≠ .alert → answers .ack s s { code := .refusedState .notAlert }) ∧
        (s.alarm.stage = .alert →
          ∃ u, answers .ack s u { code := .accepted } ∧ u.alarm.ack = some s.alarm.generation ∧
            (u.alarm.stage = .investigate ∨ u.alarm.stage = .evacuate) ∧
            u.alarm.generation = s.alarm.generation ∧ u.alarm.silence = s.alarm.silence ∧
            u.alarm.ackWindow = none ∧ u.peers = s.peers ∧ u.phase = s.phase ∧ u.station = s.station ∧
            u.clock = s.clock)))

/-- R85, R81: SILENCE is judged in order; an accepted one is present under the own generation with the length of the
alarm order list, and silences the alarm unless a zone joins the list in the same change. -/
def Obligations.SilenceCoversTheAlarmOrder : Prop :=
  ∀ s : State, s.attends →
    ((s.roles.desk = false ∨ s.authorities.ack = false) → answers .silence s s { code := .noAuthority }) ∧
    (s.roles.desk = true → s.authorities.ack = true →
      (s.station.joining = true → answers .silence s s { code := .refusedState .joining }) ∧
      (s.station.joining = false →
        (s.alarm.stage ≠ .evacuate → answers .silence s s { code := .refusedState .notEvacuate }) ∧
        (s.alarm.stage = .evacuate →
          ∃ u, answers .silence s u { code := .accepted } ∧
            u.alarm.silence = some { generation := s.alarm.generation, count := s.alarm.order.length } ∧
            (u.alarm.order = s.alarm.order → u.alarm.silenced = true) ∧
            u.alarm.stage = .evacuate ∧ u.alarm.cause = s.alarm.cause ∧
            u.alarm.generation = s.alarm.generation ∧ u.alarm.ack = s.alarm.ack ∧
            u.peers = s.peers ∧ u.phase = s.phase ∧ u.station = s.station ∧ u.clock = s.clock)))

/-- R86, R82: RESET is refused while a zone is ALARM_ACTIVE, naming the lowest; an accepted one takes the next generation,
which clears the desk's acknowledgement and silence and opens a re-alarm window of 300 s. Where its end passes 4294967295 no
rule gives it a value, and that it is the sum is the model's choice (log entry 52). -/
def Obligations.ResetTakesTheNextGeneration : Prop :=
  ∀ s : State, s.attends →
    ((s.roles.desk = false ∨ s.authorities.reset = false) → answers .reset s s { code := .noAuthority }) ∧
    (s.roles.desk = true → s.authorities.reset = true →
      (s.station.joining = true → answers .reset s s { code := .refusedState .joining }) ∧
      (s.station.joining = false →
        (∀ z, 1 ≤ z → z ≤ 64 → (s.alarm.zoneAt z).condition = .alarmActive →
          (∀ y, 1 ≤ y → y < z → (s.alarm.zoneAt y).condition ≠ .alarmActive) →
          answers .reset s s { code := .refusedState .notClear, zone := some z }) ∧
        ((∀ z, 1 ≤ z → z ≤ 64 → (s.alarm.zoneAt z).condition ≠ .alarmActive) →
          ∃ u, answers .reset s u { code := .accepted } ∧
            u.alarm.generation = s.alarm.generation + 1 ∧ u.alarm.ack = none ∧ u.alarm.silence = none ∧
            u.alarm.realarmEnd = some (s.station.nodeTime + 300) ∧
            (u.alarm.stage = .quiet → u.alarm.ackWindow = none ∧ u.alarm.investigation = none) ∧
            u.alarm.disablements = s.alarm.disablements ∧ u.peers = s.peers ∧ u.phase = s.phase ∧
            u.station = s.station ∧ u.clock = s.clock)))

/-- R89: CLEAR SNAPSHOT is accepted from any station and empties the slot, and SNAPSHOT CLEARED is logged where it was
full; nothing else changes. In EVACUATE no new snapshot is taken then: a re-evaluation under the same generation leaves
the slot as it is. -/
def Obligations.ClearSnapshotEmptiesTheSlot : Prop :=
  ∀ s : State, s.attends →
    let emptied := s.withAlarm { s.alarm with snapshot := none }
    (s.alarm.snapshot = none → answers .clearSnapshot s s { code := .accepted }) ∧
    (∀ held, s.alarm.snapshot = some held →
      answers .clearSnapshot s (emptied.log .snapshotCleared) { code := .accepted }) ∧
    (s.alarm.stage = .evacuate → s.review.alarm.snapshot = s.alarm.snapshot)

/-! ### The Curtain Controller and the Descent Supervisor -/

/-- R99: a CURTAIN request needs DESK and CURTAIN, and one that names no known kind is BAD_REQUEST; an accepted one
places the demand with an epoch one beyond the newer of the held epoch and the owner epoch. A desk that is no curtain
station changes nothing else. -/
def Obligations.CurtainRequestPlacesTheDemand : Prop :=
  ∀ (c : Instr) (kind : DemandKind) (s : State), s.attends →
    (c, kind) ∈ [(Instr.curtainRaise, DemandKind.raise), (.curtainLower, .lower), (.curtainStop, .stop),
      (.curtainTest, .test), (.curtainDrop, .drop)] →
    ((s.roles.desk = false ∨ s.authorities.curtain = false) →
      answers c s s { code := .noAuthority } ∧ answers .curtainUnknown s s { code := .noAuthority }) ∧
    (s.roles.desk = true → s.authorities.curtain = true →
      answers .curtainUnknown s s { code := .badRequest } ∧
      ∃ u, answers c s u { code := .accepted } ∧ u.curtain.demandKind = some kind ∧
        (newer s.ownerEpoch s.curtain.demandEpoch = true → u.curtain.demandEpoch = s.ownerEpoch + 1) ∧
        (newer s.curtain.demandEpoch s.ownerEpoch = true ∨ s.ownerEpoch = s.curtain.demandEpoch →
          u.curtain.demandEpoch = s.curtain.demandEpoch + 1) ∧
        u = (((s.withCurtain u.curtain).withDescent u.descent).withPanel u.panel).withComposer u.composer ∧
        u.composer = { s.composer with changePending := true } ∧
        (s.roles.curtain = false →
          u = (s.withCurtain { s.curtain with
            demandKind := some kind, demandEpoch := u.curtain.demandEpoch }).mark))

/-- R101, R96, R94: what a judged demand does, by its kind and the state of the curtain; and what a standing trigger does
to it, the zones first, then the stage, then the button. That DEMAND TAKEN names source, kind and epoch, of which no rule
speaks, is the model's choice (log entry 94). -/
def Obligations.DemandsAndTriggersMoveTheCurtain : Prop :=
  ∀ (s : State) (source : Nat) (epoch : Byte),
    let outcome (kind : DemandKind) : State := s.carryOut source kind epoch
    let refused (kind : DemandKind) (why : DemandRefusal) : Prop :=
      outcome kind = s.log (.demandRefused source kind epoch why)
    let state := s.curtain.state
    (state = .driveLost → ∀ kind, refused kind .driveLost) ∧
    (state ≠ .driveLost →
      (s.standingTrigger.isSome = true → refused .raise .trigger) ∧
      (s.standingTrigger = none → s.curtain.position = none → refused .raise .position) ∧
      (s.standingTrigger = none → s.curtain.position ≠ none →
        (state ≠ .down → state ≠ .stopped → refused .raise .state) ∧
        (state = .down ∨ state = .stopped →
          (outcome .raise).curtain.state = .raising ∧
          (outcome .raise).curtain.raiseTimer = some (s.clock.now + 90000) ∧
          (outcome .raise).curtain.output = some ⟨false, some .normal, true⟩)) ∧
      (s.curtain.view.beamBroken = true → refused .lower .beam ∧ refused .test .beam) ∧
      (s.curtain.view.beamBroken = false → s.curtain.position = none →
        refused .lower .position ∧ refused .test .position) ∧
      (s.curtain.view.beamBroken = false → s.curtain.position ≠ none →
        (state ≠ .up → refused .test .state) ∧
        (state ≠ .up → state ≠ .stopped → refused .lower .state) ∧
        (s.standingTrigger = none → state = .up ∨ state = .stopped →
          (outcome .lower).curtain.state = .lowering ∨ (outcome .lower).curtain.state = .down) ∧
        (s.standingTrigger = none → state = .up →
          (outcome .test).curtain.state = .testing ∨ (outcome .test).curtain.state = .down)) ∧
      (state = .descending → refused .stop .descending) ∧
      (state = .up ∨ state = .stopped ∨ state = .down → refused .stop .state) ∧
      (state = .down ∨ state = .descending → outcome .drop = s.log (.demandTaken source .drop epoch)) ∧
      (s.standingTrigger = none → state = .lowering ∨ state = .raising ∨ state = .testing →
        (outcome .stop).curtain.state = .stopped ∧ (outcome .stop).curtain.raiseTimer = none ∧
        (outcome .stop).descent.motion = none ∧
        (outcome .stop).curtain.output = some ⟨true, some .normal, false⟩)) ∧
    (state = .up ∨ state = .stopped ∨ state = .lowering ∨ state = .testing ∨ state = .raising →
      let falls (t : State) (cause : DescentCause) : Prop :=
        t.curtain.cause = some cause ∧ (t.curtain.state = .descending ∨ t.curtain.state = .down) ∧
          t.curtain.raiseTimer = none ∧ ∃ o, t.curtain.output = some o ∧ o.motor = false
      falls (outcome .drop) .drop ∧
      (s.zoneTrigger = true → falls s.testTriggers .zone) ∧
      (s.zoneTrigger = false → s.alarm.stage = .evacuate → falls s.testTriggers .evacuate) ∧
      (s.zoneTrigger = false → s.alarm.stage ≠ .evacuate → s.curtain.view.buttonPressed = true →
        falls s.testTriggers .button)) ∧
    (state = .down ∨ state = .descending ∨ state = .driveLost ∨ state = .unconfigured → s.testTriggers = s)

/-- R95, R107, R114: a delivery of the ONLINE DRIVE module gives the limit and beam view and the position, a reading above
the overtravel allowance or both limits closed making it unknown; the first one after a loss clears DRIVE LOST and
derives the state from the limits and the triggers. With no trigger standing, R102: a beam that breaks in LOWERING or
TESTING stops the curtain and fails a test OBSTRUCTED; that it does so also where the same delivery meets completion, since
the controller judges a delivery before the supervisor takes its sample, is the model's choice (log entry 14), where R102
lets either be taken first. R103, R105: a top limit that closes in RAISING is UP, or STOPPED with the bottom limit closed
too. R105: both limits closed are the own cause of LIMIT MISMATCH, which stands while either
cause does. -/
def Obligations.DriveDeliveryGivesViewAndState : Prop :=
  ∀ (b : Bay) (inputs : DriveInputs) (s : State), s.power.running = true →
    (s.bay b).state = .online → (s.bay b).sensed = some .drive → s.curtain.state ≠ .none →
    s.curtain.state ≠ .unconfigured →
    let height := s.image.curtain.height
    let position := match inputs.reading with
      | some r => if r ≤ height then some r else if r ≤ height + 200 then some height else none
      | none => none
    let trigger := s.zoneTrigger = true ∨ s.alarm.stage = .evacuate ∨ inputs.buttonPressed = true
    ∃ u, completes (.driveDelivery b inputs) s u ∧ (u.bay b).missed = 0 ∧
      u = ((((s.withBay b (u.bay b)).withCurtain u.curtain).withDescent u.descent).withPanel
        u.panel).withComposer u.composer ∧
      u.curtain.view = ⟨inputs.topClosed, inputs.bottomClosed, inputs.beamBroken, inputs.buttonPressed⟩ ∧
      u.curtain.position = (if inputs.topClosed && inputs.bottomClosed then none else position) ∧
      u.curtain.delivery = some inputs ∧
      u.curtain.ownMismatch = (inputs.topClosed && inputs.bottomClosed) ∧
      u.stands .limitMismatch = (u.curtain.ownMismatch || u.curtain.supervisorMismatch) ∧
      (¬trigger → s.curtain.state = .lowering ∨ s.curtain.state = .testing → s.curtain.view.beamBroken = false →
        inputs.beamBroken = true →
        u.curtain.state = .stopped ∧ u.descent.motion = none ∧ u.curtain.output = some ⟨true, some .normal, false⟩ ∧
        (∃ e ∈ u.panel.log, e.event = .curtainObstructed u.curtain.position) ∧
        (s.descent.motion = some .testing → u.curtain.proof.verdict = .failed .obstructed)) ∧
      (¬trigger → s.curtain.state = .raising → s.curtain.view.topClosed = false → inputs.topClosed = true →
        u.curtain.state = (if inputs.bottomClosed then .stopped else .up) ∧ u.curtain.raiseTimer = none ∧
        u.curtain.output = some ⟨true, some .normal, false⟩ ∧ u.descent = s.descent) ∧
      (s.curtain.state = .driveLost →
        u.stands .driveLost = false ∧ u.curtain.reported = u.curtain.position ∧
        (inputs.bottomClosed = true → inputs.topClosed = false → u.curtain.state = .down) ∧
        (¬(inputs.bottomClosed = true ∧ inputs.topClosed = false) →
          (trigger → u.curtain.cause = some .recovery ∧
            (u.curtain.state = .descending ∨ inputs.bottomClosed = true ∧ u.curtain.state = .down)) ∧
          (¬trigger → u.curtain.state =
            if inputs.topClosed = true ∧ inputs.bottomClosed = false then .up else .stopped)))

/-- R103: the raise timer that expires in RAISING leaves the curtain STOPPED with RAISE TIMEOUT, unless a trigger stands.
R109: at the increment of node time that takes a proof past its period it no longer stands, PROOF EXPIRED is logged and
the curtain section is marked; that its row is such an increment, and has no effect where the next increment does not
bring it, is the model's (log entry 9), and that the entry comes before all others of the increment, which no rule
orders, is the model's choice (log entry 65). -/
def Obligations.RaiseAndProofRunOut : Prop :=
  ∀ s : State, s.power.running = true →
    (∀ expiry, s.curtain.state = .raising → s.curtain.raiseTimer = some expiry →
      ∃ u, completes .raiseTimeout s u ∧ u.stands .raiseTimeout = true ∧ u.curtain.raiseTimer = none ∧
        u.clock = { s.clock with now := max s.clock.now expiry } ∧
        (s.standingTrigger = none →
          u.curtain.state = .stopped ∧ u.curtain.output = some ⟨true, some .normal, false⟩ ∧
          u.descent = s.descent) ∧
        u = (((((s.withClock u.clock).withLines u.lines).withCurtain u.curtain).withDescent u.descent).withPanel
          u.panel).withComposer u.composer) ∧
    (
      let due : Prop := s.roles.curtain = true ∧ s.curtain.proof.verdict = .pass ∧
        s.station.nodeTime = s.curtain.proof.time + s.image.curtain.proofPeriod ∧ s.station.nodeTime < 4294967295
      (due → s.panel.log.length ≤ 32 →
        ∃ u newer, completes .proofExpired s u ∧ completes .nodeTimeIncrement s u ∧
          u.station = { s.station with nodeTime := s.station.nodeTime + 1 } ∧ u.proven = false ∧
          u.composer.changePending = true ∧
          u.panel.log = (s.panel.log ++
              (⟨s.panel.nextEntry, s.station.nodeTime + 1, .proofExpired, false⟩ : LogEntry) :: newer).drop
            (s.panel.log.length + 1 + newer.length - 32)) ∧
      (¬due → completes .proofExpired s s))

/-- R113, R114, R122, R125: a sample advances the count, holding at 65535, enters the history of 20 latest first, moves the
runs, and is added to the trace of a motion that owns the slot while its count is below 400. Its notices, a mismatch and a
stop apart, come in the order encoder, zone, overspeed, stall, completion, overtime. -/
def Obligations.SampleEntersHistoryAndTrace : Prop :=
  ∀ (c : CurtainSettings) (d : Supervisor) (reading : Option Nat) (bottom : Bool),
    let p := match reading with
      | some r => if r ≤ c.height then some r else if r ≤ c.height + 200 then some c.height else none
      | none => none
    let k := if d.k < 65535 then d.k + 1 else 65535
    let j := d.next c reading bottom
    let order : Notice → Option Nat := fun n => match n with
      | .raised .encoderLost _ _ _ => some 1
      | .cleared _ => some 1
      | .zone _ => some 3
      | .raised .overspeed _ _ _ => some 4
      | .raised .stall _ _ _ => some 5
      | .completion => some 6
      | .raised .overtime _ _ _ => some 7
      | .mismatch _ => none
      | .stop => none
    j.supervisor.k = k ∧ j.supervisor.history = (p :: d.history).take 20 ∧ j.supervisor.motion = d.motion ∧
      (p ≠ none → j.supervisor.validRun = d.validRun + 1 ∧ j.supervisor.missingRun = 0) ∧
      (p = none → j.supervisor.validRun = 0 ∧ j.supervisor.missingRun = min 2 (d.missingRun + 1)) ∧
      (∀ trace, d.ownsTrace = true → d.trace = some trace →
        ∃ trace' v, j.supervisor.trace = some trace' ∧ trace'.motion = trace.motion ∧ trace'.held = trace.held ∧
          trace'.startTime = trace.startTime ∧ trace'.finish = trace.finish ∧
          trace'.samples = if k < 400 then trace.samples ++ [⟨k, p, v⟩] else trace.samples) ∧
      (d.ownsTrace = false → j.supervisor.trace = d.trace) ∧
      (j.notices.filterMap order).Pairwise (· < ·)

/-- R116, R118, R94: the speed of a sample over the four intervals before it, truncated toward zero; the third known speed
in succession above the limit in force raises OVERSPEED, which in the main zone holds GOVERNOR at SLOW, and in LOWERING
stops the curtain unless the sample meets completion. -/
def Obligations.ThreeFastSamplesRaiseOverspeed : Prop :=
  (∀ (d : Supervisor) (p : Option Nat), d.k < 4 ∨ d.validRun < 5 ∨ p = none → d.speed p = none) ∧
  (∀ (d : Supervisor) (before now : Nat), 4 ≤ d.k → 5 ≤ d.validRun → d.encoderRaised = false →
    d.history[3]? = some (some before) →
    ∃ v : Int, d.speed (some now) = some v ∧
      (now ≤ before → v = (((before - now) * 10 / 4 : Nat) : Int)) ∧
      (before ≤ now → v = -(((now - before) * 10 / 4 : Nat) : Int)) ∧
      (before = now + 145 → v = 362) ∧ (now = before + 145 → v = -362)) ∧
  ∀ (s : State) (before now : Nat) (v : Int) (bottom : Bool),
    let d := s.descent
    d.encoderRaised = false → d.overspeed = false → d.overspeedRun = 2 → d.history[3]? = some (some before) →
    let c := s.image.curtain
    let limit := if d.motion = some .lowering ∨ (before < c.slowBoundary ∧ now < c.slowBoundary) then
      c.slowLimit else c.mainLimit
    let j := d.judgeOverspeed c (some now) (some v) bottom
    let t := s.takeJudged j
    (v ≤ limit → j.supervisor.overspeedRun = 0 ∧ j.supervisor.overspeed = false ∧ j.notices = []) ∧
    ((limit : Int) < v →
      j.supervisor.overspeedRun = 3 ∧ j.supervisor.overspeed = true ∧
      j.supervisor.firstReason = some (d.firstReason.getD .overspeed) ∧
      (s.curtain.state = .testing ∨ s.curtain.state = .descending →
        t.stands .overspeed = true ∧ t.curtain.state = s.curtain.state ∧
        (d.zone = some .main → t.curtain.output = some ⟨false, some .slow, false⟩)) ∧
      (s.curtain.state = .lowering → d.motion = some .lowering → s.standingTrigger = none →
        t.stands .overspeed = true ∧
        (bottom = false ∨ 20 < now → t.curtain.state = .stopped ∧ t.descent.motion = none) ∧
        (bottom = true → now ≤ 20 → t.curtain.state = .lowering)))

/-- R124, R109: a TESTING motion that ends writes the proof record by its end reason, and only an arrival within Tmax with
nothing raised is a PASS. -/
def Obligations.TestEndsWithItsVerdict : Prop :=
  ∀ (s : State) (reason : EndReason), s.descent.motion = some .testing →
    let d := s.descent
    let limit := s.image.curtain.descentLimit * 10
    let t := s.motionEnd reason
    t.descent.motion = none ∧ t.curtain.proof.time = s.station.nodeTime ∧
      t.curtain.proof.maxMain = d.maxMain ∧ t.curtain.proof.maxSlow = d.maxSlow ∧
      (t.curtain.proof.verdict = .pass ↔
        reason = .arrived ∧ d.descentTime ≤ limit ∧ d.firstReason = none) ∧
      (reason = .arrived → t.curtain.proof.descentTime = d.descentTime ∧
        (d.firstReason = some .encoderLost → t.curtain.proof.verdict = .failed .encoderLost) ∧
        (d.firstReason = some .overspeed → t.curtain.proof.verdict = .failed .overspeed) ∧
        (d.firstReason = some .stall → t.curtain.proof.verdict = .failed .stall) ∧
        (d.firstReason = some .overtime → t.curtain.proof.verdict = .failed .overtime)) ∧
      (reason ≠ .arrived → t.curtain.proof.descentTime = d.k) ∧
      (reason = .obstructed → t.curtain.proof.verdict = .failed .obstructed) ∧
      (reason = .demandStop ∨ reason = .trigger ∨ reason = .driveLost →
        t.curtain.proof.verdict = .aborted) ∧
      t.curtain.state = s.curtain.state ∧ t.curtain.output = s.curtain.output

/-- R126: RELEASE TRACE is accepted from any station and clears the held flag, with TRACE RELEASED where it was set; the
record stays. -/
def Obligations.ReleaseTraceClearsTheHeldFlag : Prop :=
  ∀ s : State, s.attends →
    (s.descent.trace = none ∨ (∃ trace, s.descent.trace = some trace ∧ trace.held = false) →
      answers .releaseTrace s s { code := .accepted }) ∧
    (∀ trace, s.descent.trace = some trace → trace.held = true →
      answers .releaseTrace s
        ((s.withDescent { s.descent with trace := some { trace with held := false } }).log .traceReleased)
        { code := .accepted })

/-! ### The Light Mixer -/

/-- R139: an output update, 20 ms on, takes each running fade one step, its level rounded to the nearest with halves away
from zero; the level stays between start and target and is the target at the last step. From which moment the 20 ms are
counted is the model's choice (log entry 95). -/
def Obligations.OutputUpdateStepsEveryFade : Prop :=
  (∀ s : State, s.power.running = true →
    ∃ u, completes .outputUpdate s u ∧
      u.clock = { s.clock with now := max s.clock.now (s.clock.outputAt + 20)
                               outputAt := max s.clock.now (s.clock.outputAt + 20) } ∧
      u = ((s.withClock u.clock).withLines u.lines).withGroups u.lights.groups ∧
      u.lights.groups.length = s.lights.groups.length ∧
      ∀ (i : Nat) (g : LightGroup), s.lights.groups[i]? = some g →
        ∃ g', u.lights.groups[i]? = some g' ∧
          ((g.fading = false ∨ g.target = none) → g' = g) ∧
          ∀ target, g.fading = true → g.target = some target →
            g' = { g with step := g.step + 1
                          fading := decide (g.step + 1 < g.steps)
                          output := fadeLevel g.start target (g.step + 1) g.steps }) ∧
  ∀ start target n steps : Nat, 0 < steps → n ≤ steps →
    let level := fadeLevel start target n steps
    (∃ moved,
      (start ≤ target → level = start + moved ∧ 2 * (target - start) * n < 2 * steps * moved + steps ∧
        2 * steps * moved ≤ 2 * (target - start) * n + steps) ∧
      (target ≤ start → level + moved = start ∧ 2 * (start - target) * n < 2 * steps * moved + steps ∧
        2 * steps * moved ≤ 2 * (start - target) * n + steps)) ∧
    min start target ≤ level ∧ level ≤ max start target ∧ fadeLevel start target steps steps = target

/-- R129, R130, R132: LIGHT CLAIM SET puts a claim in its slot, with a fade of 600 at most; LIGHT CLAIM CLEAR takes one out,
or all; at a LIGHTS station the own mixer's view follows, and nothing but lights and the mark changes. -/
def Obligations.LightClaimsFillAndLeaveTheirSlots : Prop :=
  ∀ s : State, s.attends → s.roles.desk = true → s.authorities.lights = true →
    let changed (u : State) (claims : List ClaimEntry) : Prop :=
      u.lights.claims = claims ∧ u = (s.withLights u.lights).mark ∧
        (s.roles.lights = false → u = (s.withLights { s.lights with claims := claims }).mark) ∧
        (s.roles.lights = true → ∀ slot, 1 ≤ slot → slot ≤ 8 →
          u.lights.claimOf ⟨s.own, slot⟩ = (claims.find? (·.slot == slot)).map (·.claim))
    (∀ slot group kind level fade, 1 ≤ slot → slot ≤ 8 → 1 ≤ group → group ≤ 16 →
      let entry : ClaimEntry := ⟨slot, ⟨group, kind, level.toNat, min 600 fade⟩⟩
      let code : AnswerCode := if 600 < fade then .clamped else .accepted
      (entry ∈ s.lights.claims →
        answers (.lightClaimSet slot group (some kind) level fade) s s { code := code }) ∧
      (entry ∉ s.lights.claims →
        ∃ u, answers (.lightClaimSet slot group (some kind) level fade) s u { code := code } ∧
          changed u (s.lights.claims.filter (·.slot < slot) ++
            entry :: s.lights.claims.filter (slot < ·.slot)))) ∧
    (∀ slot, 1 ≤ slot → slot ≤ 8 →
      ((∀ x ∈ s.lights.claims, x.slot ≠ slot) →
        answers (.lightClaimClear (.slot slot)) s s { code := .refusedState .notSet }) ∧
      ((∃ x ∈ s.lights.claims, x.slot = slot) →
        ∃ u, answers (.lightClaimClear (.slot slot)) s u { code := .accepted } ∧
          changed u (s.lights.claims.filter (·.slot ≠ slot)))) ∧
    (s.lights.claims = [] → answers (.lightClaimClear .all) s s { code := .accepted }) ∧
    (s.lights.claims ≠ [] →
      ∃ u, answers (.lightClaimClear .all) s u { code := .accepted } ∧ changed u [])

/-- R135, R136, R138, R141: out of the joining period a recomputed group's target is its base cut to its least CAP and
raised to its greatest floor, and 255 while the stage is EVACUATE; a changed target starts a fade from the present
output, of five steps for each tenth of a second. -/
def Obligations.TargetsFollowBaseFloorAndCap : Prop :=
  ∀ (s : State) (fade : Nat → Nat) (i : Nat) (g : LightGroup), s.lights.groups[i]? = some g →
    ∃ g' target, (s.recomputeAll fade).lights.groups[i]? = some g' ∧ g'.target = some target ∧
      (s.alarm.stage = .evacuate → target = 255) ∧
      (s.alarm.stage ≠ .evacuate →
        ∃ base floor cap, target = max floor (min base cap) ∧
          (g.precedence = [] → base = (s.phasePreset (i + 1)).level) ∧
          (∀ ref claim, g.precedence.head? = some ref → s.lights.claimOf ref = some claim →
            base = claim.level) ∧
          s.holdFloor (i + 1) ≤ floor ∧ (∀ x ∈ s.lights.levels .floor (i + 1), x ≤ floor) ∧
          (floor = s.holdFloor (i + 1) ∨ floor ∈ s.lights.levels .floor (i + 1)) ∧
          cap ≤ 255 ∧ (∀ x ∈ s.lights.levels .cap (i + 1), cap ≤ x) ∧
          (cap = 255 ∨ cap ∈ s.lights.levels .cap (i + 1))) ∧
      (g.target = some target → g'.output = g.output ∧ g'.fading = g.fading ∧ g'.step = g.step) ∧
      (g.target ≠ some target →
        (fade (i + 1) = 0 → g'.output = target ∧ g'.fading = false) ∧
        (0 < fade (i + 1) → g'.output = g.output ∧ g'.fading = true ∧ g'.start = g.output ∧ g'.step = 0 ∧
          g'.steps = 5 * fade (i + 1)))

/-! ### The Call Sequencer -/

/-- R146: CALL REQUEST is judged for authority and form; an accepted one advances the epoch of its slot and fills it, and a
desk without CALLS changes nothing else. -/
def Obligations.CallRequestTakesANewEpoch : Prop :=
  ∀ (slot message : Nat) (zones : List Nat) (repeats : Nat) (s : State), s.attends →
    let c : Instr := .callRequest slot message zones repeats
    ((s.roles.desk = false ∨ s.authorities.calls = false) → answers c s s { code := .noAuthority }) ∧
    (s.roles.desk = true → s.authorities.calls = true →
      (¬(1 ≤ slot ∧ slot ≤ 4) ∨ ¬(1 ≤ message ∧ message ≤ 200) ∨ zones = [] ∨ (∃ z ∈ zones, ¬(1 ≤ z ∧ z ≤ 16)) ∨
          ¬(1 ≤ repeats ∧ repeats ≤ 3) →
        answers c s s { code := .badRequest }) ∧
      (1 ≤ slot → slot ≤ 4 → 1 ≤ message → message ≤ 200 → zones ≠ [] → (∀ z ∈ zones, 1 ≤ z ∧ z ≤ 16) →
        1 ≤ repeats → repeats ≤ 3 →
        ∃ u, answers c s u { code := .accepted } ∧
          u.calls.requests = s.calls.requests.map (fun r =>
            if r.slot = slot then
              { r with epoch := r.epoch + 1
                       request := some { message := message, zones := fohSet zones, repeats := repeats
                                         epoch := r.epoch + 1 } }
            else r) ∧
          u = (((s.withCalls u.calls).withBays u.bays).withPanel u.panel).mark ∧
          (s.roles.calls = false →
            u = (s.withCalls { s.calls with requests := u.calls.requests }).mark)))

/-- R150, R151, R153: at the end of the gap the head of the queue starts on the modules that serve it and leaves the queue;
at the expiry of the staff repeat timer in ALERT the staff call plays and the timer runs for 30 s again. That a staff call
that no output serves stays due is the model's (log entry 13). -/
def Obligations.CallTimersStartTheirCalls : Prop :=
  ∀ (s : State) (expiry : Nat), s.power.running = true →
    let now := max s.clock.now expiry
    let frame (u : State) : Prop :=
      u = ((((s.withClock { s.clock with now := now }).withLines u.lines).withCalls u.calls).withBays
        u.bays).withPanel u.panel
    let plays (u : State) (set : PerBay Bool) (message : Nat) (zones : List Nat) : Prop :=
      ∀ b, u.bay b = if set.get b then
          { s.bay b with
            play := (s.bay b).play + 1
            commands := (s.bay b).commands ++ [.play ⟨message, s.outputsFor b zones, (s.bay b).play + 1⟩] }
        else s.bay b
    (s.calls.gap = some expiry →
      (s.calls.queue = [] →
        ∃ u, completes .gapExpiry s u ∧ frame u ∧ u.calls = { s.calls with gap := none } ∧
          u.bays = s.bays ∧ u.panel = s.panel) ∧
      ∀ e rest, s.roles.calls = true → s.calls.queue = e :: rest → s.calls.current = .none →
        s.alarm.stage ≠ .evacuate → s.calls.staffDue = false →
        let zones := s.playedZones e
        let set := bayset (s.serves zones)
        zones ≠ [] → anyBay set = true →
        ∃ u, completes .gapExpiry s u ∧ frame u ∧ u.calls.queue = rest ∧ u.calls.gap = none ∧
          u.calls.current = .queue { entry := e, zones := zones, bays := set } ∧
          u.calls.outstanding = set ∧ u.calls.counters = s.calls.counters ∧ plays u set e.message zones) ∧
    (s.calls.staffRepeat = some expiry →
      (s.alarm.stage ≠ .alert ∨ s.staffZones = [] →
        ∃ u, completes .staffRepeatExpiry s u ∧ frame u ∧ u.calls = { s.calls with staffRepeat := none } ∧
          u.bays = s.bays ∧ u.panel = s.panel) ∧
      (s.alarm.stage = .alert → s.staffZones ≠ [] → s.calls.current = .none →
        let set := bayset (s.serves s.staffZones)
        ∃ u, completes .staffRepeatExpiry s u ∧ frame u ∧ u.calls.staffRepeat = some (now + 30000) ∧
          u.calls.queue = s.calls.queue ∧ u.panel = s.panel ∧
          (anyBay set = true → u.calls.current = .staff ∧ u.calls.outstanding = set ∧
            u.calls.staffDue = false ∧ plays u set s.image.messages.staffAlert s.staffZones) ∧
          (anyBay set = false → u.calls.current = .none ∧ u.calls.staffDue = true ∧ u.bays = s.bays)))

/-- R151, R168: a play event under the bay's play number takes the bay out of the outstanding set, a player fault being
logged; the last one of a queue call's last repeat ends the call and starts the 2 s gap. An event under another number
changes nothing at the Call Sequencer. At the module the play of the event's number has ended; that its answer is taken as
the exchange reaching the module is the model's (log entry 26). -/
def Obligations.PlayEventsEmptyTheOutstandingSet : Prop :=
  ∀ (b : Bay) (play : Byte) (s : State), s.power.running = true →
    (s.bay b).state = .online → (s.bay b).sensed = some .call →
    let bay := s.bay b
    let playing := match bay.sent with
      | some (.callCommands commands) =>
        (match commands.getLast? with
          | some (.play p) => some p
          | some .stop => none
          | none => bay.playing)
      | _ => bay.playing
    let answered := s.withBay b { bay with
      missed := 0, sent := none, taken := bay.sent.orElse fun _ => bay.taken, reachedAt := s.clock.now
      playing := if playing.map (·.number) = some play then none else playing }
    let both (effect : State → Calls) : Prop :=
      completes (.playComplete b play) s (answered.withCalls (effect answered)) ∧
        completes (.playerFault b play) s
          ((answered.log (.callPlayerFault b)).withCalls (effect answered))
    ((s.bay b).play ≠ play ∨ s.calls.outstanding.get b = false →
      completes (.playComplete b play) s answered ∧ completes (.playerFault b play) s answered) ∧
    ((s.bay b).play = play → s.calls.outstanding.get b = true →
      let left := s.calls.outstanding.set b false
      ((∃ x, left.get x = true) → both fun t => { t.calls with outstanding := left }) ∧
      (∀ call, (∀ x, left.get x = false) → s.calls.current = .queue call → call.entry.repeats ≤ 1 →
        s.calls.drain = false →
        both fun t => { t.calls with outstanding := ⟨false, false, false, false⟩, current := .none
                                     gap := some (s.clock.now + 2000) }))

/-! ### The Bay Controller -/

/-- R159, R160, R163: a first presence settles an EMPTY bay for 500 ms, and a module that rocks is debounced in use; at the
expiry a wanted module is powered with the supplies of its type and 2 s to answer, an unwanted one FAILS, and a half
seated one is MISSEATED. R163, R165: a removal empties the bay at once, and a module still half seated at the expiry of
its rocking is MISSEATED; either has every supply off, and a lost notice of an ONLINE bay names its cause. That MODULE
REMOVED stands after the clearing of the bay's key in the log, which no rule orders, is the model's choice (log entry 78). -/
def Obligations.SeatingFollowsTheDebounce : Prop :=
  ∀ (b : Bay) (s : State), s.power.running = true →
    let bay := s.bay b
    let only (u : State) (record : BayRecord) : Prop :=
      u = (((s.withClock u.clock).withLines u.lines).withBay b record).withPanel u.panel ∨
        u = ((((s.withClock u.clock).withLines u.lines).withBay b record).withPanel u.panel).mark
    (∀ p, bay.state = .empty → bay.presence = .none → p ≠ .none →
      ∃ u, completes (.presenceChange b p) s u ∧ u.clock = s.clock ∧
        only u { bay with state := .settling, presence := p, debounce := some (s.clock.now + 500) }) ∧
    (bay.state = .online ∨ bay.state = .powering →
      (bay.presence = .both →
        completes (.presenceChange b .one) s (s.withBay b { bay with
          presence := .one, debounce := some (s.clock.now + 500) })) ∧
      (bay.presence = .one →
        completes (.presenceChange b .both) s (s.withBay b { bay with presence := .both, debounce := none }))) ∧
    (∀ p, bay.presence = p → completes (.presenceChange b p) s s) ∧
    (∀ expiry (sense : ModuleType), bay.state = .settling → bay.debounce = some expiry →
      let now := max s.clock.now expiry
      (bay.presence = .both → s.wanted b sense = true →
        ∃ u, completes (.debounceExpiry b sense) s u ∧ u.clock = { s.clock with now := now } ∧
          only u { bay with
            state := .powering, sensed := some sense, debounce := none, ready := some (now + 2000)
            supplies := ⟨true, sense == .loop, sense == .drive || sense == .call⟩ }) ∧
      (bay.presence = .both → s.wanted b sense = false →
        ∃ u, completes (.debounceExpiry b sense) s u ∧ (u.bay b).state = .failed ∧
          (u.bay b).reason = some .unwanted ∧ (u.bay b).supplies = ⟨false, false, false⟩ ∧
          u.stands (.bayFailed b) = true ∧ only u (u.bay b)) ∧
      (bay.presence = .one →
        ∃ u, completes (.debounceExpiry b sense) s u ∧ (u.bay b).state = .misseated ∧
          (u.bay b).supplies = ⟨false, false, false⟩ ∧ u.stands (.bayMisseated b) = true ∧ only u (u.bay b))) ∧
    (bay.state = .powering ∨ bay.state = .online ∨ bay.state = .failed → bay.presence ≠ .none →
      ∃ u, completes (.presenceChange b .none) s u ∧ (u.bay b).state = .empty ∧ (u.bay b).presence = .none ∧
        (u.bay b).sensed = none ∧ (u.bay b).reason = none ∧ (u.bay b).debounce = none ∧ (u.bay b).ready = none ∧
        (u.bay b).supplies = ⟨false, false, false⟩ ∧ u.stands (.bayMisseated b) = false ∧
        u.stands (.bayFailed b) = false ∧ u.clock = s.clock ∧ u.peers = s.peers ∧ u.phase = s.phase ∧
        u.station = s.station ∧
        (bay.state = .online → (u.bay b).lost = some .removed) ∧
        (bay.state ≠ .online → u.panel.log.getLast?.map (·.event) = some (.moduleRemoved b) ∧
          only u (u.bay b))) ∧
    ∀ expiry (sense : ModuleType), bay.state = .powering ∨ bay.state = .online → bay.presence = .one →
      bay.debounce = some expiry →
      ∃ u, completes (.debounceExpiry b sense) s u ∧ (u.bay b).state = .misseated ∧ (u.bay b).presence = .one ∧
        (u.bay b).debounce = none ∧ (u.bay b).ready = none ∧ (u.bay b).supplies = ⟨false, false, false⟩ ∧
        u.stands (.bayMisseated b) = true ∧ u.clock = { s.clock with now := max s.clock.now expiry } ∧
        u.peers = s.peers ∧ u.phase = s.phase ∧ u.station = s.station ∧
        (bay.state = .online → (u.bay b).lost = some .misseated) ∧
        (bay.state = .powering → only u (u.bay b))

/-- R161, R162, R164: a ready answer of the sensed type brings a POWERING bay ONLINE, is logged and begins the first
exchange, whose part for a CALL module holds the commands that the online notice gave (the model's order, log entry
80); one of another type fails the bay; the ready timer, an overcurrent, and the third exchange without answer fail a bay for their reasons. A failed
bay has every supply off and its key standing. R165: a lost notice of an ONLINE bay names its cause. -/
def Obligations.ReadyAnswerOrFailure : Prop :=
  ∀ (b : Bay) (s : State), s.power.running = true →
    let bay := s.bay b
    let fails (c : Instr) (reason : FailureReason) (lost : Option LostCause) : Prop :=
      ∃ u, completes c s u ∧ (u.bay b).state = .failed ∧ (u.bay b).reason = some reason ∧
        (u.bay b).supplies = ⟨false, false, false⟩ ∧ (u.bay b).debounce = none ∧ (u.bay b).ready = none ∧
        u.stands (.bayFailed b) = true ∧ u.peers = s.peers ∧ u.phase = s.phase ∧ u.station = s.station ∧
        u.alarm.generation = s.alarm.generation ∧ (bay.state = .online → (u.bay b).lost = lost)
    (bay.state = .powering →
      (∀ type, bay.sensed = some type →
        ∃ u, completes (.readyAnswer b type) s u ∧ (u.bay b).state = .online ∧ (u.bay b).ready = none ∧
          (u.bay b).missed = 0 ∧ (u.bay b).supplies = bay.supplies ∧ (u.bay b).commands = [] ∧
          (match type with
            | .loop => (u.bay b).sent = some .loopRequest ∧ (u.bay b).exchangeAt = s.clock.now + 500
            | .drive =>
              (u.bay b).sent = some (.driveOutputs u.curtain.output) ∧ (u.bay b).exchangeAt = s.clock.now + 100
            | .dimmer =>
              (u.bay b).sent = some (.dimmerLevels (s.channelLevels b)) ∧ (u.bay b).exchangeAt = s.clock.now + 20
            | .call =>
              (∃ commands, (u.bay b).sent = some (.callCommands commands)) ∧
                (u.bay b).exchangeAt = s.clock.now + 100) ∧
          u.peers = s.peers ∧ u.phase = s.phase ∧ u.station = s.station ∧ u.alarm = s.alarm ∧ u.clock = s.clock ∧
          (type ≠ .call → u.panel.log.getLast?.map (·.event) = some (.moduleOnline b type))) ∧
      (∀ type, bay.sensed ≠ some type → fails (.readyAnswer b type) .wrongType none) ∧
      (∀ expiry, bay.ready = some expiry → fails (.readyTimerExpiry b) .noAnswer none)) ∧
    (bay.state = .powering ∨ bay.state = .online → ∀ supply,
      fails (.overcurrent b supply) .overcurrent (some .overcurrent)) ∧
    (bay.state = .online → bay.missed = 2 → fails (.exchangeNoAnswer b) .linkLost (some .linkLost))

/-- R164, R166 to R168: an exchange carries the controller's part of the type and ends its commands; an answer sets the
missed run to 0 and an exchange without one raises it. What reaches the module is what it takes, and the last of the
commands is what it plays; that an answered exchange has reached it, and that one without answer may have, is the model's
(log entry 26). R166 to R168, in every state of the bay: a DIMMER module shows the levels that it took last while its LOGIC
supply is on, and 0 while it is off; without its FIELD supply a DRIVE module releases HOLD and the motor and a CALL module
plays nothing; powered, the DRIVE module presents the set taken, and after 300 ms without an exchange HOLD and the motor of
it are off. -/
def Obligations.ExchangesCarryAndAreAnswered : Prop :=
  ∀ (b : Bay) (s : State),
    let bay := s.bay b
    let at' := max s.clock.now bay.exchangeAt
    let carries (type : ModuleType) (part : ControllerPart) (period : Nat) : Prop :=
      bay.sensed = some type →
        ∃ u, completes (.bayExchange b) s u ∧
          u = ((s.withClock { s.clock with now := at' }).withLines u.lines).withBay b
            { bay with sent := some part, commands := [], exchangeAt := at' + period }
    let reached : BayRecord := { bay with
      sent := none, taken := bay.sent.orElse fun _ => bay.taken, reachedAt := s.clock.now
      playing := match bay.sent with
        | some (.callCommands commands) =>
          (match commands.getLast? with
            | some (.play p) => some p
            | some .stop => none
            | none => bay.playing)
        | _ => bay.playing }
    let answered := s.withBay b { reached with missed := 0 }
    (s.power.running = true → bay.state = .online →
      carries .loop .loopRequest 500 ∧ carries .drive (.driveOutputs s.curtain.output) 100 ∧
      carries .dimmer (.dimmerLevels (s.channelLevels b)) 20 ∧
      carries .call (.callCommands bay.commands) 100 ∧
      (bay.sensed = some .dimmer → completes (.dimmerAcknowledgement b) s answered) ∧
      (bay.sensed = some .call → completes (.callExchangeAnswer b) s answered) ∧
      (bay.sensed ≠ some .drive → bay.missed < 2 →
        completes (.exchangeNoAnswer b) s ((s.withBay b { (if Config.exchangeReached s.draws then reached
          else { bay with sent := none }) with missed := bay.missed + 1 }).withDraws (s.draws + 1)))) ∧
      (bay.supplies.logic = false → s.dimmerPresents b = [0, 0, 0, 0, 0, 0, 0, 0]) ∧
      (bay.supplies.logic = true → ∀ levels, bay.taken = some (.dimmerLevels levels) →
        s.dimmerPresents b = levels) ∧
      (bay.supplies.field = false → s.callPresents b = none ∧ (s.drivePresents b).hold = false ∧
        (s.drivePresents b).motor = false) ∧
      (bay.supplies.field = true → s.callPresents b = bay.playing ∧
        ∀ o, bay.taken = some (.driveOutputs (some o)) →
          s.drivePresents b =
            if bay.reachedAt + 300 ≤ s.clock.now then ⟨false, some (o.governor.getD .normal), false⟩
            else ⟨o.hold, some (o.governor.getD .normal), o.motor⟩)

/-! ### The Panel Port -/

/-- R170, R171, R176: a complete answer ends the transaction and marks the log entry that it read if that is the oldest
unread one; one cut short, and a select released early, mark nothing; an unknown request is BAD_REQUEST; and no request
reaches its owner while the station is STARTING or UNCONFIGURED. That a station in reset is STARTING too, where all of it
holds with no composition to follow, is the model's inference (log entry 5). An answer is clocked out from its start byte
of 0, and without one, and after it, the port clocks out the idle pattern of 255; that each field of the header is one item
is the model's (log entry 45). -/
def Obligations.TransactionsEndAtThePort : Prop :=
  ∀ s : State,
    let ends (c : Instr) (u : State) : Prop := exec c s = .next (if s.power.running then u.settle else u)
    let ended := s.withPanel { s.panel with transaction := none }
    ends .answerCutShort ended ∧ ends .selectReleasedEarly ended ∧
    (s.panel.transaction.bind (·.logEntry) = none → ends .answerComplete ended) ∧
    (∀ n, s.panel.transaction.bind (·.logEntry) = some n →
      ((∃ oldest, s.panel.log.find? (fun e => !e.read) = some oldest ∧ oldest.number = n) →
        ends .answerComplete (s.withPanel { s.panel with
          transaction := none
          log := s.panel.log.map fun e => if e.number = n then { e with read := true } else e })) ∧
      ((∀ oldest, s.panel.log.find? (fun e => !e.read) = some oldest → oldest.number ≠ n) →
        ends .answerComplete ended)) ∧
    ends .unknownRequest (s.judged (.request { code := .badRequest }) none) ∧
    (∀ body entry, (s.judged body entry).panel.transaction = some ⟨body, s.unread, s.station.standing, entry⟩) ∧
    (s.panel.transaction = none → ∀ n, s.portOutput n = .idle 255) ∧
    (∀ answer, s.panel.transaction = some answer →
      s.portOutput 0 = .start 0 ∧ s.portOutput 2 = .unread answer.unread ∧
        s.portOutput 3 = .standing answer.standing ∧ s.portOutput 4 = .body answer.body ∧
        (∀ n, 5 ≤ n → s.portOutput n = .idle 255) ∧
        (∀ given, answer.body = .request given → s.portOutput 1 = .code given.code) ∧
        (∀ record, answer.body = .present record → s.portOutput 1 = .flag true) ∧
        (answer.body = .notPresent → s.portOutput 1 = .flag false)) ∧
    (s.station.standing = .starting ∨ s.station.standing = .unconfigured →
      ∀ c, isRequest c = true → ends c (s.judged (.request { code := .badRequest }) none))

/-- R173, R171: READ RECORD answers with the record of its kind and index, or NOT_PRESENT, and changes nothing but the
transaction; while the standing is STARTING, which the model takes a station in reset to be (log entry 5), every record is
NOT_PRESENT; which records are absent, by the table. R112, R173: the curtain record shows the controller, its flags and
the per-motion items, which are in this record by the model's inference (log entry 62). -/
def Obligations.ReadRecordShowsWithoutChange : Prop :=
  ∀ (s : State),
    let ends (c : Instr) (u : State) : Prop := exec c s = .next (if s.power.running then u.settle else u)
    (∀ name, s.station.standing ≠ .starting →
      ends (.readRecord name) (s.judged (bodyOf (s.recordOf name)) (entryRead (s.recordOf name)))) ∧
    (∀ name, s.station.standing = .starting → ends (.readRecord name) (s.judged .notPresent none)) ∧
    (∀ n, ((s.recordOf (.ownStatus n)).isSome ↔ n = 0)) ∧
    (∀ n, ((s.recordOf (.peer n)).isSome ↔ ∃ r ∈ s.peers.records, r.station = n)) ∧
    (∀ z, ((s.recordOf (.mergedZone z)).isSome ↔ 1 ≤ z ∧ z ≤ 64)) ∧
    (∀ n, ((s.recordOf (.alarmOrder n)).isSome ↔ n < s.alarm.order.length)) ∧
    (∀ n, ((s.recordOf (.snapshot n)).isSome ↔ n = 0 ∧ s.alarm.snapshot.isSome)) ∧
    (∀ n, ((s.recordOf (.curtainSection n)).isSome ↔
      n = 0 ∧ (s.roles.curtain = true ∨ s.station.standing = .unconfigured))) ∧
    (s.roles.curtain = true ∨ s.station.standing = .unconfigured →
      ∃ m : MotionItems, s.recordOf (.curtainSection 0) = some (.curtain s.curtain s.curtainFlags m) ∧
        m.motion = s.descent.motion ∧ m.k = s.descent.k ∧ m.zone = s.descent.zone ∧
        m.firstReason = s.descent.firstReason ∧ m.completed = s.descent.completed ∧
        m.maxMain = s.descent.maxMain ∧ m.maxSlow = s.descent.maxSlow) ∧
    (∀ n, ((s.recordOf (.traceSample n)).isSome ↔
      ∃ t, s.descent.trace = some t ∧ n < t.samples.length)) ∧
    (∀ g, s.lights.groups.length = 16 →
      ((s.recordOf (.lightGroup g)).isSome ↔ s.roles.lights = true ∧ 1 ≤ g ∧ g ≤ 16)) ∧
    (∀ n, ((s.recordOf (.callQueue n)).isSome ↔ s.roles.calls = true ∧ n < s.calls.queue.length)) ∧
    (∀ n, ((s.recordOf (.bay n)).isSome ↔ 1 ≤ n ∧ n ≤ 4)) ∧
    (∀ n, ((s.recordOf (.faultList n)).isSome ↔ n < s.panel.faults.length)) ∧
    (∀ n, ((s.recordOf (.incidentLog (.position n))).isSome ↔ n < s.panel.log.length)) ∧
    ((s.recordOf (.incidentLog .nextUnread)).isSome ↔ 0 < s.unread) ∧
    (∀ n, ((s.recordOf (.counters n)).isSome ↔ n = 0 ∨ ∃ r ∈ s.peers.records, r.station = n)) ∧
    s.recordOf .unknown = none

/-! ### Starts and reset -/

/-- R182, R183, R185: a power-on, and a RESET or a supply dip with RETAIN low or a failed store, starts cold from the image
that is read, with restart count 1 where the store fails its check, as one that a fall left failing goes on doing until a
start writes it anew; with RETAIN high and a good store the start is warm and keeps the retained records: node time,
image, phase view, alarm records, zone latches with manual marks and onset tallies, proof and descents count, the trace, light output
levels (255 in EVACUATE), call counters, line counters (R32) and the incident log, which takes its START entry. A start that
comes no further than a step of R185 is STARTING and in progress, ATTN released until its START entry (R176): its count is
written back from the third step on (R33), its records are set from the fourth, and before that the store is as it was.
How far it comes is an operand of the model, which puts every block's values in place with the records (log entry 92). -/
def Obligations.StartIsColdOrWarm : Prop :=
  ∀ (s : State) (memory : ConfigMemory) (presence : PerBay Presence) (good retain : Bool),
    let started (u : State) (memory : ConfigMemory) (storeGood : Bool) : Prop :=
      u.power = ⟨true, false, true, true, none⟩ ∧ u.station.config = validate memory ∧ u.station.joining = true ∧
        u.station.joiningUntil = s.clock.now + 3500 ∧
        u.station.standing = (if (validate memory).failure = none then .joining else .unconfigured) ∧
        u.composer.restartCount = (if storeGood then s.composer.restartCount + 1 else 1) ∧
        u.composer.sequence = 1 ∧ u.pending = s.pending ∧ u.clock.now = s.clock.now ∧
        (∀ n, (∃ r ∈ u.peers.records, r.station = n) ↔ 1 ≤ n ∧ n ≤ 40 ∧ n ≠ u.own) ∧
        (∀ r ∈ u.peers.records, r.state = .absent ∧ r.lastReport = none) ∧
        u.calls.queue = [] ∧ u.detection.windows = [] ∧ u.detection.copies = [] ∧
        u.alarm.disablements = [] ∧ u.lights.claims = [] ∧ u.curtain.demandKind = none ∧
        u.curtain.output = none ∧ u.descent.motion = none
    let cold (u : State) (storeGood : Bool) : Prop :=
      started u memory storeGood ∧ u.station.nodeTime = 0 ∧
        u.phase = ⟨.closed, false, 0, 0, 0, 0⟩ ∧ u.alarm.generation = 0 ∧ u.alarm.stage = .quiet ∧
        u.alarm.order = [] ∧ u.alarm.snapshot = none ∧ u.curtain.proof.verdict = .none ∧
        u.curtain.descents = 0 ∧ u.descent.trace = none ∧ u.alarm.cause = none ∧ u.alarm.realarmEnd = none ∧
        u.calls.counters = ⟨0, 0, 0, 0, 0⟩ ∧
        (∀ r ∈ u.detection.zones, r.latch = false ∧ r.manual = false ∧ r.onsets = 0) ∧
        (∀ g ∈ u.lights.groups, g.output = 0) ∧
        (∀ l, (u.line l).goodFrames = 0 ∧ (u.line l).crcFailures = 0 ∧ (u.line l).superseded = 0) ∧
        u.panel.log.head? = some ⟨0, 0, .start .cold u.composer.restartCount, false⟩
    let warm (u : State) : Prop :=
      started u s.station.memory true ∧ u.station.nodeTime = s.station.nodeTime ∧
        u.station.memory = s.station.memory ∧ u.phase = s.phase ∧
        u.alarm.generation = s.alarm.generation ∧ u.alarm.stage = s.alarm.stage ∧
        u.alarm.order = s.alarm.order ∧ u.alarm.snapshot = s.alarm.snapshot ∧ u.alarm.ack = s.alarm.ack ∧
        u.alarm.silence = s.alarm.silence ∧ u.curtain.proof = s.curtain.proof ∧
        u.curtain.descents = s.curtain.descents ∧ u.calls.counters = s.calls.counters ∧
        u.descent.trace = (s.descent.trace.map fun trace =>
          if trace.finish = .inProgress then { trace with finish := .restart } else trace) ∧
        u.alarm.cause = s.alarm.cause ∧
        u.alarm.realarmEnd = s.alarm.realarmEnd.filter (fun e => s.station.nodeTime < e) ∧
        (∀ r ∈ u.detection.zones, ∀ old, s.zone r.zone = some old →
          r.latch = old.latch ∧ r.manual = old.manual ∧ r.onsets = old.onsets) ∧
        (∀ (i : Nat) (g old : LightGroup), u.lights.groups[i]? = some g → s.lights.groups[i]? = some old →
          g.output = if s.alarm.stage = .evacuate then 255 else old.output) ∧
        (∀ l, (u.line l).goodFrames = (s.line l).goodFrames ∧ (u.line l).crcFailures = (s.line l).crcFailures ∧
          (u.line l).superseded = (s.line l).superseded) ∧
        (s.panel.log.length ≤ 32 →
          ∃ newer, u.panel.log = (s.panel.log ++
            (⟨s.panel.nextEntry, s.station.nodeTime, .start .warm u.composer.restartCount, false⟩ : LogEntry) ::
              newer).drop
            (s.panel.log.length + 1 + newer.length - 32))
    let inProgress (u : State) (kind : StartKind) (storeGood : Bool) (k : StartStep) : Prop :=
      let count : Byte := if storeGood then s.composer.restartCount + 1 else 1
      u.power = ⟨true, false, false, decide (4 ≤ k.number) || storeGood, some ⟨kind, memory, presence, k⟩⟩ ∧
        u.station.standing = .starting ∧ u.pending = s.pending ∧ u.clock.now = s.clock.now ∧
        u.composer.restartCount = (if 3 ≤ k.number then count else s.composer.restartCount) ∧
        (u.attn = true ↔ 5 ≤ k.number) ∧
        (k.number ≤ 3 →
          u.station.memory = s.station.memory ∧ u.station.config = s.station.config ∧
          u.station.nodeTime = s.station.nodeTime ∧ u.phase = s.phase ∧ u.alarm = s.alarm ∧
          u.detection = s.detection ∧ u.descent = s.descent ∧ u.lights = s.lights ∧ u.calls = s.calls ∧
          u.curtain.proof = s.curtain.proof ∧ u.curtain.descents = s.curtain.descents ∧
          u.panel.log = s.panel.log ∧ u.panel.nextEntry = s.panel.nextEntry) ∧
        (4 ≤ k.number → kind = .cold →
          u.station.memory = memory ∧ u.station.config = validate memory ∧ u.station.nodeTime = 0 ∧
          u.phase = ⟨.closed, false, 0, 0, 0, 0⟩ ∧ u.alarm.generation = 0 ∧ u.curtain.proof.verdict = .none ∧
          (k = .recordsSet → u.panel.log = []) ∧
          (k = .startLogged → u.panel.log = [⟨0, 0, .start .cold count, false⟩])) ∧
        (4 ≤ k.number → kind = .warm →
          u.station.memory = s.station.memory ∧ u.station.config = validate s.station.memory ∧
          u.station.nodeTime = s.station.nodeTime ∧ u.phase = s.phase ∧ u.alarm.generation = s.alarm.generation ∧
          u.alarm.stage = s.alarm.stage ∧ u.curtain.proof = s.curtain.proof ∧
          (k = .recordsSet → u.panel.log = s.panel.log) ∧
          (k = .startLogged → s.panel.log.length < 32 →
            u.panel.log = s.panel.log ++ [⟨s.panel.nextEntry, s.station.nodeTime, .start .warm count, false⟩]))
    let byRetain (c : Option StartStep → Instr) : Prop :=
      (∃ u, exec (c none) s = .next u ∧
        (retain = true → s.power.storeGood = true → warm u) ∧
        (retain = false ∨ s.power.storeGood = false → cold u s.power.storeGood)) ∧
      ∀ k, ∃ u, exec (c (some k)) s = .next u ∧
        (retain = true → s.power.storeGood = true → inProgress u .warm true k) ∧
        (retain = false ∨ s.power.storeGood = false → inProgress u .cold s.power.storeGood k)
    (s.power.resetAsserted = false →
      (∃ u, exec (.powerOn good memory ⟨presence, none⟩) s = .next u ∧ cold u (s.power.storeGood && good)) ∧
      (∀ k, ∃ u, exec (.powerOn good memory ⟨presence, some k⟩) s = .next u ∧
        inProgress u .cold (s.power.storeGood && good) k) ∧
      byRetain fun reached => .supplyDip retain memory ⟨presence, reached⟩) ∧
    (s.power.supply = true → byRetain fun reached => .resetReleased retain memory ⟨presence, reached⟩)

/-- R182: RESET asserted, or supply fallen, holds the station in reset with its bays unpowered, its drive not commanded and
nothing to send, abandons a start in progress with what its steps have left, and keeps the retained records; a supply that
falls beyond the store's own loses the store. That the station notes whether the curtain was proven then (log entry 44), and takes no event of its lines, timers and bays in
reset (log entry 5), is the model's. -/
def Obligations.ResetHoldsTheStation : Prop :=
  ∀ s : State,
    let held (u : State) : Prop :=
      u.power.running = false ∧ u.power.start = none ∧ u.attn = false ∧ u.curtain.output = none ∧
        (∀ b, (u.bay b).supplies = ⟨false, false, false⟩ ∧ (u.bay b).state = .empty) ∧
        (∀ l, (u.line l).slot = none ∧ (u.line l).inFlight = none ∧ (u.line l).transmitter = .idle) ∧
        u.pending = s.pending ∧ u.phase = s.phase ∧
        u.station = { s.station with
          standing := .starting
          provenAtStop := if s.power.running then s.proven else s.station.provenAtStop } ∧
        u.alarm = s.alarm ∧ u.detection = s.detection ∧ u.lights = s.lights ∧ u.descent = s.descent ∧
        u.curtain.proof = s.curtain.proof ∧ u.calls = s.calls ∧ u.composer = s.composer ∧
        u.panel.log = s.panel.log ∧ u.clock = s.clock
    (∃ u, exec .resetAsserted s = .next u ∧ held u ∧ u.power.resetAsserted = true ∧
      u.power.storeGood = s.power.storeGood) ∧
    (∀ intact, ∃ u, exec (.supplyFall intact) s = .next u ∧ held u ∧ u.power.supply = false ∧
      u.power.storeGood = (s.power.storeGood && intact)) ∧
    (s.power.running = false → ∀ c, isOwnEvent c = true → exec c s = .next s)
end

