-- ==== Sys2Proof/Laws/Panel.lean ====
section
/-! SUPPORT. What the marks, the incident log and the fault list can do: the ring keeps its form, keys stay distinct, and
only the key that is raised or cleared changes its standing. -/

namespace Sys2Proof.Machine

/-! ### The ring (R175, R176) -/

/-- Appending the next entry to a ring with room, or to one whose oldest entry went. -/
theorem ringGood_append {older : List LogEntry} {next : Half} (e : LogEntry) (hnumber : e.number = next)
    (hread : e.read = false) (hlen : older.length < Config.logSize)
    (hn : ∀ i x, older[i]? = some x → x.number + BitVec.ofNat 16 (older.length - i) = next)
    (hu : older.Pairwise fun x y => x.read = false → y.read = false) :
    (older ++ [e]).length ≤ Config.logSize ∧
      (∀ i x, (older ++ [e])[i]? = some x → x.number + BitVec.ofNat 16 ((older ++ [e]).length - i) = next + 1) ∧
      (older ++ [e]).Pairwise fun x y => x.read = false → y.read = false := by
  simp only [show Config.logSize = 32 from rfl] at *
  refine ⟨by simp; omega, ?_, ?_⟩
  · intro i x hx
    rcases Nat.lt_trichotomy i older.length with hi | hi | hi
    · rw [List.getElem?_append_left hi] at hx
      have := hn i x hx
      rw [List.length_append, List.length_singleton, ← this,
        show older.length + 1 - i = (older.length - i) + 1 by omega, BitVec.ofNat_add, BitVec.add_assoc]
      rfl
    · subst hi
      simp only [List.getElem?_concat_length, Option.some.injEq] at hx
      subst hx
      simp [hnumber]
    · rw [List.getElem?_eq_none (by simp; omega)] at hx; cases hx
  · rw [List.pairwise_append]
    exact ⟨hu, List.pairwise_singleton _ _, by simp [hread]⟩

theorem ringGood_push {p : Panel} (h : p.ringGood) (time : Nat) (event : LogEvent) :
    Panel.ringGood { p with
      log := (if p.log.length < Config.logSize then p.log else p.log.drop 1) ++
        [({ number := p.nextEntry, time := time, event := event, read := false } : LogEntry)]
      nextEntry := p.nextEntry + 1 } := by
  obtain ⟨hl, hn, hu⟩ := h
  by_cases hlen : p.log.length < Config.logSize
  · simp only [Panel.ringGood, Panel.numbered, Panel.unreadNewest, if_pos hlen]
    exact ringGood_append _ rfl rfl hlen hn hu
  · simp only [Panel.ringGood, Panel.numbered, Panel.unreadNewest, if_neg hlen]
    refine ringGood_append _ rfl rfl (by simp [Config.logSize] at *; omega) (fun i x hx => ?_)
      (hu.sublist (List.drop_sublist 1 _))
    rw [List.getElem?_drop] at hx
    have := hn (1 + i) x hx
    rw [List.length_drop, show p.log.length - 1 - i = p.log.length - (1 + i) by omega]
    exact this

/-! ### What a panel operation can do -/

/-- The panel after some log entries and changes of the fault keys `K`. -/
structure PanelMoves (K : FaultKey → Prop) (p q : Panel) : Prop where
  ring : p.ringGood → q.ringGood
  keys : p.keysDistinct → q.keysDistinct
  others : ∀ key, ¬K key → (q.faults.any fun e => e.key == key) = p.faults.any fun e => e.key == key
  transaction : q.transaction = p.transaction

theorem PanelMoves.refl {K : FaultKey → Prop} (p : Panel) : PanelMoves K p p := ⟨id, id, fun _ _ => rfl, rfl⟩

theorem PanelMoves.trans {K : FaultKey → Prop} {p q r : Panel} (h : PanelMoves K p q) (h' : PanelMoves K q r) :
    PanelMoves K p r :=
  ⟨h'.ring ∘ h.ring, h'.keys ∘ h.keys, fun key hk => (h'.others key hk).trans (h.others key hk),
    h'.transaction.trans h.transaction⟩

theorem PanelMoves.mono {K L : FaultKey → Prop} {p q : Panel} (h : PanelMoves K p q) (hs : ∀ k, K k → L k) :
    PanelMoves L p q :=
  ⟨h.ring, h.keys, fun key hk => h.others key fun h' => hk (hs key h'), h.transaction⟩

/-! ### Log -/

theorem log_eq (s : State) (e : LogEvent) : s.log e = s.withPanel (s.log e).panel := rfl

theorem log_moves (K : FaultKey → Prop) (s : State) (e : LogEvent) : PanelMoves K s.panel (s.log e).panel :=
  ⟨fun h => ringGood_push h _ _, id, fun _ _ => rfl, rfl⟩

@[simp] theorem log_faults (s : State) (e : LogEvent) : (s.log e).panel.faults = s.panel.faults := rfl

@[simp] theorem log_stands (s : State) (e : LogEvent) (k : FaultKey) : (s.log e).stands k = s.stands k := rfl

/-- The newest entry is the one just made. -/
theorem log_newest (s : State) (e : LogEvent) :
    (s.log e).panel.log.getLast? =
      some ({ number := s.panel.nextEntry, time := s.nodeTime, event := e, read := false } : LogEntry) := by
  simp [State.log, State.withPanel]

/-! ### Faults -/

theorem withFaults_eq (s : State) (faults : List FaultEntry) :
    s.withFaults faults = (s.withPanel { s.panel with faults := faults }) ∨
      s.withFaults faults = (s.withPanel { s.panel with faults := faults }).mark := by
  unfold State.withFaults State.markIf
  split <;> simp

/-- The composer, as it was or with a change pending. -/
def Marked (c d : Composer) : Prop := d = c ∨ d = { c with changePending := true }

theorem Marked.refl (c : Composer) : Marked c c := .inl rfl

theorem Marked.trans {c d e : Composer} (h : Marked c d) (h' : Marked d e) : Marked c e := by
  rcases h with rfl | rfl <;> rcases h' with rfl | rfl <;> simp [Marked]

theorem mark_marked (s : State) : Marked s.composer s.mark.composer := .inr rfl

theorem markIf_eq (s : State) (b : Bool) : s.markIf b = s.withComposer (s.markIf b).composer := by
  cases b <;> rfl

theorem markIf_marked (s : State) (b : Bool) : Marked s.composer (s.markIf b).composer := by
  cases b
  · exact .refl _
  · exact mark_marked s

/-- What a fault operation on a key can do. -/
structure FaultMove (key : FaultKey) (s t : State) : Prop where
  frame : t = (s.withPanel t.panel).withComposer t.composer
  panel : PanelMoves (· = key) s.panel t.panel
  composer : Marked s.composer t.composer

theorem FaultMove.refl (key : FaultKey) (s : State) : FaultMove key s s := ⟨rfl, .refl _, .refl _⟩

theorem raiseFault_stands (s : State) (key : FaultKey) (detail : FaultDetail) :
    (s.raiseFault key detail).stands key = true := by
  unfold State.raiseFault
  split
  · assumption
  · rcases withFaults_eq s (s.panel.faults ++ [⟨key, s.nodeTime, detail⟩]) with h | h <;> rw [log_stands, h] <;>
      simp [State.stands, State.withPanel, State.mark, State.withComposer]

theorem clearFault_stands (s : State) (key : FaultKey) : (s.clearFault key).stands key = false := by
  unfold State.clearFault
  split
  · rcases withFaults_eq s (s.panel.faults.filter fun e => e.key != key) with h | h <;> rw [log_stands, h] <;>
      simp [State.stands, State.withPanel, State.mark, State.withComposer]
  · exact Bool.eq_false_iff.mpr ‹_›

theorem setFault_stands (s : State) (key : FaultKey) (detail : FaultDetail) (b : Bool) :
    (s.setFault key detail b).stands key = b := by
  cases b
  · exact clearFault_stands s key
  · exact raiseFault_stands s key detail

/-- A changed fault list with its log entry. -/
theorem withFaults_log_move (s : State) (key : FaultKey) (faults : List FaultEntry) (e : LogEvent)
    (hk : s.panel.keysDistinct → (faults.map (·.key)).Nodup)
    (ho : ∀ k, k ≠ key → (faults.any fun x => x.key == k) = s.panel.faults.any fun x => x.key == k) :
    FaultMove key s ((s.withFaults faults).log e) := by
  have step : PanelMoves (· = key) s.panel { s.panel with faults := faults } :=
    ⟨fun h => h, hk, fun k hne => ho k hne, rfl⟩
  rcases withFaults_eq s faults with h | h <;> rw [h]
  · exact ⟨rfl, step.trans (log_moves _ (s.withPanel { s.panel with faults := faults }) e), .refl _⟩
  · exact ⟨rfl, step.trans (log_moves _ (s.withPanel { s.panel with faults := faults }).mark e), .inr rfl⟩

theorem raiseFault_move (s : State) (key : FaultKey) (detail : FaultDetail) :
    FaultMove key s (s.raiseFault key detail) := by
  unfold State.raiseFault
  split
  · exact .refl _ _
  · rename_i h
    refine withFaults_log_move s key _ _ (fun hd => ?_) (fun k hk => ?_)
    · simp only [State.stands, List.any_eq_true, beq_iff_eq, not_exists, not_and] at h
      simp only [Panel.keysDistinct] at hd
      simp only [List.map_append, List.map_cons, List.map_nil]
      rw [List.nodup_append]
      refine ⟨hd, by simp, ?_⟩
      intro a ha b hb
      simp only [List.mem_map, List.mem_singleton] at ha hb
      obtain ⟨x, hx, rfl⟩ := ha
      subst hb
      exact h x hx
    · simp [hk.symm]

theorem clearFault_move (s : State) (key : FaultKey) : FaultMove key s (s.clearFault key) := by
  unfold State.clearFault
  split
  · refine withFaults_log_move s key _ _ (fun hd => ?_) (fun k hk => ?_)
    · exact hd.sublist (List.filter_sublist.map _)
    · rw [Bool.eq_iff_iff]
      simp only [List.any_filter, List.any_eq_true, Bool.and_eq_true, bne_iff_ne, ne_eq, beq_iff_eq]
      constructor
      · rintro ⟨x, hx, -, h⟩; exact ⟨x, hx, h⟩
      · rintro ⟨x, hx, h⟩; exact ⟨x, hx, by rw [h]; exact hk, h⟩
  · exact .refl _ _

theorem setFault_move (s : State) (key : FaultKey) (detail : FaultDetail) (b : Bool) :
    FaultMove key s (s.setFault key detail b) := by
  cases b
  · exact clearFault_move s key
  · exact raiseFault_move s key detail

end Sys2Proof.Machine
end

