-- ==== Sys2Proof/Laws/Moves.lean ====
section
/-! SUPPORT. What each shared operation can change: the parts of the state it may touch, while the panel keeps its forms
and the composer is at most marked. -/

namespace Sys2Proof.Machine

/-! ### The relation -/

/-- The parts of the state, the panel and the composer apart. -/
inductive Part where
  | pending | clock | power | station | lines | peers | phase | detection | alarm | curtain | descent | lights
  | calls | bays | draws
  deriving DecidableEq, Repr

/-- Two states hold the same in a part. -/
def Part.Same : Part → State → State → Prop
  | .pending, s, t => t.pending = s.pending
  | .clock, s, t => t.clock = s.clock
  | .power, s, t => t.power = s.power
  | .station, s, t => t.station = s.station
  | .lines, s, t => t.lines = s.lines
  | .peers, s, t => t.peers = s.peers
  | .phase, s, t => t.phase = s.phase
  | .detection, s, t => t.detection = s.detection
  | .alarm, s, t => t.alarm = s.alarm
  | .curtain, s, t => t.curtain = s.curtain
  | .descent, s, t => t.descent = s.descent
  | .lights, s, t => t.lights = s.lights
  | .calls, s, t => t.calls = s.calls
  | .bays, s, t => t.bays = s.bays
  | .draws, s, t => t.draws = s.draws

theorem Part.Same.refl (p : Part) (s : State) : p.Same s s := by cases p <;> rfl

theorem Part.Same.trans {p : Part} {s t u : State} (h : p.Same s t) (h' : p.Same t u) : p.Same s u := by
  cases p <;> exact Eq.trans h' h

/-- From `s` to `t` only the parts listed may differ, the log and the fault list keep their forms, the transaction
stands, and the composer is at most marked. -/
structure Move (ps : List Part) (s t : State) : Prop where
  same : ∀ p, p ∉ ps → p.Same s t
  panel : PanelMoves (fun _ => True) s.panel t.panel
  composer : Marked s.composer t.composer

namespace Move

variable {ps qs : List Part} {s t u : State}

theorem refl (ps : List Part) (s : State) : Move ps s s := ⟨fun p _ => .refl p s, .refl _, .refl _⟩

theorem trans (h : Move ps s t) (h' : Move ps t u) : Move ps s u :=
  ⟨fun p hp => (h.same p hp).trans (h'.same p hp), h.panel.trans h'.panel, h.composer.trans h'.composer⟩

theorem mono (h : Move ps s t) (hs : ps ⊆ qs) : Move qs s t :=
  ⟨fun p hp => h.same p fun hm => hp (hs hm), h.panel, h.composer⟩

theorem ite {c : Prop} [Decidable c] (h : Move ps s t) (h' : Move ps s u) : Move ps s (if c then t else u) := by
  split <;> assumption

theorem foldl {α : Type} {f : State → α → State} (h : ∀ t x, Move ps t (f t x)) (xs : List α) (s : State) :
    Move ps s (xs.foldl f s) := by
  induction xs generalizing s with
  | nil => exact refl ps s
  | cons x xs ih => exact (h s x).trans (ih (f s x))

/-- What a part that may not differ holds after. -/
theorem pending (h : Move ps s t) (hp : Part.pending ∉ ps) : t.pending = s.pending := h.same .pending hp
theorem clock (h : Move ps s t) (hp : Part.clock ∉ ps) : t.clock = s.clock := h.same .clock hp
theorem power (h : Move ps s t) (hp : Part.power ∉ ps) : t.power = s.power := h.same .power hp
theorem station (h : Move ps s t) (hp : Part.station ∉ ps) : t.station = s.station := h.same .station hp
theorem lines (h : Move ps s t) (hp : Part.lines ∉ ps) : t.lines = s.lines := h.same .lines hp
theorem peers (h : Move ps s t) (hp : Part.peers ∉ ps) : t.peers = s.peers := h.same .peers hp
theorem phase (h : Move ps s t) (hp : Part.phase ∉ ps) : t.phase = s.phase := h.same .phase hp
theorem detection (h : Move ps s t) (hp : Part.detection ∉ ps) : t.detection = s.detection :=
  h.same .detection hp
theorem alarm (h : Move ps s t) (hp : Part.alarm ∉ ps) : t.alarm = s.alarm := h.same .alarm hp
theorem curtain (h : Move ps s t) (hp : Part.curtain ∉ ps) : t.curtain = s.curtain := h.same .curtain hp
theorem descent (h : Move ps s t) (hp : Part.descent ∉ ps) : t.descent = s.descent := h.same .descent hp
theorem lights (h : Move ps s t) (hp : Part.lights ∉ ps) : t.lights = s.lights := h.same .lights hp
theorem calls (h : Move ps s t) (hp : Part.calls ∉ ps) : t.calls = s.calls := h.same .calls hp
theorem bays (h : Move ps s t) (hp : Part.bays ∉ ps) : t.bays = s.bays := h.same .bays hp
theorem draws (h : Move ps s t) (hp : Part.draws ∉ ps) : t.draws = s.draws := h.same .draws hp

end Move

/-! ### One update -/

section
variable {ps : List Part} (s : State)

theorem withClock_move (h : .clock ∈ ps) (x : Clock) : Move ps s (s.withClock x) :=
  ⟨fun p hp => by cases p <;> first | rfl | exact absurd h hp, .refl _, .refl _⟩

theorem withStation_move (h : .station ∈ ps) (x : Station) : Move ps s (s.withStation x) :=
  ⟨fun p hp => by cases p <;> first | rfl | exact absurd h hp, .refl _, .refl _⟩

theorem withLines_move (h : .lines ∈ ps) (x : PerLine LineController) : Move ps s (s.withLines x) :=
  ⟨fun p hp => by cases p <;> first | rfl | exact absurd h hp, .refl _, .refl _⟩

theorem withPeers_move (h : .peers ∈ ps) (x : PeerTable) : Move ps s (s.withPeers x) :=
  ⟨fun p hp => by cases p <;> first | rfl | exact absurd h hp, .refl _, .refl _⟩

theorem withPhase_move (h : .phase ∈ ps) (x : PhaseView) : Move ps s (s.withPhase x) :=
  ⟨fun p hp => by cases p <;> first | rfl | exact absurd h hp, .refl _, .refl _⟩

theorem withDetection_move (h : .detection ∈ ps) (x : Detection) : Move ps s (s.withDetection x) :=
  ⟨fun p hp => by cases p <;> first | rfl | exact absurd h hp, .refl _, .refl _⟩

theorem withAlarm_move (h : .alarm ∈ ps) (x : Alarm) : Move ps s (s.withAlarm x) :=
  ⟨fun p hp => by cases p <;> first | rfl | exact absurd h hp, .refl _, .refl _⟩

theorem withCurtain_move (h : .curtain ∈ ps) (x : Curtain) : Move ps s (s.withCurtain x) :=
  ⟨fun p hp => by cases p <;> first | rfl | exact absurd h hp, .refl _, .refl _⟩

theorem withDescent_move (h : .descent ∈ ps) (x : Supervisor) : Move ps s (s.withDescent x) :=
  ⟨fun p hp => by cases p <;> first | rfl | exact absurd h hp, .refl _, .refl _⟩

theorem withLights_move (h : .lights ∈ ps) (x : Lights) : Move ps s (s.withLights x) :=
  ⟨fun p hp => by cases p <;> first | rfl | exact absurd h hp, .refl _, .refl _⟩

theorem withCalls_move (h : .calls ∈ ps) (x : Calls) : Move ps s (s.withCalls x) :=
  ⟨fun p hp => by cases p <;> first | rfl | exact absurd h hp, .refl _, .refl _⟩

theorem withBays_move (h : .bays ∈ ps) (x : PerBay BayRecord) : Move ps s (s.withBays x) :=
  ⟨fun p hp => by cases p <;> first | rfl | exact absurd h hp, .refl _, .refl _⟩

theorem withDraws_move (h : .draws ∈ ps) (x : Nat) : Move ps s (s.withDraws x) :=
  ⟨fun p hp => by cases p <;> first | rfl | exact absurd h hp, .refl _, .refl _⟩

theorem withPeer_move (h : .peers ∈ ps) (r : PeerRecord) : Move ps s (s.withPeer r) := withPeers_move s h _

theorem withBay_move (h : .bays ∈ ps) (b : Bay) (x : BayRecord) : Move ps s (s.withBay b x) := withBays_move s h _

theorem withLine_move (h : .lines ∈ ps) (l : Line) (x : LineController) : Move ps s (s.withLine l x) :=
  withLines_move s h _

theorem mark_move : Move ps s s.mark := ⟨fun p _ => by cases p <;> rfl, .refl _, mark_marked s⟩

theorem markIf_move (b : Bool) : Move ps s (s.markIf b) := by
  cases b
  · exact .refl _ _
  · exact mark_move s

theorem log_move (e : LogEvent) : Move ps s (s.log e) :=
  ⟨fun p _ => by cases p <;> rfl, log_moves _ s e, .refl _⟩

theorem logIf_move (b : Bool) (e : LogEvent) : Move ps s (s.logIf b e) := by
  cases b
  · exact .refl _ _
  · exact log_move s e

theorem FaultMove.move {s t : State} {key : FaultKey} (h : FaultMove key s t) : Move ps s t :=
  ⟨fun p _ => by rw [h.frame]; cases p <;> rfl, h.panel.mono fun _ _ => trivial, h.composer⟩

theorem raiseFault_moved (key : FaultKey) (detail : FaultDetail) : Move ps s (s.raiseFault key detail) :=
  (raiseFault_move s key detail).move

theorem clearFault_moved (key : FaultKey) : Move ps s (s.clearFault key) := (clearFault_move s key).move

theorem setFault_moved (key : FaultKey) (detail : FaultDetail) (b : Bool) :
    Move ps s (s.setFault key detail b) := (setFault_move s key detail b).move

theorem advanceTo_move (h : .clock ∈ ps) (h' : .lines ∈ ps) (t : Nat) : Move ps s (s.advanceTo t) := by
  unfold State.advanceTo
  exact .ite ((withClock_move s h _).trans (withLines_move _ h' _)) (.refl _ _)

end

end Sys2Proof.Machine
end

