-- ==== Sys2Proof/Laws/Calls.lean ====
section
/-! SUPPORT. What the Call Sequencer can change: the calls and the bays' play commands alone, with the panel. -/

namespace Sys2Proof.Machine

/-- The parts that a change at the Call Sequencer may touch. -/
abbrev sequencer : List Part := [.calls, .bays]

variable (s : State)

theorem playOn_move (set : PerBay Bool) (message : Nat) (zones : List Nat) :
    Move sequencer s (s.playOn set message zones) :=
  .foldl (fun t _ => .ite (withBay_move t (by decide) _ _) (.refl _ _)) _ _

theorem stopOn_move (set : PerBay Bool) : Move sequencer s (s.stopOn set) :=
  .foldl (fun t _ => .ite (withBay_move t (by decide) _ _) (.refl _ _)) _ _

theorem setCurrent_move (call : CurrentCall) (outstanding : PerBay Bool) :
    Move sequencer s (s.setCurrent call outstanding) := withCalls_move s (by decide) _

theorem stopCurrent_move : Move sequencer s s.stopCurrent := (stopOn_move s _).trans (setCurrent_move _ _ _)

theorem withQueue_move (queue : List QueueEntry) : Move sequencer s (s.withQueue queue) :=
  withCalls_move s (by decide) _

theorem countMerged_move : Move sequencer s s.countMerged := withCalls_move s (by decide) _
theorem countDroppedFull_move : Move sequencer s s.countDroppedFull := withCalls_move s (by decide) _
theorem countQuieted_move : Move sequencer s s.countQuieted := withCalls_move s (by decide) _
theorem countPreemptedDropped_move : Move sequencer s s.countPreemptedDropped := withCalls_move s (by decide) _
theorem countStale_move : Move sequencer s s.countStale := withCalls_move s (by decide) _

theorem drainOnJoin_move : Move sequencer s s.drainOnJoin :=
  .ite ((withCalls_move s (by decide) _).trans (log_move _ _)) (.refl _ _)

theorem drainOnLeave_move : Move sequencer s s.drainOnLeave :=
  .ite ((withCalls_move s (by decide) _).trans (log_move _ _)) (.refl _ _)

theorem enqueue_move (message : Nat) (zones : List Nat) (repeats source : Nat) (cls : CallClass) :
    Move sequencer s (s.enqueue message zones repeats source cls) := by
  unfold State.enqueue
  refine .ite (.refl _ _) ?_
  split
  · exact ((withQueue_move s _).trans (countMerged_move _)).trans (logIf_move _ _ _)
  · exact .ite ((countDroppedFull_move s).trans (log_move _ _))
      ((withQueue_move s _).trans (drainOnJoin_move _))

theorem startTestUpTo_move (n : Nat) : Move sequencer s (startTestUpTo n s) := by
  induction n generalizing s with
  | zero => exact .refl _ _
  | succ n ih =>
    unfold startTestUpTo
    refine .ite ?_ (.refl _ _)
    split
    · exact .refl _ _
    · rename_i e rest _
      have h := (withQueue_move s rest).trans (drainOnLeave_move _)
      generalize (s.withQueue rest).drainOnLeave = t at h
      dsimp only
      exact .ite (h.trans (((countQuieted_move t).trans (log_move _ _)).trans (ih _)))
        (.ite (h.trans ((playOn_move t _ _ _).trans (setCurrent_move _ _ _)))
          (h.trans ((log_move t _).trans (ih _))))

theorem startTest_move : Move sequencer s s.startTest := startTestUpTo_move s _

theorem offer_move (message : Nat) (zones : List Nat) (repeats source : Nat) (cls : CallClass) :
    Move sequencer s (s.offer message zones repeats source cls) :=
  .ite ((enqueue_move s _ _ _ _ _).trans (startTest_move _)) (.refl _ _)

theorem startEvacuation_move : Move sequencer s s.startEvacuation :=
  .ite ((playOn_move s _ _ _).trans (setCurrent_move _ _ _)) (.refl _ _)

theorem startStaff_move : Move sequencer s s.startStaff := by
  unfold State.startStaff
  have h := withCalls_move s (ps := sequencer) (by decide)
    { s.calls with staffRepeat := some (s.clock.now + Config.staffMs) }
  generalize s.withCalls { s.calls with staffRepeat := some (s.clock.now + Config.staffMs) } = t at h
  dsimp only
  exact .ite (h.trans (((playOn_move t _ _ _).trans (setCurrent_move _ _ _)).trans
    (withCalls_move _ (by decide) _))) h

theorem startStanding_move : Move sequencer s s.startStanding :=
  .ite (.ite (.ite (.refl _ _) (startEvacuation_move _)) (.ite (startStaff_move _) (.refl _ _))) (.refl _ _)

theorem returnToHead_move (e : QueueEntry) : Move sequencer s (s.returnToHead e) := by
  unfold State.returnToHead
  have h := log_move (ps := sequencer) s (.callPreempted e.message)
  dsimp only
  generalize s.log (.callPreempted e.message) = t at h ⊢
  split
  · exact h.trans (((withQueue_move t _).trans (countMerged_move _)).trans (logIf_move _ _ _))
  · refine h.trans (Move.trans (t := match t.calls.queue.getLast?, decide (Config.queueSize ≤ t.calls.queue.length) with
      | some tail, true =>
        (((t.withQueue t.calls.queue.dropLast).countDroppedFull).log
          (.queueFull tail.message tail.source)).drainOnLeave
      | _, _ => t) ?_ ((withQueue_move _ _).trans (drainOnJoin_move _)))
    split
    · exact (((withQueue_move t _).trans (countDroppedFull_move _)).trans (log_move _ _)).trans
        (drainOnLeave_move _)
    · exact .refl _ _

theorem preempt_move : Move sequencer s s.preempt := by
  unfold State.preempt
  split
  · exact .ite ((stopCurrent_move s).trans ((countPreemptedDropped_move _).trans (log_move _ _)))
      ((stopCurrent_move s).trans (returnToHead_move _ _))
  · exact .refl _ _

theorem standingDue_move : Move sequencer s s.standingDue := (preempt_move s).trans (startStanding_move _)

theorem staffBecomesDue_move : Move sequencer s s.staffBecomesDue :=
  .ite (.refl _ _) ((withCalls_move s (by decide) _).trans (standingDue_move _))

theorem startGap_move : Move sequencer s s.startGap := .ite (startTest_move s) (withCalls_move s (by decide) _)

theorem playDone_move : Move sequencer s s.playDone := by
  unfold State.playDone
  split
  · exact .refl _ _
  · exact .ite ((playOn_move s _ _ _).trans (setCurrent_move _ _ _))
      ((setCurrent_move s _ _).trans (startGap_move _))
  · exact .ite ((setCurrent_move s _ _).trans (startStaff_move _)) ((setCurrent_move s _ _).trans (startGap_move _))
  · exact (setCurrent_move s _ _).trans (startStanding_move _)

theorem bayDone_move (b : Bay) : Move sequencer s (s.bayDone b) := by
  unfold State.bayDone
  have h := withCalls_move s (ps := sequencer) (by decide)
    { s.calls with outstanding := s.calls.outstanding.set b false }
  exact .ite (.ite h (h.trans (playDone_move _))) (.refl _ _)

theorem bayFault_move (b : Bay) : Move sequencer s (s.bayFault b) :=
  .ite ((log_move s _).trans (bayDone_move _ _)) (.refl _ _)

theorem withdraw_move (p : Phase) : Move sequencer s (s.withdraw p) := by
  unfold State.withdraw
  have h := (withQueue_move s (s.calls.queue.filter fun e => !isWithdrawn s.image.messages p e)).trans
    (Move.foldl (f := fun t (e : QueueEntry) => t.log (.callWithdrawn e.message)) (fun t _ => log_move t _)
      (s.calls.queue.filter (isWithdrawn s.image.messages p)) _)
  exact .ite h (h.trans (drainOnLeave_move _))

theorem callsPhase_move (p : Phase) : Move sequencer s (s.callsPhase p) := by
  unfold State.callsPhase
  have h := withdraw_move s p
  refine .ite ?_ (.refl _ _)
  dsimp only
  split
  · exact h.trans (offer_move _ _ _ _ _ _)
  · exact h

theorem callsMark_move (mark : IntervalMark) : Move sequencer s (s.callsMark mark) := offer_move s _ _ _ _ _

theorem discardStale_move : Move sequencer s s.discardStale := by
  unfold State.discardStale
  have h := (withQueue_move s (s.calls.queue.filter fun e => !s.isStale e)).trans
    (Move.foldl (f := fun t (e : QueueEntry) => t.countStale.log (.callStale e.message))
      (fun t _ => (countStale_move t).trans (log_move _ _)) (s.calls.queue.filter s.isStale) _)
  exact .ite h (h.trans (drainOnLeave_move _))

theorem endStaff_move : Move sequencer s s.endStaff := by
  unfold State.endStaff
  exact Move.trans (t := if s.calls.current = .staff then s.stopCurrent else s)
    (.ite (stopCurrent_move s) (.refl _ _)) (withCalls_move _ (by decide) _)

theorem callsStage_move (old new : Stage) : Move sequencer s (s.callsStage old new) := by
  unfold State.callsStage
  refine .ite (.refl _ _) (.ite ((endStaff_move s).trans (standingDue_move _)) (.ite ?_ (.ite
    (staffBecomesDue_move s) (.ite ((endStaff_move s).trans (startTest_move _)) (.refl _ _)))))
  have h := Move.trans (t := if s.calls.current = .evacuation then s.stopCurrent else s)
    (.ite (stopCurrent_move s) (.refl _ _)) (discardStale_move _)
  dsimp only
  generalize (if s.calls.current = .evacuation then s.stopCurrent else s).discardStale = t at h ⊢
  exact (h.trans (.ite (staffBecomesDue_move t) (.refl _ _))).trans (startTest_move _)

theorem callsSilence_move : Move sequencer s s.callsSilence :=
  .ite (.ite (.ite (stopCurrent_move s) (.refl _ _)) (startStanding_move s)) (.refl _ _)

theorem callLost_move (b : Bay) : Move sequencer s (s.callLost b) := by
  unfold State.callLost
  split
  · exact .refl _ _
  · exact .ite ((((stopOn_move s _).trans (setCurrent_move _ _ _)).trans (log_move _ _)).trans (startTest_move _))
      (setCurrent_move s _ _)
  · exact bayDone_move s b

theorem callCameOnline_move (b : Bay) : Move sequencer s (s.callCameOnline b) := by
  unfold State.callCameOnline
  refine .ite (.refl _ _) (Move.trans (.ite (.ite ?_ (.refl _ _)) (startStanding_move s)) (startTest_move _))
  exact (withBay_move s (by decide) _ _).trans (setCurrent_move _ _ _)

theorem setSeenRequest_move (station slot : Nat) (epoch : Option Byte) :
    Move sequencer s (s.setSeenRequest station slot epoch) := withCalls_move s (by decide) _

theorem judgeSlot_move (station : Nat) (resync live : Bool) (slot : Nat) :
    Move sequencer s (s.judgeSlot station resync live slot) := by
  unfold State.judgeSlot
  dsimp only
  split
  · exact setSeenRequest_move _ _ _ _
  · exact setSeenRequest_move _ _ _ _
  · exact .refl _ _
  · split
    · exact setSeenRequest_move _ _ _ _
    · exact .ite ((setSeenRequest_move s _ _ _).trans (offer_move _ _ _ _ _ _)) (.refl _ _)

theorem callsAccept_move (station : Nat) (resync live : Bool) :
    Move sequencer s (s.callsAccept station resync live) :=
  .ite (.foldl (fun t _ => judgeSlot_move t _ _ _ _) _ _) (.refl _ _)

theorem requestCall_move (slot message : Nat) (zones : List Nat) (repeats : Nat) :
    Move sequencer s (requestCall s slot message zones repeats).1 := by
  unfold requestCall
  split
  · exact .refl _ _
  · split
    · exact .refl _ _
    · exact ((withCalls_move s (by decide) _).trans (mark_move _)).trans (offer_move _ _ _ _ _ _)

end Sys2Proof.Machine
end

