-- ==== Sys2Proof/Laws/Drive.lean ====
section
/-! SUPPORT. What the Curtain Controller and the Descent Supervisor can change: curtain and descent alone, with the panel
and the mark. -/

namespace Sys2Proof.Machine

/-- The parts that a change of the curtain may touch. -/
abbrev drive : List Part := [.curtain, .descent]

variable (s : State)

/-! ### The Descent Supervisor -/

theorem command_move : Move drive s s.command := withCurtain_move s (by decide) _

theorem setMismatch_move (own supervisor : Bool) : Move drive s (s.setMismatch own supervisor) :=
  ((withCurtain_move s (by decide) _).trans (markIf_move _ _)).trans (setFault_moved _ _ _ _)

/-- What LIMIT MISMATCH stands by: the two causes as they are set. -/
theorem setMismatch_causes (own supervisor : Bool) :
    (s.setMismatch own supervisor).curtain = { s.curtain with ownMismatch := own, supervisorMismatch := supervisor } := by
  have h := (markIf_move (ps := []) (s.withCurtain { s.curtain with ownMismatch := own, supervisorMismatch := supervisor })
    ((s.curtain.ownMismatch || s.curtain.supervisorMismatch) != (own || supervisor))).trans
    (setFault_moved _ .limitMismatch .none (own || supervisor))
  exact h.curtain (by decide)

theorem settleMismatch_settled : s.settleMismatch.curtain.supervisorMismatch = s.descent.mismatch := by
  unfold State.settleMismatch
  split
  · assumption
  · rw [setMismatch_causes]

theorem settleMismatch_move : Move drive s s.settleMismatch := .ite (.refl _ _) (setMismatch_move s _ _)

theorem writeVerdict_move (reason : EndReason) : Move drive s (s.writeVerdict reason) :=
  ((withCurtain_move s (by decide) _).trans (mark_move _)).trans (log_move _ _)

theorem motionEnd_move (reason : EndReason) : Move drive s (s.motionEnd reason) := by
  unfold State.motionEnd
  split
  · exact .refl _ _
  · rename_i motion _
    have h : Move drive s (if motion = .testing then s.writeVerdict reason else s) :=
      .ite (writeVerdict_move _ _) (.refl _ _)
    dsimp only
    generalize (if motion = .testing then s.writeVerdict reason else s) = t at h ⊢
    have h' := h.trans (withDescent_move t (by decide) (t.descent.finish reason))
    exact .ite (h'.trans (settleMismatch_move _)) h'

/-! ### The Curtain Controller -/

theorem enterState_move (state : CurtainState) (detail : CurtainDetail) : Move drive s (s.enterState state detail) := by
  unfold State.enterState
  have h : Move drive s
      (((s.withCurtain (s.curtain.enter state s.clock.now)).command.mark).log (.curtain state detail)) :=
    (((withCurtain_move s (by decide) _).trans (command_move _)).trans (mark_move _)).trans (log_move _ _)
  exact .ite (h.trans (clearFault_moved _ _)) h

theorem arrive_move : Move drive s s.arrive := by
  unfold State.arrive
  exact ((motionEnd_move s _).trans (withCurtain_move _ (by decide) _)).trans (enterState_move _ _ _)

theorem takeRaised_move (reason : DescentReason) (k : Nat) (p : Option Nat) (v : Option Int) :
    Move drive s (s.takeRaised reason k p v) :=
  .ite ((mark_move s).trans (log_move _ _)) ((mark_move s).trans (raiseFault_moved _ _ _))

theorem holdGovernor_move : Move drive s s.holdGovernor :=
  (withDescent_move s (by decide) _).trans (command_move _)

theorem takeNotice_move (n : Notice) : Move drive s (s.takeNotice n) := by
  unfold State.takeNotice
  split
  · exact (takeRaised_move s _ _ _ _).trans (holdGovernor_move _)
  · exact takeRaised_move s _ _ _ _
  · exact (mark_move s).trans (clearFault_moved _ _)
  · exact command_move s
  · exact setMismatch_move s _ _
  · exact .ite (arrive_move s) (.refl _ _)
  · exact .refl _ _

theorem motionStart_move (motion : Motion) : Move drive s (s.motionStart motion) := by
  unfold State.motionStart
  have h := (((withDescent_move s (ps := drive) (by decide) (s.descent.begin motion s.curtain.cause s.nodeTime)).trans
    (settleMismatch_move _)).trans (Move.foldl takeNotice_move s.descent.clearings _)).trans (command_move _)
  exact (h.trans (withDescent_move _ (by decide) _)).trans (.foldl takeNotice_move _ _)

theorem enterMotion_move (state : CurtainState) (motion : Motion) (detail : CurtainDetail) :
    Move drive s (s.enterMotion state motion detail) :=
  (enterState_move s state detail).trans (motionStart_move _ motion)

theorem descend_move (cause : DescentCause) (detail : CurtainDetail) : Move drive s (s.descend cause detail) :=
  (withCurtain_move s (by decide) _).trans (enterMotion_move _ _ _ _)

theorem fall_move (cause : DescentCause) : Move drive s (s.fall cause) :=
  .ite ((motionEnd_move s _).trans (descend_move _ _ _)) (.refl _ _)

theorem testTriggers_move : Move drive s s.testTriggers := by
  unfold State.testTriggers
  split
  · exact fall_move _ _
  · exact .refl _ _

theorem goTo_move (state : CurtainState) (detail : CurtainDetail) : Move drive s (s.goTo state detail) :=
  (enterState_move s _ _).trans (testTriggers_move _)

theorem stopMotion_move (reason : EndReason) : Move drive s (s.stopMotion reason) :=
  (motionEnd_move s _).trans (goTo_move _ _ _)

theorem startMotion_move (state : CurtainState) (motion : Motion) : Move drive s (s.startMotion state motion) :=
  (enterMotion_move s _ _ _).trans (testTriggers_move _)

theorem carryOut_move (source : Nat) (kind : DemandKind) (epoch : Byte) :
    Move drive s (s.carryOut source kind epoch) := by
  unfold State.carryOut
  split
  · exact log_move _ _
  · exact log_move _ _
  · exact goTo_move _ _ _
  · exact startMotion_move _ _ _
  · exact startMotion_move _ _ _
  · exact stopMotion_move _ _
  · exact fall_move _ _

theorem setLastEpoch_move (epoch : Byte) : Move drive s (s.setLastEpoch epoch) :=
  (withCurtain_move s (by decide) _).trans (markIf_move _ _)

theorem setSeenDemand_move (source : Nat) (epoch : Option Byte) : Move drive s (s.setSeenDemand source epoch) :=
  withCurtain_move s (by decide) _

theorem offerDemand_move (source : Nat) (kind : DemandKind) (epoch : Byte) :
    Move drive s (s.offerDemand source kind epoch) := by
  unfold State.offerDemand
  have h := setSeenDemand_move s source (some epoch)
  exact .ite (.refl _ _) (.ite ((h.trans (carryOut_move _ _ _ _)).trans (setLastEpoch_move _ _))
    (h.trans (log_move _ _)))

theorem curtainAccept_move (station : Nat) (resync : Bool) : Move drive s (s.curtainAccept station resync) := by
  unfold State.curtainAccept
  split
  · split
    · exact setSeenDemand_move _ _ _
    · split
      · exact offerDemand_move _ _ _ _
      · exact .refl _ _
    · exact .refl _ _
  · exact .refl _ _

theorem requestDemand_move (kind : Option DemandKind) : Move drive s (requestDemand s kind).1 := by
  unfold requestDemand
  split
  · exact .refl _ _
  · exact .refl _ _
  · exact .ite (((withCurtain_move s (by decide) _).trans (mark_move _)).trans (offerDemand_move _ _ _ _))
      ((withCurtain_move s (by decide) _).trans (mark_move _))

theorem takeInputs_move (inputs : DriveInputs) : Move drive s (s.takeInputs inputs) :=
  withCurtain_move s (by decide) _

theorem judgeLimits_move : Move drive s s.judgeLimits := setMismatch_move s _ _

theorem followPosition_move : Move drive s s.followPosition :=
  (withCurtain_move s (by decide) _).trans (markIf_move _ _)

theorem beamBreaks_move : Move drive s s.beamBreaks :=
  .ite ((log_move s _).trans (stopMotion_move _ _)) (.refl _ _)

theorem topCloses_move : Move drive s s.topCloses :=
  .ite (.ite (goTo_move _ _ _) (goTo_move _ _ _)) (.refl _ _)

theorem takeSampleNotice_move (n : Notice) : Move drive s (s.takeSampleNotice n) := by
  unfold State.takeSampleNotice
  split
  · exact .ite (stopMotion_move s _) (.refl _ _)
  · exact takeNotice_move s _

theorem takeJudged_move (j : Judged) : Move drive s (s.takeJudged j) :=
  ((withDescent_move s (by decide) _).trans (.foldl takeSampleNotice_move _ _)).trans (settleMismatch_move _)

theorem slotSample_move (reading : Option Nat) (bottom : Bool) : Move drive s (s.slotSample reading bottom) :=
  .ite (takeJudged_move s _) (.refl _ _)

theorem recover_move (inputs : DriveInputs) : Move drive s (s.recover inputs) := by
  unfold State.recover
  have h := ((clearFault_moved s (ps := drive) .driveLost).trans (takeInputs_move _ inputs)).trans (judgeLimits_move _)
  dsimp only
  generalize ((s.clearFault .driveLost).takeInputs inputs).judgeLimits = t at h ⊢
  split
  · exact h.trans (descend_move _ _ _)
  · exact h.trans (enterState_move _ _ _)

theorem judgeView_move (before : LimitView) : Move drive s (s.judgeView before) := by
  unfold State.judgeView
  dsimp only
  have h₁ : Move drive s (if s.curtain.view.beamBroken && !before.beamBroken then s.beamBreaks else s) :=
    .ite (beamBreaks_move _) (.refl _ _)
  generalize (if s.curtain.view.beamBroken && !before.beamBroken then s.beamBreaks else s) = t at h₁ ⊢
  have h₂ : Move drive s (if s.curtain.view.buttonPressed != before.buttonPressed then t.testTriggers else t) :=
    .ite (h₁.trans (testTriggers_move _)) h₁
  have h₃ := h₂.trans (judgeLimits_move _)
  exact .ite (h₃.trans (topCloses_move _)) h₃

theorem deliver_move (inputs : DriveInputs) : Move drive s (s.deliver inputs) := by
  unfold State.deliver
  have h := ((takeInputs_move s inputs).trans (followPosition_move _)).trans (judgeView_move _ s.curtain.view)
  exact .ite (h.trans (slotSample_move _ _ _)) h

theorem curtainDelivery_move (inputs : DriveInputs) : Move drive s (s.curtainDelivery inputs) := by
  unfold State.curtainDelivery
  split
  · exact .refl _ _
  · exact withCurtain_move _ (by decide) _
  · exact recover_move _ _
  · exact deliver_move _ _

theorem missingSample_move : Move drive s s.missingSample := slotSample_move s _ _

theorem driveLost_move : Move drive s s.driveLost := by
  unfold State.driveLost
  split
  · exact .refl _ _
  · exact .refl _ _
  · exact raiseFault_moved _ _ _
  · exact (((motionEnd_move s _).trans (withCurtain_move _ (by decide) _)).trans (enterState_move _ _ _)).trans
      (raiseFault_moved _ _ _)

theorem driveOnline_move : Move drive s s.driveOnline := by
  unfold State.driveOnline
  have h := withCurtain_move s (ps := drive) (by decide) { s.curtain with delivery := none }
  exact .ite (h.trans (command_move _)) h

theorem curtainJoined_move : Move drive s s.curtainJoined := .ite (raiseFault_moved _ _ _) (.refl _ _)

theorem proofAges_move {ps : List Part} (wasProven : Bool) : Move ps s (s.proofAges wasProven) :=
  .ite ((log_move s _).trans (mark_move _)) (.refl _ _)

end Sys2Proof.Machine
end

