-- ==== Sys2Proof/Laws/Readers.lean ====
section
/-! SUPPORT. What the Detection Unit and the Light Mixer can change: each its own part alone, with the panel and the mark. -/

namespace Sys2Proof.Machine

variable (s : State)

/-! ### The Detection Unit -/

theorem withZone_move (r : ZoneRecord) : Move [.detection] s (s.withZone r) := withDetection_move s (by decide) _

theorem withDetectors_move (ds : List Detector) : Move [.detection] s (s.withDetectors ds) :=
  withDetection_move s (by decide) _

theorem withWindows_move (windows : List WindowEntry) : Move [.detection] s (s.withWindows windows) :=
  withDetection_move s (by decide) _

theorem withCopies_move (copies : List WindowCopy) : Move [.detection] s (s.withCopies copies) :=
  withDetection_move s (by decide) _

theorem evalZone_move (z : Nat) : Move [.detection] s (s.evalZone z) := by
  unfold State.evalZone
  split
  · exact .refl _ _
  · exact .ite (withZone_move s _) (((withZone_move s _).trans (logIf_move _ _ _)).trans (setFault_moved _ _ _ _))

theorem evalZones_move (zones : List Nat) : Move [.detection] s (s.evalZones zones) :=
  .foldl (fun t z => evalZone_move t z) zones s

theorem sampleBay_move (b : Bay) (readings : Vector Byte 32) : Move [.detection] s (s.sampleBay b readings) :=
  (withDetection_move s (by decide) _).trans (evalZones_move _ _)

theorem loopLost_move (b : Bay) : Move [.detection] s (s.loopLost b) :=
  (withDetectors_move s _).trans (evalZones_move _ _)

theorem detectionJoined_move : Move [.detection] s s.detectionJoined :=
  (withDetectors_move s _).trans (evalZones_move _ _)

theorem disableZone_move (r : ZoneRecord) : Move [.detection] s (s.disableZone r) :=
  (((withZone_move s _).trans (withDetectors_move _ _)).trans (clearFault_moved _ _)).trans (log_move _ _)

theorem enableZone_move (r : ZoneRecord) : Move [.detection] s (s.enableZone r) :=
  ((withZone_move s _).trans (log_move _ _)).trans (evalZone_move _ _)

theorem recomputeDisabledZone_move (z : Nat) : Move [.detection] s (s.recomputeDisabledZone z) := by
  unfold State.recomputeDisabledZone
  split
  · exact .refl _ _
  · exact .ite (.refl _ _) (.ite (enableZone_move s _) (disableZone_move s _))

theorem recomputeDisabled_move : Move [.detection] s s.recomputeDisabled :=
  .foldl (fun t z => recomputeDisabledZone_move t z) _ s

theorem recomputeWindowZone_move (z : Nat) : Move [.detection] s (s.recomputeWindowZone z) := by
  unfold State.recomputeWindowZone
  split
  · exact .refl _ _
  · exact .ite (.refl _ _) ((withZone_move s _).trans (evalZone_move _ _))

theorem recomputeWindows_move : Move [.detection] s s.recomputeWindows :=
  .foldl (fun t z => recomputeWindowZone_move t z) _ s

theorem windowsLeaveQuiet_move : Move [.detection] s s.windowsLeaveQuiet :=
  (withWindows_move s _).trans (markIf_move _ _)

theorem detectionStage_move (old new : Stage) : Move [.detection] s (s.detectionStage old new) :=
  Move.trans (t := if old = .quiet ∧ new ≠ .quiet then s.windowsLeaveQuiet else s)
    (.ite (windowsLeaveQuiet_move s) (.refl _ _)) (recomputeWindows_move _)

theorem countDownWindows_move : Move [.detection] s s.countDownWindows :=
  (((withWindows_move s _).trans (withCopies_move _ _)).trans (markIf_move _ _)).trans (recomputeWindows_move _)

theorem alignCopies_move (desk : Nat) : Move [.detection] s (s.alignCopies desk) := withCopies_move s _

theorem releaseZone_move (z : Nat) : Move [.detection] s (s.releaseZone z) := by
  unfold State.releaseZone
  split
  · exact .refl _ _
  · exact .ite (.refl _ _) (((withZone_move s _).trans (logIf_move _ _ _)).trans (evalZone_move _ _))

theorem releaseLatches_move : Move [.detection] s s.releaseLatches := .foldl (fun t z => releaseZone_move t z) _ s

/-! ### The Light Mixer -/

theorem withGroups_move (groups : List LightGroup) : Move [.lights] s (s.withGroups groups) :=
  withLights_move s (by decide) _

theorem recomputeAll_move (fade : Nat → Nat) : Move [.lights] s (s.recomputeAll fade) := withGroups_move s _

theorem recomputeTargets_move (fade : Nat → Nat) : Move [.lights] s (s.recomputeTargets fade) :=
  .ite (.refl _ _) (recomputeAll_move s fade)

theorem lightsStage_move (old new : Stage) : Move [.lights] s (s.lightsStage old new) :=
  .ite (recomputeAll_move s _) (recomputeTargets_move s _)

theorem lightsPhase_move : Move [.lights] s s.lightsPhase := recomputeTargets_move s _

theorem changeClaims_move (station : Nat) (claims : List ClaimEntry) (fade : List ClaimChange → Nat → Nat) :
    Move [.lights] s (s.changeClaims station claims fade) :=
  .ite ((withLights_move s (by decide) _).trans (recomputeTargets_move _ _)) (.refl _ _)

theorem lightsAccept_move (station : Nat) : Move [.lights] s (s.lightsAccept station) := changeClaims_move s _ _ _

theorem lightsSilence_move (station : Nat) : Move [.lights] s (s.lightsSilence station) := changeClaims_move s _ _ _

theorem setOwnClaims_move (claims : List ClaimEntry) : Move [.lights] s (s.setOwnClaims claims) := by
  unfold State.setOwnClaims
  exact ((withLights_move s (by decide) _).trans (mark_move _)).trans (changeClaims_move _ _ _ _)

theorem setClaim_move (slot group : Nat) (kind : Option ClaimKind) (level fade : Nat) :
    Move [.lights] s (setClaim s slot group kind level fade).1 := by
  unfold setClaim
  split
  · exact .refl _ _
  · split
    · dsimp only
      split
      · exact .refl _ _
      · exact setOwnClaims_move s _
    · exact .refl _ _

theorem clearClaims_move (selection : SlotSelection) : Move [.lights] s (clearClaims s selection).1 := by
  unfold clearClaims
  split
  · exact .refl _ _
  · split
    · split
      · exact .refl _ _
      · exact setOwnClaims_move s _
    · split
      · exact .refl _ _
      · split
        · exact setOwnClaims_move s _
        · exact .refl _ _

end Sys2Proof.Machine
end

