-- ==== Sys2Proof/Laws/House.lean ====
section
/-! SUPPORT. What the Alarm Stage Unit, the Phase Tracker, the Peer Table and the Bay Controller can change. -/

namespace Sys2Proof.Machine

variable (s : State)

/-! ### The Alarm Stage Unit -/

/-- The parts that a re-evaluation with its notices may touch. -/
abbrev alarmParts : List Part := [.detection, .alarm, .curtain, .descent, .lights, .calls, .bays]

theorem setAlarm_move {ps : List Part} (h : .alarm ∈ ps) (f : Alarm → Alarm) : Move ps s (s.setAlarm f) :=
  withAlarm_move s h _

theorem rebuildMerged_move : Move [.alarm] s s.rebuildMerged := setAlarm_move s (by decide) _

theorem zoneUp_move (z : Nat) : Move [.alarm] s (s.zoneUp z) := (setAlarm_move s (by decide) _).trans (log_move _ _)

theorem appendOrder_move : Move [.alarm] s s.appendOrder := .foldl (fun t z => zoneUp_move t z) _ s

theorem takeSnapshot_move (cause : StageCause) : Move [.alarm] s (s.takeSnapshot cause) := by
  unfold State.takeSnapshot
  split
  · exact log_move _ _
  · exact (setAlarm_move s (by decide) _).trans (log_move _ _)

theorem enterEvacuate_move (cause : StageCause) : Move [.alarm] s (s.enterEvacuate cause) :=
  (((setAlarm_move s (by decide) _).trans (log_move _ _)).trans (mark_move _)).trans (takeSnapshot_move _ _)

theorem enterAlert_move : Move [.alarm] s s.enterAlert :=
  ((setAlarm_move s (by decide) _).trans (log_move _ _)).trans (mark_move _)

theorem enterInvestigate_move : Move [.alarm] s s.enterInvestigate :=
  ((setAlarm_move s (by decide) _).trans (log_move _ _)).trans (mark_move _)

theorem evalStage_move : Move [.alarm] s s.evalStage := by
  unfold State.evalStage
  split
  · exact .refl _ _
  · exact enterEvacuate_move _ _
  · exact .ite (.ite (enterInvestigate_move s) (enterAlert_move s)) (.refl _ _)
  · exact .ite (enterInvestigate_move s) (.refl _ _)
  · exact .refl _ _

theorem expiryStage_move (stage : Stage) (cause : StageCause) : Move [.alarm] s (expiryStage stage cause s) :=
  .ite (enterEvacuate_move s _) (.refl _ _)

theorem stepEight_move (adopts : Bool) : Move [.alarm] s (s.stepEight adopts) := .ite (.refl _ _) (evalStage_move s)

theorem setSilenced_move (silenced : Bool) : Move [.alarm] s (s.setSilenced silenced) :=
  .ite (.refl _ _) (((setAlarm_move s (by decide) _).trans (log_move _ _)).trans (mark_move _))

theorem evaluateBy_move {stage : State → State} (h : ∀ t, Move [.alarm] t (stage t)) :
    Move [.alarm] s (s.evaluateBy stage) :=
  (((rebuildMerged_move s).trans (appendOrder_move _)).trans (h _)).trans (setSilenced_move _ _)

theorem stageNotice_move (old new : Stage) : Move alarmParts s (s.stageNotice old new) :=
  ((((detectionStage_move s old new).mono (by decide)).trans ((lightsStage_move _ _ _).mono (by decide))).trans
    ((callsStage_move _ _ _).mono (by decide))).trans ((testTriggers_move _).mono (by decide))

theorem mergedNotice_move (before : Alarm) : Move drive s (s.mergedNotice before) :=
  .ite (.refl _ _) (testTriggers_move s)

theorem silenceNotice_move (before : Alarm) : Move sequencer s (s.silenceNotice before) :=
  .ite (.refl _ _) (callsSilence_move s)

theorem handNotices_move (before : Alarm) : Move alarmParts s (s.handNotices before) := by
  unfold State.handNotices
  have h : Move alarmParts s (s.mergedNotice before) := (mergedNotice_move s before).mono (by decide)
  dsimp only
  exact Move.trans (.ite h (h.trans (stageNotice_move _ _ _))) ((silenceNotice_move _ _).mono (by decide))

theorem reevaluateBy_move {stage : State → State} (h : ∀ t, Move [.alarm] t (stage t)) :
    Move alarmParts s (s.reevaluateBy stage) :=
  ((evaluateBy_move s h).mono (by decide)).trans (handNotices_move _ _)

theorem reevaluate_move : Move alarmParts s s.reevaluate := reevaluateBy_move s evalStage_move

theorem reactUpTo_move (n : Nat) : Move alarmParts s (reactUpTo n s) := by
  induction n generalizing s with
  | zero => exact .refl _ _
  | succ n ih =>
    unfold reactUpTo
    split
    · exact .refl _ _
    · exact ((((withZone_move s _).mono (by decide)).trans (mark_move _)).trans (reevaluate_move _)).trans (ih _)

theorem react_move : Move alarmParts s s.react := reactUpTo_move s 256

theorem review_move : Move alarmParts s s.review := (reevaluate_move s).trans (react_move _)

theorem handAll_move : Move [.detection] s s.handAll := (withDetection_move s (by decide) _).trans (markIf_move _ _)

theorem beginGeneration_move (g : Byte) (way : GenerationWay) : Move [.alarm] s (s.beginGeneration g way) :=
  (((setSilenced_move s _).trans (setAlarm_move _ (by decide) _)).trans (log_move _ _)).trans (mark_move _)

theorem adoptEvacuate_move (adopts : Bool) : Move [.alarm] s (s.adoptEvacuate adopts) :=
  .ite (enterEvacuate_move s _) (.refl _ _)

theorem takeGeneration_move (g : Byte) (way : GenerationWay) (adopts : Bool) :
    Move alarmParts s (s.takeGeneration g way adopts) := by
  unfold State.takeGeneration
  have h : Move alarmParts s (((s.beginGeneration g way).releaseLatches.handAll.evaluateBy
      (State.stepEight adopts)).adoptEvacuate adopts) :=
    (((((beginGeneration_move s g way).mono (by decide)).trans ((releaseLatches_move _).mono (by decide))).trans
      ((handAll_move _).mono (by decide))).trans
      ((evaluateBy_move _ fun t => stepEight_move t adopts).mono (by decide))).trans
      ((adoptEvacuate_move _ _).mono (by decide))
  dsimp only
  exact (((h.trans ((mergedNotice_move _ _).mono (by decide))).trans (stageNotice_move _ _ _)).trans
    ((silenceNotice_move _ _).mono (by decide))).trans (react_move _)

theorem alarmAccept_move (station : Nat) : Move alarmParts s (s.alarmAccept station) := by
  unfold State.alarmAccept
  split
  · exact takeGeneration_move _ _ _ _
  · exact review_move _

/-- What the end of the joining period may touch at the Alarm Stage Unit: the JOINING flag goes with it. -/
abbrev joinedParts : List Part := .station :: alarmParts

theorem endJoiningView_move : Move joinedParts s s.endJoiningView :=
  ((withStation_move s (by decide) _).trans ((rebuildMerged_move _).mono (by decide))).trans
    ((mergedNotice_move _ _).mono (by decide))

theorem endJoiningReview_move (adopts : Bool) : Move joinedParts s (s.endJoiningReview adopts) := by
  unfold State.endJoiningReview
  have h := (withStation_move s (ps := joinedParts) (by decide) { s.station with joining := false }).trans
    ((adoptEvacuate_move _ adopts).mono (by decide))
  dsimp only
  exact ((h.trans ((evaluateBy_move _ evalStage_move).mono (by decide))).trans
    ((handNotices_move _ _).mono (by decide))).trans ((react_move _).mono (by decide))

theorem alarmJoined_move (source : Option PeerRecord) : Move joinedParts s (s.alarmJoined source) := by
  unfold State.alarmJoined
  split
  · exact .ite (endJoiningReview_move s _)
      (((takeGeneration_move s _ _ _).mono (by decide)).trans (endJoiningView_move _))
  · exact endJoiningReview_move s _

theorem requestAck_move : Move alarmParts s (requestAck s).1 := by
  unfold requestAck
  split
  · exact .refl _ _
  · split
    · exact .refl _ _
    · split
      · exact .refl _ _
      · exact ((setAlarm_move s (by decide) _).trans (mark_move _)).trans (review_move _)

theorem requestSilence_move : Move alarmParts s (requestSilence s).1 := by
  unfold requestSilence
  split
  · exact .refl _ _
  · split
    · exact .refl _ _
    · split
      · exact .refl _ _
      · exact ((setAlarm_move s (by decide) _).trans (mark_move _)).trans (review_move _)

theorem requestReset_move : Move alarmParts s (requestReset s).1 := by
  unfold requestReset
  split
  · exact .refl _ _
  · split
    · exact .refl _ _
    · split
      · exact .refl _ _
      · dsimp only
        exact takeGeneration_move s (s.alarm.generation + 1) .ownReset false

theorem requestClearSnapshot_move : Move [.alarm] s (requestClearSnapshot s).1 :=
  (setAlarm_move s (by decide) _).trans (logIf_move _ _ _)

/-! ### Disablements and effects windows -/

theorem setDisablements_move (zones : List Nat) (event : LogEvent) :
    Move alarmParts s (s.setDisablements zones event) :=
  ((((setAlarm_move s (by decide) _).trans (log_move _ _)).trans (mark_move _)).trans
    ((recomputeDisabled_move _).mono (by decide))).trans (react_move _)

theorem changeWindows_move (windows : List WindowEntry) : Move alarmParts s (s.changeWindows windows) :=
  ((((withWindows_move s _).mono (by decide)).trans (mark_move _)).trans
    ((recomputeWindows_move _).mono (by decide))).trans (react_move _)

theorem requestDisable_move (z : Nat) : Move alarmParts s (requestDisable s z).1 := by
  unfold requestDisable
  split
  · exact .refl _ _
  · split
    · exact .refl _ _
    · split
      · exact .refl _ _
      · split
        · exact .refl _ _
        · split
          · exact .refl _ _
          · exact setDisablements_move s _ _

theorem requestEnable_move (z : Nat) : Move alarmParts s (requestEnable s z).1 := by
  unfold requestEnable
  split
  · exact .refl _ _
  · split
    · exact .refl _ _
    · split
      · exact .refl _ _
      · exact setDisablements_move s _ _

theorem requestOpen_move (zones : List Nat) (duration : Nat) : Move alarmParts s (requestOpen s zones duration).1 := by
  unfold requestOpen
  dsimp only
  split
  · exact .refl _ _
  · split
    · exact .refl _ _
    · split
      · exact .refl _ _
      · split
        · exact changeWindows_move s _
        · exact .refl _ _

theorem requestClose_move (selection : WindowSelection) : Move alarmParts s (requestClose s selection).1 := by
  unfold requestClose
  dsimp only
  split
  · exact .refl _ _
  · split
    · exact .ite (.refl _ _) (changeWindows_move s _)
    · split
      · exact .refl _ _
      · split
        · exact changeWindows_move s _
        · exact .refl _ _

/-! ### The Phase Tracker -/

/-- The parts that a phase view taken may touch. -/
abbrev phaseParts : List Part := .phase :: alarmParts

theorem phaseNotice_move : Move alarmParts s s.phaseNotice :=
  ((review_move s).trans ((lightsPhase_move _).mono (by decide))).trans ((callsPhase_move _ _).mono (by decide))

theorem takeView_move (view : PhaseSection) (restart : Bool) : Move phaseParts s (s.takeView view restart) := by
  unfold State.takeView
  have h := (withPhase_move s (ps := phaseParts) (by decide) (s.phase.take view restart)).trans
    (markIf_move _ (s.phase.section != (s.phase.take view restart).section))
  exact .ite (h.trans ((phaseNotice_move _).mono (by decide)))
    (.ite (h.trans ((lightsPhase_move _).mono (by decide))) h)

theorem requestPhase_move (target : Option Phase) (minutes : Nat) :
    Move phaseParts s (requestPhase s target minutes).1 := by
  unfold requestPhase
  split
  · exact .refl _ _
  · split
    · exact .refl _ _
    · split
      · exact .refl _ _
      · split
        · exact .refl _ _
        · split
          · exact .refl _ _
          · exact takeView_move s _ _

theorem requestHold_move (hold : Bool) : Move phaseParts s (requestHold s hold).1 := by
  unfold requestHold
  split
  · exact .refl _ _
  · split
    · exact .refl _ _
    · split
      · exact .refl _ _
      · exact takeView_move s _ _

theorem phaseAccept_move (station : Nat) : Move phaseParts s (s.phaseAccept station) := by
  unfold State.phaseAccept
  split
  · exact .ite (takeView_move s _ _) (.refl _ _)
  · exact .refl _ _

theorem phaseJoined_move (source : Option PeerRecord) : Move phaseParts s (s.phaseJoined source) := by
  unfold State.phaseJoined
  split
  · exact .ite (takeView_move s _ _) (.refl _ _)
  · exact .refl _ _

theorem countInterval_move (remaining : Nat) : Move [.phase, .calls, .bays] s (s.countInterval remaining) :=
  (withPhase_move s (by decide) _).trans (.foldl (fun t m => (callsMark_move t m).mono (by decide)) _ _)

theorem intervalSecond_move : Move [.phase, .calls, .bays] s s.intervalSecond :=
  .ite (countInterval_move s _) (.refl _ _)

/-! ### The Peer Table -/

theorem judgeUnauthorised_move {ps : List Part} (report : Report) : Move ps s (s.judgeUnauthorised report) :=
  setFault_moved s _ _ _

theorem judgeDegraded_move {ps : List Part} (station score : Nat) : Move ps s (s.judgeDegraded station score) :=
  .ite (raiseFault_moved s _ _) (.ite (clearFault_moved s _) (.refl _ _))

theorem setMismatchWarning_move (r : PeerRecord) (mismatch : Bool) :
    Move [.peers] s (s.setMismatchWarning r mismatch) :=
  .ite (.refl _ _) ((withPeer_move s (by decide) _).trans (log_move _ _))

theorem judgeConflict_move {ps : List Part} : Move ps s s.judgeConflict := setFault_moved s _ _ _

theorem acceptRecord_move (r : PeerRecord) (report : Report) (missed : Nat) :
    Move [.peers] s (s.acceptRecord r report missed) :=
  (((((withPeer_move s (by decide) _).trans (judgeDegraded_move _ _ _)).trans (judgeUnauthorised_move _ _)).trans
    (setMismatchWarning_move _ _ _)).trans (clearFault_moved _ _)).trans (judgeConflict_move _)

theorem detectionPeer_move (station : Nat) : Move alarmParts s (s.detectionPeer station) :=
  (((((alignCopies_move s _).mono (by decide)).trans ((recomputeWindows_move _).mono (by decide))).trans
    (react_move _)).trans ((recomputeDisabled_move _).mono (by decide))).trans (react_move _)

theorem acceptNotices_move (station : Nat) (resync live : Bool) :
    Move phaseParts s (s.acceptNotices station resync live) :=
  (((((phaseAccept_move s station).trans ((alarmAccept_move _ _).mono (by decide))).trans
    ((detectionPeer_move _ _).mono (by decide))).trans
    ((curtainAccept_move _ _ _).mono (by decide))).trans ((lightsAccept_move _ _).mono (by decide))).trans
    ((callsAccept_move _ _ _ _).mono (by decide))

/-- The parts that a report or a silence may touch. -/
abbrev peerParts : List Part := .peers :: phaseParts

theorem accept_move (r : PeerRecord) (report : Report) (missed : Nat) (resync : Bool) :
    Move peerParts s (s.accept r report missed resync) :=
  ((acceptRecord_move s _ _ _).mono (by decide)).trans ((acceptNotices_move _ _ _ _).mono (by decide))

theorem judgeSequence_move (r : PeerRecord) (report : Report) : Move peerParts s (s.judgeSequence r report) :=
  .ite (withPeer_move s (by decide) _) (.ite (accept_move s _ _ _ _) (.refl _ _))

theorem duplicateSeen_move : Move [.peers] s s.duplicateSeen :=
  (raiseFault_moved s _ _).trans (withPeers_move _ (by decide) _)

theorem takeReport_move (note : Option (Byte × Byte)) (report : Report) :
    Move peerParts s (s.takeReport note report) := by
  unfold State.takeReport
  refine .ite (.ite (.refl _ _) ((duplicateSeen_move s).mono (by decide))) ?_
  split
  · exact .refl _ _
  · exact .ite (accept_move s _ _ _ _) (judgeSequence_move s _ _)

theorem poisonedNotice_move (station : Nat) : Move [.peers] s (s.poisonedNotice station) := by
  unfold State.poisonedNotice
  refine .ite (duplicateSeen_move s) ?_
  split
  · exact withPeer_move s (by decide) _
  · exact .refl _ _

theorem silenceRecord_move (r : PeerRecord) : Move [.peers] s (s.silenceRecord r) :=
  (((withPeer_move s (by decide) _).trans (raiseFault_moved _ _ _)).trans (setMismatchWarning_move _ _ _)).trans
    (judgeConflict_move _)

theorem silenceNotices_move (station : Nat) : Move alarmParts s (s.silenceNotices station) :=
  ((review_move s).trans (detectionPeer_move _ _)).trans
    ((lightsSilence_move _ _).mono (by decide))

theorem endJoining_move : Move (.station :: phaseParts) s s.endJoining := by
  unfold State.endJoining
  have h₁ : Move (.station :: phaseParts) s (((s.phaseJoined s.joiningSource).alarmJoined s.joiningSource).lightsPhase) :=
    (((phaseJoined_move s _).mono (by decide)).trans ((alarmJoined_move _ _).mono (by decide))).trans
      ((lightsPhase_move _).mono (by decide))
  have h₂ := ((((h₁.trans ((detectionJoined_move _).mono (by decide))).trans
    ((react_move _).mono (by decide))).trans ((recomputeDisabled_move _).mono (by decide))).trans ((react_move _).mono (by decide))).trans
    ((curtainJoined_move _).mono (by decide))
  exact (h₂.trans (withStation_move _ (by decide) _)).trans (mark_move _)

theorem advanceNodeTime_move : Move [.station, .draws] s s.advanceNodeTime :=
  .ite (withStation_move s (by decide) _)
    ((withStation_move s (by decide) _).trans (withDraws_move _ (by decide) _))

theorem second_move : Move [.clock, .lines, .station, .draws] s s.second :=
  ((advanceTo_move s (by decide) (by decide) _).trans (withClock_move _ (by decide) _)).trans
    ((advanceNodeTime_move _).mono (by decide))

theorem leakRecord_move (r : PeerRecord) : Move [.peers] s (s.leakRecord r) :=
  .ite ((withPeer_move s (by decide) _).trans (judgeDegraded_move _ _ _)) (.refl _ _)

theorem leak_move : Move [.peers] s s.leak := .ite (.foldl (fun t r => leakRecord_move t r) _ s) (.refl _ _)

theorem realarmReached_move : Move alarmParts s s.realarmReached := .ite (review_move s) (.refl _ _)

theorem blocksCount_move (wasProven : Bool) : Move peerParts s (s.blocksCount wasProven) :=
  (((((proofAges_move s wasProven).trans ((intervalSecond_move _).mono (by decide))).trans
    ((countDownWindows_move _).mono (by decide))).trans
    ((react_move _).mono (by decide))).trans ((leak_move _).mono (by decide))).trans
    ((realarmReached_move _).mono (by decide))

/-- The parts that an increment of node time may touch. -/
abbrev incrementParts : List Part := [.clock, .lines, .station, .draws] ++ peerParts

theorem increment_move : Move incrementParts s s.increment :=
  ((second_move s).mono (by decide)).trans ((blocksCount_move _ _).mono (by decide))

/-- A row that names what falls due: the next increment of node time where it brings that about, else nothing. -/
theorem whenDue_cases (due : Bool) :
    s.power.running = true ∧ due = true ∧ whenDue s due = .next s.increment.settle ∨
      s.power.running = true ∧ due = false ∧ whenDue s due = .next s.settle ∨
      s.power.running = false ∧ whenDue s due = .next s := by
  cases hr : s.power.running <;> cases due <;> simp [whenDue, whenRunning, hr]

/-! ### The Line Controllers -/

theorem judgeSilence_move {ps : List Part} (l : Line) : Move ps s (s.judgeSilence l) :=
  .ite (raiseFault_moved s _ _) (.refl _ _)

theorem credit_move (l : Line) : Move [.lines] s (s.credit l) :=
  (withLine_move s (by decide) _ _).trans (judgeSilence_move _ _)

theorem handReport_move (l : Line) (report : Report) : Move peerParts s (s.handReport l report) :=
  .ite (takeReport_move s _ _) (.refl _ _)

theorem handPoisoned_move (n : Nat) : Move [.peers] s (s.handPoisoned n) :=
  .ite (poisonedNotice_move s n) (.refl _ _)

theorem classified_move (l : Line) (own : Bool) (verdict : FrameVerdict) :
    Move (.lines :: peerParts) s (s.classified l own verdict) := by
  unfold State.classified
  split
  · exact withLine_move s (by decide) _ _
  · exact .ite (((credit_move s l).mono (by decide)).trans ((handPoisoned_move _ _).mono (by decide)))
      (withLine_move s (by decide) _ _)
  · exact .ite (.refl _ _) (((credit_move s l).mono (by decide)).trans ((handPoisoned_move _ _).mono (by decide)))
  · exact .ite ((handReport_move s _ _).mono (by decide))
      ((((withLine_move s (by decide) _ _).trans ((credit_move _ l).mono (by decide))).trans
        (clearFault_moved _ _)).trans ((handReport_move _ _ _).mono (by decide)))

/-- A frame that has ended: its line, and what the Peer Table and its readers may touch. -/
theorem frameEnds_move (l : Line) (frame : List Byte) : Move (.lines :: peerParts) s (s.frameEnds l frame) :=
  (withLine_move s (by decide) _ _).trans (classified_move _ _ _ _)

/-! ### The Bay Controller -/

theorem bayKey_move {ps : List Part} (b : Bay) : Move ps s (s.bayKey b) :=
  (setFault_moved s _ _ _).trans (setFault_moved _ _ _ _)

theorem changeBay_move (b : Bay) (record : BayRecord) : Move [.bays] s (s.changeBay b record) :=
  (withBay_move s (by decide) _ _).trans (bayKey_move _ _)

theorem userLoses_move (b : Bay) (type : Option ModuleType) : Move alarmParts s (s.userLoses b type) := by
  unfold State.userLoses
  split
  · exact ((loopLost_move s b).mono (by decide)).trans (react_move _)
  · exact (driveLost_move s).mono (by decide)
  · exact (callLost_move s b).mono (by decide)
  · exact .refl _ _
  · exact .refl _ _

theorem lostNotice_move (b : Bay) (cause : Option LostCause) (type : Option ModuleType) :
    Move alarmParts s (s.lostNotice b cause type) :=
  (withBay_move s (by decide) _ _).trans (userLoses_move _ _ _)

theorem onlineNotice_move (b : Bay) (type : ModuleType) : Move alarmParts s (s.onlineNotice b type) := by
  unfold State.onlineNotice
  split
  · exact (driveOnline_move s).mono (by decide)
  · exact (callCameOnline_move s b).mono (by decide)
  · exact .refl _ _
  · exact .refl _ _

/-- The beginning of an exchange touches the bay alone. -/
theorem beginExchange_move (b : Bay) (type : ModuleType) : Move [.bays] s (s.beginExchange b type) :=
  withBay_move s (by decide) _ _

theorem leave_move (b : Bay) (record : BayRecord) (cause : Option LostCause) {logged : State → State} (h : ∀ t, Move [.bays] t (logged t)) :
    Move alarmParts s (s.leave b record cause logged) := by
  unfold State.leave
  have h' : Move alarmParts s (logged (s.changeBay b record)) :=
    ((changeBay_move s b record).mono (by decide)).trans ((h _).mono (by decide))
  exact .ite (h'.trans (lostNotice_move _ _ _ _)) h'

theorem failBay_move (b : Bay) (reason : FailureReason) : Move alarmParts s (s.failBay b reason) :=
  leave_move s b _ _ fun t => .refl _ t

theorem settleBay_move (b : Bay) (presence : Presence) : Move [.bays] s (s.settleBay b presence) :=
  changeBay_move s b _

theorem removeModule_move (b : Bay) : Move alarmParts s (s.removeModule b) :=
  leave_move s b _ _ fun t => log_move t _

theorem takePresence_move (b : Bay) (presence : Presence) : Move alarmParts s (s.takePresence b presence) := by
  unfold State.takePresence
  split
  all_goals first
    | exact .refl _ _
    | exact removeModule_move s b
    | exact (settleBay_move s b _).mono (by decide)
    | exact (changeBay_move s b _).mono (by decide)
    | exact withBay_move s (by decide) b _

theorem typeRead_move (b : Bay) (type : ModuleType) : Move [.bays] s (s.typeRead b type) :=
  .ite (changeBay_move s b _) (changeBay_move s b _)

theorem debounced_move (b : Bay) (sense : ModuleType) : Move alarmParts s (s.debounced b sense) := by
  unfold State.debounced
  split
  all_goals first
    | exact (typeRead_move s b sense).mono (by decide)
    | exact (changeBay_move s b _).mono (by decide)
    | exact leave_move s b _ _ fun t => .refl _ t
    | exact withBay_move s (by decide) b _

theorem answered_move {ps : List Part} (h : .bays ∈ ps) (b : Bay) : Move ps s (s.answered b) := withBay_move s h _ _

theorem lostExchange_move (b : Bay) : Move [.bays, .draws] s (s.lostExchange b) :=
  (withBay_move s (by decide) _ _).trans (withDraws_move _ (by decide) _)

theorem unanswered_move (b : Bay) : Move (.draws :: alarmParts) s (s.unanswered b) := by
  unfold State.unanswered
  have h₀ : Move (.draws :: alarmParts) s (s.lostExchange b) := (lostExchange_move s b).mono (by decide)
  dsimp only
  generalize s.lostExchange b = r at h₀ ⊢
  have h : Move (.draws :: alarmParts) s (if (s.bay b).sensed = some .drive then r.missingSample else r) :=
    .ite (h₀.trans ((missingSample_move r).mono (by decide))) h₀
  generalize (if (s.bay b).sensed = some .drive then r.missingSample else r) = t at h ⊢
  have h' := h.trans (withBay_move t (ps := .draws :: alarmParts) (by decide) b
    { t.bay b with missed := min 3 ((t.bay b).missed + 1) })
  exact .ite (h'.trans ((failBay_move _ _ _).mono (by decide))) h'

theorem playEnds_move {ps : List Part} (h : .bays ∈ ps) (b : Bay) (play : Byte) : Move ps s (s.playEnds b play) :=
  (answered_move s h b).trans (withBay_move _ h _ _)

theorem requestReleaseTrace_move : Move [.descent] s (requestReleaseTrace s).1 :=
  (withDescent_move s (by decide) _).trans (logIf_move _ _ _)

/-! ### The Report Composer -/

/-- One composition: the composer, the lines, the counter of draws and COMPOSER CHECK, nothing else. -/
theorem composeAt_changes (idle : Option Line) :
    ∃ t : State, FaultMove .composerCheck t (s.composeAt idle) ∧
      t = ((s.withComposer { s.composer with
        sequence := s.composer.sequence + 1, changePending := false, image := some s.composed.report
        composedAt := s.clock.now }).withLines ⟨s.placed idle .a, s.placed idle .b⟩).withDraws (s.draws + 1) :=
  ⟨_, setFault_move _ _ _ _, rfl⟩

/-- What follows a command's effect: nothing, or one composition. -/
theorem settleAt_cases (idle : Option Line) :
    s.settleAt idle = s ∨ s.composer.changePending = true ∧ s.settleAt idle = s.composeAt idle := by
  unfold State.settleAt
  split
  · rename_i h
    exact .inr ⟨by simp only [Bool.and_eq_true] at h; exact h.1, rfl⟩
  · exact .inl rfl

theorem compose_eq : s.compose = s.composeAt none := rfl

theorem settle_eq : s.settle = s.settleAt none := rfl

/-- FRAME_RECEIVED: of a running station the effect of the frame, and a composition that finds the line idle; of a station
in reset, nothing. -/
theorem execFrameReceived_cases (l : Line) (frame : List Byte) :
    s.power.running = true ∧ execFrameReceived l frame s = .next ((s.frameEnds l frame).settleAt (some l)) ∨
      s.power.running = false ∧ execFrameReceived l frame s = .next s := by
  unfold execFrameReceived
  split
  · exact .inl ⟨‹_›, rfl⟩
  · exact .inr ⟨Bool.eq_false_iff.mpr ‹_›, rfl⟩

/-- A command at which no line falls idle completes with the composition of `settle`. -/
theorem completes_iff {c : Instr} {u : State} (h : idleLine c = none) : completes c s u ↔ exec c s = .next u.settle := by
  rw [completes, h, settle_eq]

/-- A command of a running station: its effect and what follows it; of a station in reset, nothing. -/
theorem whenRunning_cases (effect : State → State) :
    s.power.running = true ∧ whenRunning s effect = .next (effect s).settle ∨
      s.power.running = false ∧ whenRunning s effect = .next s := by
  unfold whenRunning
  split
  · exact .inl ⟨‹_›, rfl⟩
  · exact .inr ⟨Bool.eq_false_iff.mpr ‹_›, rfl⟩

end Sys2Proof.Machine
end

