-- ==== Sys2Proof/Laws/State.lean ====
section
/-! SUPPORT. One lemma for each field after each block update of the state. -/

namespace Sys2Proof.Machine

/-! ### State.withPending -/

@[simp] theorem State.withPending_pending (s : State) (x : List Instr) : (s.withPending x).pending = x := rfl
@[simp] theorem State.withPending_clock (s : State) (x : List Instr) : (s.withPending x).clock = s.clock := rfl
@[simp] theorem State.withPending_power (s : State) (x : List Instr) : (s.withPending x).power = s.power := rfl
@[simp] theorem State.withPending_station (s : State) (x : List Instr) : (s.withPending x).station = s.station := rfl
@[simp] theorem State.withPending_lines (s : State) (x : List Instr) : (s.withPending x).lines = s.lines := rfl
@[simp] theorem State.withPending_composer (s : State) (x : List Instr) : (s.withPending x).composer = s.composer := rfl
@[simp] theorem State.withPending_peers (s : State) (x : List Instr) : (s.withPending x).peers = s.peers := rfl
@[simp] theorem State.withPending_phase (s : State) (x : List Instr) : (s.withPending x).phase = s.phase := rfl
@[simp] theorem State.withPending_detection (s : State) (x : List Instr) : (s.withPending x).detection = s.detection := rfl
@[simp] theorem State.withPending_alarm (s : State) (x : List Instr) : (s.withPending x).alarm = s.alarm := rfl
@[simp] theorem State.withPending_curtain (s : State) (x : List Instr) : (s.withPending x).curtain = s.curtain := rfl
@[simp] theorem State.withPending_descent (s : State) (x : List Instr) : (s.withPending x).descent = s.descent := rfl
@[simp] theorem State.withPending_lights (s : State) (x : List Instr) : (s.withPending x).lights = s.lights := rfl
@[simp] theorem State.withPending_calls (s : State) (x : List Instr) : (s.withPending x).calls = s.calls := rfl
@[simp] theorem State.withPending_bays (s : State) (x : List Instr) : (s.withPending x).bays = s.bays := rfl
@[simp] theorem State.withPending_panel (s : State) (x : List Instr) : (s.withPending x).panel = s.panel := rfl
@[simp] theorem State.withPending_draws (s : State) (x : List Instr) : (s.withPending x).draws = s.draws := rfl

/-! ### State.withClock -/

@[simp] theorem State.withClock_pending (s : State) (x : Clock) : (s.withClock x).pending = s.pending := rfl
@[simp] theorem State.withClock_clock (s : State) (x : Clock) : (s.withClock x).clock = x := rfl
@[simp] theorem State.withClock_power (s : State) (x : Clock) : (s.withClock x).power = s.power := rfl
@[simp] theorem State.withClock_station (s : State) (x : Clock) : (s.withClock x).station = s.station := rfl
@[simp] theorem State.withClock_lines (s : State) (x : Clock) : (s.withClock x).lines = s.lines := rfl
@[simp] theorem State.withClock_composer (s : State) (x : Clock) : (s.withClock x).composer = s.composer := rfl
@[simp] theorem State.withClock_peers (s : State) (x : Clock) : (s.withClock x).peers = s.peers := rfl
@[simp] theorem State.withClock_phase (s : State) (x : Clock) : (s.withClock x).phase = s.phase := rfl
@[simp] theorem State.withClock_detection (s : State) (x : Clock) : (s.withClock x).detection = s.detection := rfl
@[simp] theorem State.withClock_alarm (s : State) (x : Clock) : (s.withClock x).alarm = s.alarm := rfl
@[simp] theorem State.withClock_curtain (s : State) (x : Clock) : (s.withClock x).curtain = s.curtain := rfl
@[simp] theorem State.withClock_descent (s : State) (x : Clock) : (s.withClock x).descent = s.descent := rfl
@[simp] theorem State.withClock_lights (s : State) (x : Clock) : (s.withClock x).lights = s.lights := rfl
@[simp] theorem State.withClock_calls (s : State) (x : Clock) : (s.withClock x).calls = s.calls := rfl
@[simp] theorem State.withClock_bays (s : State) (x : Clock) : (s.withClock x).bays = s.bays := rfl
@[simp] theorem State.withClock_panel (s : State) (x : Clock) : (s.withClock x).panel = s.panel := rfl
@[simp] theorem State.withClock_draws (s : State) (x : Clock) : (s.withClock x).draws = s.draws := rfl

/-! ### State.withPower -/

@[simp] theorem State.withPower_pending (s : State) (x : Power) : (s.withPower x).pending = s.pending := rfl
@[simp] theorem State.withPower_clock (s : State) (x : Power) : (s.withPower x).clock = s.clock := rfl
@[simp] theorem State.withPower_power (s : State) (x : Power) : (s.withPower x).power = x := rfl
@[simp] theorem State.withPower_station (s : State) (x : Power) : (s.withPower x).station = s.station := rfl
@[simp] theorem State.withPower_lines (s : State) (x : Power) : (s.withPower x).lines = s.lines := rfl
@[simp] theorem State.withPower_composer (s : State) (x : Power) : (s.withPower x).composer = s.composer := rfl
@[simp] theorem State.withPower_peers (s : State) (x : Power) : (s.withPower x).peers = s.peers := rfl
@[simp] theorem State.withPower_phase (s : State) (x : Power) : (s.withPower x).phase = s.phase := rfl
@[simp] theorem State.withPower_detection (s : State) (x : Power) : (s.withPower x).detection = s.detection := rfl
@[simp] theorem State.withPower_alarm (s : State) (x : Power) : (s.withPower x).alarm = s.alarm := rfl
@[simp] theorem State.withPower_curtain (s : State) (x : Power) : (s.withPower x).curtain = s.curtain := rfl
@[simp] theorem State.withPower_descent (s : State) (x : Power) : (s.withPower x).descent = s.descent := rfl
@[simp] theorem State.withPower_lights (s : State) (x : Power) : (s.withPower x).lights = s.lights := rfl
@[simp] theorem State.withPower_calls (s : State) (x : Power) : (s.withPower x).calls = s.calls := rfl
@[simp] theorem State.withPower_bays (s : State) (x : Power) : (s.withPower x).bays = s.bays := rfl
@[simp] theorem State.withPower_panel (s : State) (x : Power) : (s.withPower x).panel = s.panel := rfl
@[simp] theorem State.withPower_draws (s : State) (x : Power) : (s.withPower x).draws = s.draws := rfl

/-! ### State.withStation -/

@[simp] theorem State.withStation_pending (s : State) (x : Station) : (s.withStation x).pending = s.pending := rfl
@[simp] theorem State.withStation_clock (s : State) (x : Station) : (s.withStation x).clock = s.clock := rfl
@[simp] theorem State.withStation_power (s : State) (x : Station) : (s.withStation x).power = s.power := rfl
@[simp] theorem State.withStation_station (s : State) (x : Station) : (s.withStation x).station = x := rfl
@[simp] theorem State.withStation_lines (s : State) (x : Station) : (s.withStation x).lines = s.lines := rfl
@[simp] theorem State.withStation_composer (s : State) (x : Station) : (s.withStation x).composer = s.composer := rfl
@[simp] theorem State.withStation_peers (s : State) (x : Station) : (s.withStation x).peers = s.peers := rfl
@[simp] theorem State.withStation_phase (s : State) (x : Station) : (s.withStation x).phase = s.phase := rfl
@[simp] theorem State.withStation_detection (s : State) (x : Station) : (s.withStation x).detection = s.detection := rfl
@[simp] theorem State.withStation_alarm (s : State) (x : Station) : (s.withStation x).alarm = s.alarm := rfl
@[simp] theorem State.withStation_curtain (s : State) (x : Station) : (s.withStation x).curtain = s.curtain := rfl
@[simp] theorem State.withStation_descent (s : State) (x : Station) : (s.withStation x).descent = s.descent := rfl
@[simp] theorem State.withStation_lights (s : State) (x : Station) : (s.withStation x).lights = s.lights := rfl
@[simp] theorem State.withStation_calls (s : State) (x : Station) : (s.withStation x).calls = s.calls := rfl
@[simp] theorem State.withStation_bays (s : State) (x : Station) : (s.withStation x).bays = s.bays := rfl
@[simp] theorem State.withStation_panel (s : State) (x : Station) : (s.withStation x).panel = s.panel := rfl
@[simp] theorem State.withStation_draws (s : State) (x : Station) : (s.withStation x).draws = s.draws := rfl

/-! ### State.withLines -/

@[simp] theorem State.withLines_pending (s : State) (x : PerLine LineController) : (s.withLines x).pending = s.pending := rfl
@[simp] theorem State.withLines_clock (s : State) (x : PerLine LineController) : (s.withLines x).clock = s.clock := rfl
@[simp] theorem State.withLines_power (s : State) (x : PerLine LineController) : (s.withLines x).power = s.power := rfl
@[simp] theorem State.withLines_station (s : State) (x : PerLine LineController) : (s.withLines x).station = s.station := rfl
@[simp] theorem State.withLines_lines (s : State) (x : PerLine LineController) : (s.withLines x).lines = x := rfl
@[simp] theorem State.withLines_composer (s : State) (x : PerLine LineController) : (s.withLines x).composer = s.composer := rfl
@[simp] theorem State.withLines_peers (s : State) (x : PerLine LineController) : (s.withLines x).peers = s.peers := rfl
@[simp] theorem State.withLines_phase (s : State) (x : PerLine LineController) : (s.withLines x).phase = s.phase := rfl
@[simp] theorem State.withLines_detection (s : State) (x : PerLine LineController) : (s.withLines x).detection = s.detection := rfl
@[simp] theorem State.withLines_alarm (s : State) (x : PerLine LineController) : (s.withLines x).alarm = s.alarm := rfl
@[simp] theorem State.withLines_curtain (s : State) (x : PerLine LineController) : (s.withLines x).curtain = s.curtain := rfl
@[simp] theorem State.withLines_descent (s : State) (x : PerLine LineController) : (s.withLines x).descent = s.descent := rfl
@[simp] theorem State.withLines_lights (s : State) (x : PerLine LineController) : (s.withLines x).lights = s.lights := rfl
@[simp] theorem State.withLines_calls (s : State) (x : PerLine LineController) : (s.withLines x).calls = s.calls := rfl
@[simp] theorem State.withLines_bays (s : State) (x : PerLine LineController) : (s.withLines x).bays = s.bays := rfl
@[simp] theorem State.withLines_panel (s : State) (x : PerLine LineController) : (s.withLines x).panel = s.panel := rfl
@[simp] theorem State.withLines_draws (s : State) (x : PerLine LineController) : (s.withLines x).draws = s.draws := rfl

/-! ### State.withComposer -/

@[simp] theorem State.withComposer_pending (s : State) (x : Composer) : (s.withComposer x).pending = s.pending := rfl
@[simp] theorem State.withComposer_clock (s : State) (x : Composer) : (s.withComposer x).clock = s.clock := rfl
@[simp] theorem State.withComposer_power (s : State) (x : Composer) : (s.withComposer x).power = s.power := rfl
@[simp] theorem State.withComposer_station (s : State) (x : Composer) : (s.withComposer x).station = s.station := rfl
@[simp] theorem State.withComposer_lines (s : State) (x : Composer) : (s.withComposer x).lines = s.lines := rfl
@[simp] theorem State.withComposer_composer (s : State) (x : Composer) : (s.withComposer x).composer = x := rfl
@[simp] theorem State.withComposer_peers (s : State) (x : Composer) : (s.withComposer x).peers = s.peers := rfl
@[simp] theorem State.withComposer_phase (s : State) (x : Composer) : (s.withComposer x).phase = s.phase := rfl
@[simp] theorem State.withComposer_detection (s : State) (x : Composer) : (s.withComposer x).detection = s.detection := rfl
@[simp] theorem State.withComposer_alarm (s : State) (x : Composer) : (s.withComposer x).alarm = s.alarm := rfl
@[simp] theorem State.withComposer_curtain (s : State) (x : Composer) : (s.withComposer x).curtain = s.curtain := rfl
@[simp] theorem State.withComposer_descent (s : State) (x : Composer) : (s.withComposer x).descent = s.descent := rfl
@[simp] theorem State.withComposer_lights (s : State) (x : Composer) : (s.withComposer x).lights = s.lights := rfl
@[simp] theorem State.withComposer_calls (s : State) (x : Composer) : (s.withComposer x).calls = s.calls := rfl
@[simp] theorem State.withComposer_bays (s : State) (x : Composer) : (s.withComposer x).bays = s.bays := rfl
@[simp] theorem State.withComposer_panel (s : State) (x : Composer) : (s.withComposer x).panel = s.panel := rfl
@[simp] theorem State.withComposer_draws (s : State) (x : Composer) : (s.withComposer x).draws = s.draws := rfl

/-! ### State.withPeers -/

@[simp] theorem State.withPeers_pending (s : State) (x : PeerTable) : (s.withPeers x).pending = s.pending := rfl
@[simp] theorem State.withPeers_clock (s : State) (x : PeerTable) : (s.withPeers x).clock = s.clock := rfl
@[simp] theorem State.withPeers_power (s : State) (x : PeerTable) : (s.withPeers x).power = s.power := rfl
@[simp] theorem State.withPeers_station (s : State) (x : PeerTable) : (s.withPeers x).station = s.station := rfl
@[simp] theorem State.withPeers_lines (s : State) (x : PeerTable) : (s.withPeers x).lines = s.lines := rfl
@[simp] theorem State.withPeers_composer (s : State) (x : PeerTable) : (s.withPeers x).composer = s.composer := rfl
@[simp] theorem State.withPeers_peers (s : State) (x : PeerTable) : (s.withPeers x).peers = x := rfl
@[simp] theorem State.withPeers_phase (s : State) (x : PeerTable) : (s.withPeers x).phase = s.phase := rfl
@[simp] theorem State.withPeers_detection (s : State) (x : PeerTable) : (s.withPeers x).detection = s.detection := rfl
@[simp] theorem State.withPeers_alarm (s : State) (x : PeerTable) : (s.withPeers x).alarm = s.alarm := rfl
@[simp] theorem State.withPeers_curtain (s : State) (x : PeerTable) : (s.withPeers x).curtain = s.curtain := rfl
@[simp] theorem State.withPeers_descent (s : State) (x : PeerTable) : (s.withPeers x).descent = s.descent := rfl
@[simp] theorem State.withPeers_lights (s : State) (x : PeerTable) : (s.withPeers x).lights = s.lights := rfl
@[simp] theorem State.withPeers_calls (s : State) (x : PeerTable) : (s.withPeers x).calls = s.calls := rfl
@[simp] theorem State.withPeers_bays (s : State) (x : PeerTable) : (s.withPeers x).bays = s.bays := rfl
@[simp] theorem State.withPeers_panel (s : State) (x : PeerTable) : (s.withPeers x).panel = s.panel := rfl
@[simp] theorem State.withPeers_draws (s : State) (x : PeerTable) : (s.withPeers x).draws = s.draws := rfl

/-! ### State.withPhase -/

@[simp] theorem State.withPhase_pending (s : State) (x : PhaseView) : (s.withPhase x).pending = s.pending := rfl
@[simp] theorem State.withPhase_clock (s : State) (x : PhaseView) : (s.withPhase x).clock = s.clock := rfl
@[simp] theorem State.withPhase_power (s : State) (x : PhaseView) : (s.withPhase x).power = s.power := rfl
@[simp] theorem State.withPhase_station (s : State) (x : PhaseView) : (s.withPhase x).station = s.station := rfl
@[simp] theorem State.withPhase_lines (s : State) (x : PhaseView) : (s.withPhase x).lines = s.lines := rfl
@[simp] theorem State.withPhase_composer (s : State) (x : PhaseView) : (s.withPhase x).composer = s.composer := rfl
@[simp] theorem State.withPhase_peers (s : State) (x : PhaseView) : (s.withPhase x).peers = s.peers := rfl
@[simp] theorem State.withPhase_phase (s : State) (x : PhaseView) : (s.withPhase x).phase = x := rfl
@[simp] theorem State.withPhase_detection (s : State) (x : PhaseView) : (s.withPhase x).detection = s.detection := rfl
@[simp] theorem State.withPhase_alarm (s : State) (x : PhaseView) : (s.withPhase x).alarm = s.alarm := rfl
@[simp] theorem State.withPhase_curtain (s : State) (x : PhaseView) : (s.withPhase x).curtain = s.curtain := rfl
@[simp] theorem State.withPhase_descent (s : State) (x : PhaseView) : (s.withPhase x).descent = s.descent := rfl
@[simp] theorem State.withPhase_lights (s : State) (x : PhaseView) : (s.withPhase x).lights = s.lights := rfl
@[simp] theorem State.withPhase_calls (s : State) (x : PhaseView) : (s.withPhase x).calls = s.calls := rfl
@[simp] theorem State.withPhase_bays (s : State) (x : PhaseView) : (s.withPhase x).bays = s.bays := rfl
@[simp] theorem State.withPhase_panel (s : State) (x : PhaseView) : (s.withPhase x).panel = s.panel := rfl
@[simp] theorem State.withPhase_draws (s : State) (x : PhaseView) : (s.withPhase x).draws = s.draws := rfl

/-! ### State.withDetection -/

@[simp] theorem State.withDetection_pending (s : State) (x : Detection) : (s.withDetection x).pending = s.pending := rfl
@[simp] theorem State.withDetection_clock (s : State) (x : Detection) : (s.withDetection x).clock = s.clock := rfl
@[simp] theorem State.withDetection_power (s : State) (x : Detection) : (s.withDetection x).power = s.power := rfl
@[simp] theorem State.withDetection_station (s : State) (x : Detection) : (s.withDetection x).station = s.station := rfl
@[simp] theorem State.withDetection_lines (s : State) (x : Detection) : (s.withDetection x).lines = s.lines := rfl
@[simp] theorem State.withDetection_composer (s : State) (x : Detection) : (s.withDetection x).composer = s.composer := rfl
@[simp] theorem State.withDetection_peers (s : State) (x : Detection) : (s.withDetection x).peers = s.peers := rfl
@[simp] theorem State.withDetection_phase (s : State) (x : Detection) : (s.withDetection x).phase = s.phase := rfl
@[simp] theorem State.withDetection_detection (s : State) (x : Detection) : (s.withDetection x).detection = x := rfl
@[simp] theorem State.withDetection_alarm (s : State) (x : Detection) : (s.withDetection x).alarm = s.alarm := rfl
@[simp] theorem State.withDetection_curtain (s : State) (x : Detection) : (s.withDetection x).curtain = s.curtain := rfl
@[simp] theorem State.withDetection_descent (s : State) (x : Detection) : (s.withDetection x).descent = s.descent := rfl
@[simp] theorem State.withDetection_lights (s : State) (x : Detection) : (s.withDetection x).lights = s.lights := rfl
@[simp] theorem State.withDetection_calls (s : State) (x : Detection) : (s.withDetection x).calls = s.calls := rfl
@[simp] theorem State.withDetection_bays (s : State) (x : Detection) : (s.withDetection x).bays = s.bays := rfl
@[simp] theorem State.withDetection_panel (s : State) (x : Detection) : (s.withDetection x).panel = s.panel := rfl
@[simp] theorem State.withDetection_draws (s : State) (x : Detection) : (s.withDetection x).draws = s.draws := rfl

/-! ### State.withAlarm -/

@[simp] theorem State.withAlarm_pending (s : State) (x : Alarm) : (s.withAlarm x).pending = s.pending := rfl
@[simp] theorem State.withAlarm_clock (s : State) (x : Alarm) : (s.withAlarm x).clock = s.clock := rfl
@[simp] theorem State.withAlarm_power (s : State) (x : Alarm) : (s.withAlarm x).power = s.power := rfl
@[simp] theorem State.withAlarm_station (s : State) (x : Alarm) : (s.withAlarm x).station = s.station := rfl
@[simp] theorem State.withAlarm_lines (s : State) (x : Alarm) : (s.withAlarm x).lines = s.lines := rfl
@[simp] theorem State.withAlarm_composer (s : State) (x : Alarm) : (s.withAlarm x).composer = s.composer := rfl
@[simp] theorem State.withAlarm_peers (s : State) (x : Alarm) : (s.withAlarm x).peers = s.peers := rfl
@[simp] theorem State.withAlarm_phase (s : State) (x : Alarm) : (s.withAlarm x).phase = s.phase := rfl
@[simp] theorem State.withAlarm_detection (s : State) (x : Alarm) : (s.withAlarm x).detection = s.detection := rfl
@[simp] theorem State.withAlarm_alarm (s : State) (x : Alarm) : (s.withAlarm x).alarm = x := rfl
@[simp] theorem State.withAlarm_curtain (s : State) (x : Alarm) : (s.withAlarm x).curtain = s.curtain := rfl
@[simp] theorem State.withAlarm_descent (s : State) (x : Alarm) : (s.withAlarm x).descent = s.descent := rfl
@[simp] theorem State.withAlarm_lights (s : State) (x : Alarm) : (s.withAlarm x).lights = s.lights := rfl
@[simp] theorem State.withAlarm_calls (s : State) (x : Alarm) : (s.withAlarm x).calls = s.calls := rfl
@[simp] theorem State.withAlarm_bays (s : State) (x : Alarm) : (s.withAlarm x).bays = s.bays := rfl
@[simp] theorem State.withAlarm_panel (s : State) (x : Alarm) : (s.withAlarm x).panel = s.panel := rfl
@[simp] theorem State.withAlarm_draws (s : State) (x : Alarm) : (s.withAlarm x).draws = s.draws := rfl

/-! ### State.withCurtain -/

@[simp] theorem State.withCurtain_pending (s : State) (x : Curtain) : (s.withCurtain x).pending = s.pending := rfl
@[simp] theorem State.withCurtain_clock (s : State) (x : Curtain) : (s.withCurtain x).clock = s.clock := rfl
@[simp] theorem State.withCurtain_power (s : State) (x : Curtain) : (s.withCurtain x).power = s.power := rfl
@[simp] theorem State.withCurtain_station (s : State) (x : Curtain) : (s.withCurtain x).station = s.station := rfl
@[simp] theorem State.withCurtain_lines (s : State) (x : Curtain) : (s.withCurtain x).lines = s.lines := rfl
@[simp] theorem State.withCurtain_composer (s : State) (x : Curtain) : (s.withCurtain x).composer = s.composer := rfl
@[simp] theorem State.withCurtain_peers (s : State) (x : Curtain) : (s.withCurtain x).peers = s.peers := rfl
@[simp] theorem State.withCurtain_phase (s : State) (x : Curtain) : (s.withCurtain x).phase = s.phase := rfl
@[simp] theorem State.withCurtain_detection (s : State) (x : Curtain) : (s.withCurtain x).detection = s.detection := rfl
@[simp] theorem State.withCurtain_alarm (s : State) (x : Curtain) : (s.withCurtain x).alarm = s.alarm := rfl
@[simp] theorem State.withCurtain_curtain (s : State) (x : Curtain) : (s.withCurtain x).curtain = x := rfl
@[simp] theorem State.withCurtain_descent (s : State) (x : Curtain) : (s.withCurtain x).descent = s.descent := rfl
@[simp] theorem State.withCurtain_lights (s : State) (x : Curtain) : (s.withCurtain x).lights = s.lights := rfl
@[simp] theorem State.withCurtain_calls (s : State) (x : Curtain) : (s.withCurtain x).calls = s.calls := rfl
@[simp] theorem State.withCurtain_bays (s : State) (x : Curtain) : (s.withCurtain x).bays = s.bays := rfl
@[simp] theorem State.withCurtain_panel (s : State) (x : Curtain) : (s.withCurtain x).panel = s.panel := rfl
@[simp] theorem State.withCurtain_draws (s : State) (x : Curtain) : (s.withCurtain x).draws = s.draws := rfl

/-! ### State.withDescent -/

@[simp] theorem State.withDescent_pending (s : State) (x : Supervisor) : (s.withDescent x).pending = s.pending := rfl
@[simp] theorem State.withDescent_clock (s : State) (x : Supervisor) : (s.withDescent x).clock = s.clock := rfl
@[simp] theorem State.withDescent_power (s : State) (x : Supervisor) : (s.withDescent x).power = s.power := rfl
@[simp] theorem State.withDescent_station (s : State) (x : Supervisor) : (s.withDescent x).station = s.station := rfl
@[simp] theorem State.withDescent_lines (s : State) (x : Supervisor) : (s.withDescent x).lines = s.lines := rfl
@[simp] theorem State.withDescent_composer (s : State) (x : Supervisor) : (s.withDescent x).composer = s.composer := rfl
@[simp] theorem State.withDescent_peers (s : State) (x : Supervisor) : (s.withDescent x).peers = s.peers := rfl
@[simp] theorem State.withDescent_phase (s : State) (x : Supervisor) : (s.withDescent x).phase = s.phase := rfl
@[simp] theorem State.withDescent_detection (s : State) (x : Supervisor) : (s.withDescent x).detection = s.detection := rfl
@[simp] theorem State.withDescent_alarm (s : State) (x : Supervisor) : (s.withDescent x).alarm = s.alarm := rfl
@[simp] theorem State.withDescent_curtain (s : State) (x : Supervisor) : (s.withDescent x).curtain = s.curtain := rfl
@[simp] theorem State.withDescent_descent (s : State) (x : Supervisor) : (s.withDescent x).descent = x := rfl
@[simp] theorem State.withDescent_lights (s : State) (x : Supervisor) : (s.withDescent x).lights = s.lights := rfl
@[simp] theorem State.withDescent_calls (s : State) (x : Supervisor) : (s.withDescent x).calls = s.calls := rfl
@[simp] theorem State.withDescent_bays (s : State) (x : Supervisor) : (s.withDescent x).bays = s.bays := rfl
@[simp] theorem State.withDescent_panel (s : State) (x : Supervisor) : (s.withDescent x).panel = s.panel := rfl
@[simp] theorem State.withDescent_draws (s : State) (x : Supervisor) : (s.withDescent x).draws = s.draws := rfl

/-! ### State.withLights -/

@[simp] theorem State.withLights_pending (s : State) (x : Lights) : (s.withLights x).pending = s.pending := rfl
@[simp] theorem State.withLights_clock (s : State) (x : Lights) : (s.withLights x).clock = s.clock := rfl
@[simp] theorem State.withLights_power (s : State) (x : Lights) : (s.withLights x).power = s.power := rfl
@[simp] theorem State.withLights_station (s : State) (x : Lights) : (s.withLights x).station = s.station := rfl
@[simp] theorem State.withLights_lines (s : State) (x : Lights) : (s.withLights x).lines = s.lines := rfl
@[simp] theorem State.withLights_composer (s : State) (x : Lights) : (s.withLights x).composer = s.composer := rfl
@[simp] theorem State.withLights_peers (s : State) (x : Lights) : (s.withLights x).peers = s.peers := rfl
@[simp] theorem State.withLights_phase (s : State) (x : Lights) : (s.withLights x).phase = s.phase := rfl
@[simp] theorem State.withLights_detection (s : State) (x : Lights) : (s.withLights x).detection = s.detection := rfl
@[simp] theorem State.withLights_alarm (s : State) (x : Lights) : (s.withLights x).alarm = s.alarm := rfl
@[simp] theorem State.withLights_curtain (s : State) (x : Lights) : (s.withLights x).curtain = s.curtain := rfl
@[simp] theorem State.withLights_descent (s : State) (x : Lights) : (s.withLights x).descent = s.descent := rfl
@[simp] theorem State.withLights_lights (s : State) (x : Lights) : (s.withLights x).lights = x := rfl
@[simp] theorem State.withLights_calls (s : State) (x : Lights) : (s.withLights x).calls = s.calls := rfl
@[simp] theorem State.withLights_bays (s : State) (x : Lights) : (s.withLights x).bays = s.bays := rfl
@[simp] theorem State.withLights_panel (s : State) (x : Lights) : (s.withLights x).panel = s.panel := rfl
@[simp] theorem State.withLights_draws (s : State) (x : Lights) : (s.withLights x).draws = s.draws := rfl

/-! ### State.withCalls -/

@[simp] theorem State.withCalls_pending (s : State) (x : Calls) : (s.withCalls x).pending = s.pending := rfl
@[simp] theorem State.withCalls_clock (s : State) (x : Calls) : (s.withCalls x).clock = s.clock := rfl
@[simp] theorem State.withCalls_power (s : State) (x : Calls) : (s.withCalls x).power = s.power := rfl
@[simp] theorem State.withCalls_station (s : State) (x : Calls) : (s.withCalls x).station = s.station := rfl
@[simp] theorem State.withCalls_lines (s : State) (x : Calls) : (s.withCalls x).lines = s.lines := rfl
@[simp] theorem State.withCalls_composer (s : State) (x : Calls) : (s.withCalls x).composer = s.composer := rfl
@[simp] theorem State.withCalls_peers (s : State) (x : Calls) : (s.withCalls x).peers = s.peers := rfl
@[simp] theorem State.withCalls_phase (s : State) (x : Calls) : (s.withCalls x).phase = s.phase := rfl
@[simp] theorem State.withCalls_detection (s : State) (x : Calls) : (s.withCalls x).detection = s.detection := rfl
@[simp] theorem State.withCalls_alarm (s : State) (x : Calls) : (s.withCalls x).alarm = s.alarm := rfl
@[simp] theorem State.withCalls_curtain (s : State) (x : Calls) : (s.withCalls x).curtain = s.curtain := rfl
@[simp] theorem State.withCalls_descent (s : State) (x : Calls) : (s.withCalls x).descent = s.descent := rfl
@[simp] theorem State.withCalls_lights (s : State) (x : Calls) : (s.withCalls x).lights = s.lights := rfl
@[simp] theorem State.withCalls_calls (s : State) (x : Calls) : (s.withCalls x).calls = x := rfl
@[simp] theorem State.withCalls_bays (s : State) (x : Calls) : (s.withCalls x).bays = s.bays := rfl
@[simp] theorem State.withCalls_panel (s : State) (x : Calls) : (s.withCalls x).panel = s.panel := rfl
@[simp] theorem State.withCalls_draws (s : State) (x : Calls) : (s.withCalls x).draws = s.draws := rfl

/-! ### State.withBays -/

@[simp] theorem State.withBays_pending (s : State) (x : PerBay BayRecord) : (s.withBays x).pending = s.pending := rfl
@[simp] theorem State.withBays_clock (s : State) (x : PerBay BayRecord) : (s.withBays x).clock = s.clock := rfl
@[simp] theorem State.withBays_power (s : State) (x : PerBay BayRecord) : (s.withBays x).power = s.power := rfl
@[simp] theorem State.withBays_station (s : State) (x : PerBay BayRecord) : (s.withBays x).station = s.station := rfl
@[simp] theorem State.withBays_lines (s : State) (x : PerBay BayRecord) : (s.withBays x).lines = s.lines := rfl
@[simp] theorem State.withBays_composer (s : State) (x : PerBay BayRecord) : (s.withBays x).composer = s.composer := rfl
@[simp] theorem State.withBays_peers (s : State) (x : PerBay BayRecord) : (s.withBays x).peers = s.peers := rfl
@[simp] theorem State.withBays_phase (s : State) (x : PerBay BayRecord) : (s.withBays x).phase = s.phase := rfl
@[simp] theorem State.withBays_detection (s : State) (x : PerBay BayRecord) : (s.withBays x).detection = s.detection := rfl
@[simp] theorem State.withBays_alarm (s : State) (x : PerBay BayRecord) : (s.withBays x).alarm = s.alarm := rfl
@[simp] theorem State.withBays_curtain (s : State) (x : PerBay BayRecord) : (s.withBays x).curtain = s.curtain := rfl
@[simp] theorem State.withBays_descent (s : State) (x : PerBay BayRecord) : (s.withBays x).descent = s.descent := rfl
@[simp] theorem State.withBays_lights (s : State) (x : PerBay BayRecord) : (s.withBays x).lights = s.lights := rfl
@[simp] theorem State.withBays_calls (s : State) (x : PerBay BayRecord) : (s.withBays x).calls = s.calls := rfl
@[simp] theorem State.withBays_bays (s : State) (x : PerBay BayRecord) : (s.withBays x).bays = x := rfl
@[simp] theorem State.withBays_panel (s : State) (x : PerBay BayRecord) : (s.withBays x).panel = s.panel := rfl
@[simp] theorem State.withBays_draws (s : State) (x : PerBay BayRecord) : (s.withBays x).draws = s.draws := rfl

/-! ### State.withPanel -/

@[simp] theorem State.withPanel_pending (s : State) (x : Panel) : (s.withPanel x).pending = s.pending := rfl
@[simp] theorem State.withPanel_clock (s : State) (x : Panel) : (s.withPanel x).clock = s.clock := rfl
@[simp] theorem State.withPanel_power (s : State) (x : Panel) : (s.withPanel x).power = s.power := rfl
@[simp] theorem State.withPanel_station (s : State) (x : Panel) : (s.withPanel x).station = s.station := rfl
@[simp] theorem State.withPanel_lines (s : State) (x : Panel) : (s.withPanel x).lines = s.lines := rfl
@[simp] theorem State.withPanel_composer (s : State) (x : Panel) : (s.withPanel x).composer = s.composer := rfl
@[simp] theorem State.withPanel_peers (s : State) (x : Panel) : (s.withPanel x).peers = s.peers := rfl
@[simp] theorem State.withPanel_phase (s : State) (x : Panel) : (s.withPanel x).phase = s.phase := rfl
@[simp] theorem State.withPanel_detection (s : State) (x : Panel) : (s.withPanel x).detection = s.detection := rfl
@[simp] theorem State.withPanel_alarm (s : State) (x : Panel) : (s.withPanel x).alarm = s.alarm := rfl
@[simp] theorem State.withPanel_curtain (s : State) (x : Panel) : (s.withPanel x).curtain = s.curtain := rfl
@[simp] theorem State.withPanel_descent (s : State) (x : Panel) : (s.withPanel x).descent = s.descent := rfl
@[simp] theorem State.withPanel_lights (s : State) (x : Panel) : (s.withPanel x).lights = s.lights := rfl
@[simp] theorem State.withPanel_calls (s : State) (x : Panel) : (s.withPanel x).calls = s.calls := rfl
@[simp] theorem State.withPanel_bays (s : State) (x : Panel) : (s.withPanel x).bays = s.bays := rfl
@[simp] theorem State.withPanel_panel (s : State) (x : Panel) : (s.withPanel x).panel = x := rfl
@[simp] theorem State.withPanel_draws (s : State) (x : Panel) : (s.withPanel x).draws = s.draws := rfl

/-! ### State.withDraws -/

@[simp] theorem State.withDraws_pending (s : State) (x : Nat) : (s.withDraws x).pending = s.pending := rfl
@[simp] theorem State.withDraws_clock (s : State) (x : Nat) : (s.withDraws x).clock = s.clock := rfl
@[simp] theorem State.withDraws_power (s : State) (x : Nat) : (s.withDraws x).power = s.power := rfl
@[simp] theorem State.withDraws_station (s : State) (x : Nat) : (s.withDraws x).station = s.station := rfl
@[simp] theorem State.withDraws_lines (s : State) (x : Nat) : (s.withDraws x).lines = s.lines := rfl
@[simp] theorem State.withDraws_composer (s : State) (x : Nat) : (s.withDraws x).composer = s.composer := rfl
@[simp] theorem State.withDraws_peers (s : State) (x : Nat) : (s.withDraws x).peers = s.peers := rfl
@[simp] theorem State.withDraws_phase (s : State) (x : Nat) : (s.withDraws x).phase = s.phase := rfl
@[simp] theorem State.withDraws_detection (s : State) (x : Nat) : (s.withDraws x).detection = s.detection := rfl
@[simp] theorem State.withDraws_alarm (s : State) (x : Nat) : (s.withDraws x).alarm = s.alarm := rfl
@[simp] theorem State.withDraws_curtain (s : State) (x : Nat) : (s.withDraws x).curtain = s.curtain := rfl
@[simp] theorem State.withDraws_descent (s : State) (x : Nat) : (s.withDraws x).descent = s.descent := rfl
@[simp] theorem State.withDraws_lights (s : State) (x : Nat) : (s.withDraws x).lights = s.lights := rfl
@[simp] theorem State.withDraws_calls (s : State) (x : Nat) : (s.withDraws x).calls = s.calls := rfl
@[simp] theorem State.withDraws_bays (s : State) (x : Nat) : (s.withDraws x).bays = s.bays := rfl
@[simp] theorem State.withDraws_panel (s : State) (x : Nat) : (s.withDraws x).panel = s.panel := rfl
@[simp] theorem State.withDraws_draws (s : State) (x : Nat) : (s.withDraws x).draws = x := rfl

end Sys2Proof.Machine
end

