-- ==== Sys2Proof/Laws/Start.lean ====
section
/-! SUPPORT. A start in progress (R182, R185): what it makes when nothing abandons it, and what each step leaves alone. -/

namespace Sys2Proof.Machine

variable {s : State} {p : StartProgress}

theorem finishStart_of_none (h : s.power.start = none) : s.finishStart = s := by
  simp [State.finishStart, h]

/-- After a step the start in progress holds it as the step made last. -/
@[simp] theorem makeStep_start (step : StartStep) :
    (State.makeStep p s step).power.start = some { p with step := step } := rfl

/-- What a step makes does not rest on the step noted before it. -/
theorem makeStep_of_progress (step last : StartStep) :
    State.makeStep { p with step := last } s step = State.makeStep p s step := by cases step <;> rfl

/-- A start that has come to a step and goes on is the start that is whole in its command. -/
theorem start_goes_on (kind : StartKind) (memory : ConfigMemory) (presence : PerBay Presence) (step : StartStep) :
    (s.start kind memory presence (some step)).finishStart = s.start kind memory presence none := by
  cases step <;>
    simp [State.start, State.finishStart, laterSteps, StartStep.number, State.makeSteps, State.beginStart, State.halt,
      makeStep_of_progress (p := ⟨kind, memory, presence, .kindDecided⟩)]

/-- The steps before the records leave everything but the count and the note of the step. -/
theorem makeStep_before_records (step : StartStep) (h : step.number ≤ 3) :
    State.makeStep p s step =
      (s.withComposer (State.makeStep p s step).composer).withPower (State.makeStep p s step).power := by
  cases step <;> first | rfl | (exact absurd h (by decide))

end Sys2Proof.Machine
end

