-- ==== Sys2Proof/WellFormed.lean ====
section
/-! DEFINITION. Which commands are well formed: the numbers that an event names lie in the manual's numbering. An
operator request is well formed whatever it carries, as its owner judges its operands and answers BAD_REQUEST. -/

namespace Sys2Proof

/-- A station number (chapter 0). -/
def stationNumber (n : Nat) : Bool := 1 ≤ n && n ≤ 40

/-- A detection zone number (chapter 0). -/
def zoneNumber (n : Nat) : Bool := 1 ≤ n && n ≤ 64

/-- The command's numbers lie in the manual's numbering. -/
def Instr.wellFormed : Instr → Bool
  | .peerSilent station => stationNumber station
  | .effectsWindowExpiry zone => zoneNumber zone
  | .windowCopyExpiry desk zone => stationNumber desk && zoneNumber zone
  | .frameReceived _ _ | .effectsOpen _ _ | .effectsClose _ | .callRequest _ _ _ _ | .arbitrationLost _ | .frameSent _ | .lineSilenceTimeout _ | .composeSpacingExpiry
  | .routineComposition | .duplicateStationCleared | .endOfJoining | .nodeTimeIncrement
  | .intervalMark _ | .intervalTimerExpiry | .loopSample _ _ | .ackWindowExpiry
  | .investigationTimeout | .realarmWindowEnd | .driveDelivery _ _ | .raiseTimeout | .proofExpired
  | .outputUpdate | .bayExchange _ | .dimmerAcknowledgement _ | .exchangeNoAnswer _
  | .playComplete _ _ | .playerFault _ _ | .gapExpiry | .staffRepeatExpiry | .presenceChange _ _
  | .debounceExpiry _ _ | .readyAnswer _ _ | .readyTimerExpiry _ | .overcurrent _ _
  | .selectReleasedEarly | .answerComplete | .unknownRequest | .readRecord _ | .setPhase _ _
  | .holdOn | .holdOff | .ack | .silence | .reset | .disable _ | .enable _
  | .curtainRaise | .curtainLower | .curtainStop | .curtainTest | .curtainDrop | .curtainUnknown
  | .lightClaimSet _ _ _ _ _ | .lightClaimClear _ | .clearSnapshot | .releaseTrace | .powerOn _ _ _
  | .resetAsserted | .resetReleased _ _ _ | .supplyFall _ | .supplyDip _ _ _ | .answerCutShort
  | .callExchangeAnswer _ => true

end Sys2Proof
end

