-- ==== Sys2Proof/Tests/Slice0.lean ====
section
/-! SUPPORT. Small checks of the model: ill-formed commands refused, one or two effects of each command with values
from the manual's rules and worked sequences, and a state for the hypotheses of each statement. -/

namespace Sys2Proof.Tests

set_option Elab.async false

open Sys2Proof Sys2Proof.Machine

/-! ### Ill-formed commands -/

theorem test_station_zero_is_ill_formed : (Instr.peerSilent 0).wellFormed = false := by decide
theorem test_station_41_is_ill_formed : (Instr.peerSilent 41).wellFormed = false := by decide
theorem test_window_of_zone_65_is_ill_formed : (Instr.effectsWindowExpiry 65).wellFormed = false := by decide
theorem test_copy_of_desk_0_is_ill_formed : (Instr.windowCopyExpiry 0 1).wellFormed = false := by decide
theorem test_copy_of_zone_0_is_ill_formed : (Instr.windowCopyExpiry 1 0).wellFormed = false := by decide
theorem test_station_40_is_well_formed : (Instr.peerSilent 40).wellFormed = true := by decide
theorem test_no_row_has_bits : decodeTableWord 16 0 = none := by decide

/-! ### A station with every role -/

def preset (level fade : Nat) : PhasePreset := { level := level, fade := fade }

def zoneRowOf (z : Nat) : ZoneRow :=
  { station := if z ≤ 4 then 3 else 18, mode := if z = 4 then .direct else .twoStage, curtain := z == 3
    inhibitable := z == 1 || z == 2 }

/-- Station 3 with every role and authority. Zones 1 to 4 are its own; FOH zone 1 has staff, FOH zone 2 adjoins the
auditorium. Light group 1 is an AUDITORIUM group. The dwell is 1. -/
def image : ConfigImage :=
  { emptyImage with
    station := 3
    roles := { curtain := true, detect := true, lights := true, calls := true, desk := true }
    authorities := { phase := true, ack := true, reset := true, curtain := true, effects := true, lights := true
                     calls := true }
    detectorMap := ⟨[some ⟨1, some .smoke⟩, some ⟨2, some .heat⟩, some ⟨3, some .manual⟩, some ⟨4, some .heat⟩] ++
      List.replicate 28 none, List.replicate 32 none, List.replicate 32 none, List.replicate 32 none⟩
    thresholds := { prealarm := 80, alarm := 120, dwell := 1, effectsOffset := 60 }
    channelMap := ⟨List.replicate 8 none, List.replicate 8 none, some 1 :: List.replicate 7 none,
      List.replicate 8 none⟩
    outputMap := ⟨List.replicate 4 none, List.replicate 4 none, List.replicate 4 none,
      [some 1, some 2, some 3, none]⟩
    messages := { houseOpen := 201, performanceStart := 202, intervalStart := 203, bell5 := 204, bell3 := 205
                  bell1 := 206, staffAlert := 207, evacuation := 208 }
    zoneTable := zoneNumbers.map zoneRowOf
    fohTable := fohNumbers.map fun z => { station := 3, adjacent := z == 2, staff := z == 1 }
    lightTable := groupNumbers.map fun g =>
      { auditorium := g == 1, closed := preset 0 0, houseOpen := preset 200 30, performance := preset 0 50
        interval := preset 180 20, houseClearing := preset 255 10 } }

/-- The bytes of a configuration memory: the length 4 and the CRC-16 that closes them. What the bytes between them
spell, which the manual does not lay out, is the settings beside them. -/
def imageContents : List Byte := [4, 0] ++ twoBytes (crc16 [4, 0]).toNat

def memory : ConfigMemory := .bytes imageContents image

/-- A slot of four with nothing seated. -/
def emptyBays : PerBay Presence := ⟨.none, .none, .none, .none⟩

def online (type : ModuleType) (supplies : Supplies) : BayRecord :=
  { emptyBay with state := .online, presence := .both, sensed := some type, supplies := supplies }

/-- The station RUNNING, out of its joining period, with a module of each type ONLINE, and nothing composed lately. -/
def house : State :=
  let config := validConfiguration image
  { State.reset with
    clock := { now := 10000, secondAt := 10000, outputAt := 10000 }
    power := ⟨true, false, true, true, none⟩
    station := { standing := .running, joining := false, joiningUntil := 0, nodeTime := 100
                 memory := memory, config := config
                 provenAtStop := false }
    composer := { State.reset.composer with sequence := 39, composedAt := 10000 }
    peers := coldPeers 3
    detection := startDetection (isOwnZoneIn config) image.detectorMap fun _ => none
    curtain := { startCurtain .up coldProof 0 with position := some 9000, reported := some 9000
                                                   view := ⟨true, false, false, false⟩
                                                   delivery := some ⟨some 9000, true, false, false, false⟩
                                                   output := some ⟨true, some .normal, false⟩ }
    lights := startLights config false fun _ => 0
    bays := ⟨online .loop ⟨true, true, false⟩, online .drive ⟨true, false, true⟩, online .dimmer ⟨true, false, false⟩,
      online .call ⟨true, false, true⟩⟩ }

/-- The same in a phase. -/
def within (phase : Phase) : State :=
  house.withPhase { phase := phase, hold := false, epoch := 21, origin := 2, minutes := 20, remaining := 0 }

/-- The same in another standing. -/
def standingAt (standing : Standing) (s : State) : State :=
  s.withStation { s.station with standing := standing }

/-- The same in its joining period. -/
def joiningUntil (t : Nat) (s : State) : State :=
  s.withStation { s.station with standing := .joining, joining := true, joiningUntil := t }

def withoutRoles (s : State) : State :=
  s.withStation { s.station with config := { s.station.config with roles := {}, authorities := {} } }

def withoutAuthorities (s : State) : State :=
  s.withStation { s.station with config := { s.station.config with authorities := {} } }

/-- The same as a desk alone. -/
def deskAlone (s : State) : State :=
  s.withStation { s.station with config := { s.station.config with roles := { desk := true } } }

/-- The state after a command. -/
def after (c : Instr) (s : State) : State :=
  match exec c s with
  | .next t => t
  | _ => s

/-- The answer that waits at the panel port. -/
def answerOf (s : State) : Option Answer :=
  match s.panel.transaction with
  | some { body := .request a, .. } => some a
  | _ => none

def codeOf (s : State) : Option AnswerCode := (answerOf s).map (·.code)

/-- A report of station 14, LIVE, with every list empty. -/
def peerReport : Report :=
  { station := 14, sequence := 104, restartCount := 7, joining := false, roles := { detect := true, lights := true }
    authorities := {}, signature := 0
    phase := { phase := .closed, hold := false, epoch := 0, origin := 0, minutes := 0 }
    alarm := { generation := 0, stage := .quiet, silenced := false, ackPresent := false, silencePresent := false
               ackGeneration := 0, silenceGeneration := 0, silenceCount := 0, zones := [] }
    curtain := zeroCurtain, desk := zeroDesk, health := {} }

/-- The record of station 14 after the acceptance of a report. -/
def recordOf14 (state : PeerState) (r : Report) : PeerRecord :=
  { absentPeer 14 with state := state, lastReport := some r, acceptedAt := some 99, acceptedMs := 9000, accepted := 501
                       gaps := 3, duplicates := 481 }

/-- Station 14 in the given state, with the report that the record holds. -/
def beside (state : PeerState) (r : Report) (s : State) : State := s.withPeer (recordOf14 state r)

def line (s : State) (l : Line) (c : LineController) : State := s.withLine l c

/-- A LOOP sample with one reading at the first position and 10 elsewhere. -/
def reading (first : Byte) : Vector Byte 32 := Vector.ofFn fun i => if i.val = 0 then first else 10

/-! ### Lines and reports -/

theorem test_crc_of_the_characters_1_to_9 : crc16 [49, 50, 51, 52, 53, 54, 55, 56, 57] = 10673 := by decide +kernel

/-- R19: URGENT from station 12 is precedence 12, PROMPT from 3 is 67, ROUTINE from 12 is 140. -/
theorem test_precedence_bytes :
    precedence .urgent 12 = 12 ∧ precedence .prompt 3 = 67 ∧ precedence .routine 12 = 140 := by decide

/-- R17: a report with every list empty is 31 bytes long. -/
theorem test_shortest_report : (encodeReport peerReport).length = 31 := by decide

theorem test_report_of_14_is_accepted :
    ((after (.frameReceived .b (encodeFrame .routine false peerReport))
      (beside .live { peerReport with sequence := 101 } house)).peer 14).map (fun r => (r.accepted, r.gaps, r.gapScore)) =
      some (502, 5, 2) := by decide +kernel

theorem test_second_copy_is_a_duplicate :
    ((after (.frameReceived .a (encodeFrame .routine false peerReport)) (beside .live peerReport house)).peer 14).map
      (fun r => (r.accepted, r.duplicates)) = some (501, 482) := by decide +kernel

def held (cls : ReportClass) : Pending := { report := peerReport, cls := cls, poisoned := false }

def busyLine : LineController :=
  { coldLine 9000 with slot := some (held .routine), inFlight := some (held .prompt), transmitter := .contending
                       busy := true }

theorem test_lost_report_leaves_its_class :
    (after (.arbitrationLost .a) (line house .a busyLine)).line .a =
      { coldLine 9000 with slot := some (held .prompt), transmitter := .waiting, busy := true, superseded := 1 } := by
  decide +kernel

theorem test_frame_sent_notes_its_sequence :
    ((after (.frameSent .a) (line house .a { busyLine with transmitter := .sending })).line .a).lastSent =
      some (104, 7) := by decide +kernel

/-- Chapter 2.5: line B silent for 3 s while line A is not. -/
theorem test_silent_line_b_is_faulted :
    (after (.lineSilenceTimeout .b) (line (line house .a { coldLine 0 with silenceSince := 9900 }) .b
      { coldLine 0 with silenceSince := 7000 })).stands (.lineFault .b) = true := by decide +kernel

theorem test_lone_station_faults_no_line :
    (after (.lineSilenceTimeout .b) (line (line house .a { coldLine 0 with silenceSince := 6000 }) .b
      { coldLine 0 with silenceSince := 7000 })).stands (.lineFault .b) = false := by decide +kernel

theorem test_spacing_holds_the_change_until_50_ms :
    let s := after .composeSpacingExpiry house.mark
    s.composer.composedAt = 10050 ∧ s.composer.sequence = 40 ∧ s.composer.changePending = false := by decide +kernel

theorem test_routine_composition_after_1000_ms :
    let s := after .routineComposition house
    s.clock.now = 11000 ∧ (s.composer.image.map (·.sequence)) = some 39 := by decide +kernel

/-- R20: a change that goes out as a frame ends finds the line idle and contends at once. -/
theorem test_composition_as_the_line_falls_idle :
    let s := house.mark.withComposer { house.mark.composer with composedAt := 9000 }
    ((after (.frameReceived .a []) s).line .a).transmitter = .contending := by decide +kernel

/-! ### Peers and node time -/

theorem test_duplicate_station_clears :
    (after .duplicateStationCleared house.duplicateSeen).stands .duplicateStation = false := by decide +kernel

theorem test_peer_14_falls_silent :
    let s := after (.peerSilent 14) (beside .live peerReport house)
    (s.peer 14).map (·.state) = some .silent ∧ s.stands (.peerSilent 14) = true ∧ s.clock.now = 12500 := by
  decide +kernel

/-- Chapter 3.7: the view of the LIVE peer, whatever its epoch. -/
theorem test_joining_takes_the_peers_view :
    let phase : PhaseSection := { phase := .performance, hold := false, epoch := 40, origin := 3, minutes := 0 }
    let s := after .endOfJoining (joiningUntil 12000 (beside .live { peerReport with phase := phase } house))
    s.phase = ⟨.performance, false, 40, 3, 0, 0⟩ ∧ s.station.standing = .running := by decide +kernel

theorem test_node_time_advances :
    let s := after .nodeTimeIncrement house
    s.station.nodeTime = 101 ∧ s.clock.secondAt = 11000 := by decide +kernel

/-! ### The phase -/

def show6 : State :=
  house.withPhase { phase := .interval, hold := false, epoch := 22, origin := 4, minutes := 6, remaining := 360 }

def leftOf (n : Nat) : State := show6.withPhase { show6.phase with remaining := n }

/-- R12, R13: the mark is the increment from 301; from 360 the next increment is no mark. -/
theorem test_mark_300 :
    let s := after (.intervalMark .m300) (leftOf 301)
    (s.phase.remaining, s.station.nodeTime) = (300, 101) ∧ after (.intervalMark .m300) show6 = show6 := by
  decide +kernel

theorem test_interval_timer_stops_at_0 :
    let s := after .intervalTimerExpiry (leftOf 1)
    s.phase.timerRuns = false ∧ s.station.nodeTime = 101 := by decide +kernel

/-- Chapter 1.5: SET PHASE INTERVAL with 6 minutes from PERFORMANCE, epoch 21. -/
theorem test_set_phase_interval :
    (after (.setPhase (some .interval) 6) (within .performance)).phase = ⟨.interval, false, 22, 3, 6, 360⟩ := by
  decide +kernel

theorem test_set_phase_clamps_3_minutes :
    codeOf (after (.setPhase (some .interval) 3) (within .performance)) = some .clamped := by decide +kernel

theorem test_hold_on_keeps_the_remaining_time :
    (after .holdOn show6).phase = ⟨.interval, true, 23, 3, 6, 360⟩ := by decide +kernel

theorem test_hold_off_in_closed_is_refused :
    codeOf (after .holdOff (within .closed)) = some (.refusedState .notInShow) := by decide +kernel

/-! ### Detection and alarm -/

theorem test_short_detector_is_faulted :
    ((after (.loopSample .b1 (reading 255)) house).detection.detectors.head?).map (fun d => (d.status, d.fault)) =
      some (.faulted, some .short) := by decide +kernel

/-- R78: one TWO_STAGE zone with the audience present. -/
theorem test_one_zone_alerts :
    let s := after (.loopSample .b1 (reading 120)) (within .performance)
    s.alarm.stage = .alert ∧ s.alarm.order = [1] ∧ s.alarm.ackWindow = some 40000 := by decide +kernel

/-- R77: the same zone with no audience. -/
theorem test_one_zone_evacuates_an_empty_house :
    (after (.loopSample .b1 (reading 120)) (within .closed)).alarm.cause = some .noAudience := by decide +kernel

def alerted : State := after (.loopSample .b1 (reading 120)) (within .performance)

theorem test_ack_investigates :
    let s := after .ack alerted
    s.alarm.stage = .investigate ∧ s.alarm.investigation = some 190000 := by decide +kernel

theorem test_ack_window_expiry :
    (after .ackWindowExpiry alerted).alarm.cause = some .ackTimeout := by decide +kernel

theorem test_investigation_timeout :
    (after .investigationTimeout (after .ack alerted)).alarm.cause = some .investigationTimeout := by decide +kernel

def evacuated : State := after (.loopSample .b1 (reading 120)) (within .closed)

theorem test_silence_counts_the_list :
    (after .silence evacuated).alarm.silence = some ⟨0, 1⟩ := by decide +kernel

theorem test_reset_is_not_clear :
    answerOf (after .reset evacuated) = some { code := .refusedState .notClear, zone := some 1 } := by decide +kernel

theorem test_reset_opens_the_window :
    let s := after .reset house
    s.alarm.generation = 1 ∧ s.alarm.realarmEnd = some 400 := by decide +kernel

def nodeTimeAt (t : Nat) (s : State) : State := s.withStation { s.station with nodeTime := t }

theorem test_realarm_window_end :
    let s := after .realarmWindowEnd (nodeTimeAt 399 (after .reset house))
    s.realarmOpen = false ∧ s.station.nodeTime = 400 := by decide +kernel

theorem test_clear_snapshot :
    evacuated.alarm.snapshot.isSome = true ∧ (after .clearSnapshot evacuated).alarm.snapshot = none := by
  decide +kernel

theorem test_disable_the_supervised_zone :
    let s := after (.disable 2) house
    s.alarm.disablements = [2] ∧ (s.zone 2).map (·.condition) = some .disabled := by decide +kernel

theorem test_enable_an_enabled_zone :
    codeOf (after (.enable 2) house) = some (.refusedState .notDisabled) := by decide +kernel

theorem test_effects_open_raises_no_other_zone :
    let s := after (.effectsOpen [1, 3] 600) house
    s.detection.windows = [⟨1, 600⟩] ∧
      answerOf s = some { code := .accepted, results := [(1, .opened), (3, .notInhibitable)] } := by decide +kernel

theorem test_effects_close :
    (after (.effectsClose .all) (after (.effectsOpen [1] 600) house)).detection.windows = [] := by decide +kernel

/-- R54: a window raises the alarm threshold of a smoke detector, 120 by 60. -/
theorem test_window_raises_the_threshold :
    ((after (.loopSample .b1 (reading 179)) (after (.effectsOpen [1] 600) house)).zone 1).map (·.latch) =
      some false := by decide +kernel

/-- R64: the increment that ends a window of 1 s takes every other entry down with it. -/
theorem test_effects_window_expiry :
    (after (.effectsWindowExpiry 1) (house.withWindows [⟨1, 1⟩, ⟨2, 9⟩])).detection.windows = [⟨2, 8⟩] := by
  decide +kernel

theorem test_window_copy_expiry :
    (after (.windowCopyExpiry 14 1) (house.withCopies [⟨14, 1, 1⟩, ⟨14, 2, 5⟩])).detection.copies = [⟨14, 2, 4⟩] := by
  decide +kernel

/-- A desk that lists a window on zone 1, and then disables the zone in its place. -/
def deskReport (sequence : Byte) (windows : List WindowEntry) (disablements : List Nat) : Report :=
  { peerReport with
    sequence := sequence, roles := { desk := true }, authorities := { reset := true, effects := true }
    desk := { zeroDesk with windows := windows, disablements := disablements } }

def windowedHigh : State :=
  let s := after (.frameReceived .a (encodeFrame .routine false (deskReport 105 [⟨1, 50⟩] []))) (within .performance)
  after (.loopSample .b1 (reading 200)) s

/-- R59: the window's end puts zone 1 in ALARM, and the stage sees it before the same report disables the zone. -/
theorem test_alarm_is_handed_before_the_disablement :
    let s := after (.frameReceived .a (encodeFrame .routine false (deskReport 106 [] [1]))) windowedHigh
    windowedHigh.alarm.stage = .quiet ∧ s.alarm.stage = .alert ∧ (s.zone 1).map (·.condition) = some .disabled := by
  decide +kernel

/-! ### The curtain -/

def driven (state : CurtainState) (s : State) : State := s.withCurtain { s.curtain with state := state }

def inputs (p : Nat) : DriveInputs :=
  { reading := some p, topClosed := false, bottomClosed := false, beamBroken := false, buttonPressed := false }

def lostDrive : State := driven .driveLost house

theorem test_delivery_after_a_loss_stops_between_limits :
    (after (.driveDelivery .b2 (inputs 4330)) lostDrive).curtain.state = .stopped := by decide +kernel

/-- Chapter 7.1: a reading up to 200 mm above the travel height is the travel height. -/
theorem test_delivery_within_overtravel :
    (after (.driveDelivery .b2 (inputs 9200)) house).curtain.position = some 9000 := by decide +kernel

def lowDrive (state : CurtainState) : State :=
  let s := driven state house
  s.withCurtain { s.curtain with position := some 0, raiseTimer := some 100000 }

theorem test_raise_timeout_stops :
    let s := after .raiseTimeout (lowDrive .raising)
    s.curtain.state = .stopped ∧ s.stands .raiseTimeout = true := by decide +kernel

def provenHouse : State :=
  house.withCurtain { house.curtain with proof := ⟨.pass, 90, 245, 545, 145⟩ }

theorem test_proof_expires_past_its_period :
    let s := nodeTimeAt (90 + provenHouse.image.curtain.proofPeriod) provenHouse
    s.proven = true ∧ (after .proofExpired s).proven = false ∧ after .proofExpired provenHouse = provenHouse := by
  decide +kernel

/-- Chapter 6: an own RAISE from DOWN; the epoch is the newer of the two plus 1. -/
theorem test_curtain_raise :
    let s := after .curtainRaise (lowDrive .down)
    s.curtain.state = .raising ∧ s.curtain.demandEpoch = 1 ∧ s.curtain.output = some ⟨false, some .normal, true⟩ := by
  decide +kernel

theorem test_curtain_lower_is_slow :
    let s := after .curtainLower house
    s.curtain.state = .lowering ∧ s.curtain.output = some ⟨false, some .slow, false⟩ := by decide +kernel

theorem test_curtain_stop : (after .curtainStop (after .curtainLower house)).curtain.state = .stopped := by
  decide +kernel

theorem test_curtain_test_starts_in_the_main_zone :
    let s := after .curtainTest house
    s.curtain.state = .testing ∧ s.descent.zone = some .main ∧ s.descent.k = 0 := by decide +kernel

theorem test_curtain_drop :
    let s := after .curtainDrop house
    s.curtain.state = .descending ∧ s.curtain.cause = some .drop := by decide +kernel

/-- Chapter 6: a beam broken in TESTING at 5200 mm. -/
theorem test_obstructed_test_fails :
    let s := after (.driveDelivery .b2 { inputs 5200 with beamBroken := true }) (after .curtainTest house)
    s.curtain.state = .stopped ∧ s.curtain.proof.verdict = .failed .obstructed := by decide +kernel

theorem test_release_trace :
    ((after .releaseTrace (after .curtainDrop house)).descent.trace.map (·.held)) = some false := by decide +kernel

/-- Chapter 7.10: three speeds above 600 mm/s. -/
def fast : State :=
  let s := driven .descending house
  s.withDescent { s.descent with
    motion := some .descending, k := 8, zone := some .main, overspeedRun := 2, validRun := 8
    history := [some 8600, some 8660, some 8725, some 8790] }

theorem test_third_fast_sample_is_overspeed :
    let s := after (.driveDelivery .b2 (inputs 8545)) fast
    s.descent.overspeed = true ∧ s.descent.firstReason = some .overspeed ∧
      s.curtain.output = some ⟨false, some .slow, false⟩ := by decide +kernel

/-! ### The lights -/

/-- Chapter 8.9: steps 1, 3, 10, 25 and 49 of a fade from 40 to 200, and 1 and 3 of the same fade downward. -/
theorem test_fade_steps :
    [1, 3, 10, 25, 49].map (fadeLevel 40 200 · 50) = [43, 50, 72, 120, 197] ∧
      [1, 3].map (fadeLevel 200 40 · 50) = [197, 190] := by decide

/-- Chapter 8.9: halves go away from zero in both directions. -/
theorem test_fade_halves :
    [fadeLevel 100 125 1 10, fadeLevel 100 125 5 10, fadeLevel 100 75 1 10] = [103, 113, 97] := by decide

theorem test_output_update_steps :
    let s := house.withGroups (house.lights.groups.map fun g => { g with target := some 200, start := 40, steps := 50
                                                                         step := 24, output := 117, fading := true })
    ((after .outputUpdate s).lights.groups.head?).map (·.output) = some 120 := by decide +kernel

theorem test_preset_becomes_the_target :
    let s := after (.lightClaimSet 1 1 (some .preset) 60 30) house
    (s.lights.groups.head?).map (fun g => (g.target, g.steps)) = some (some 60, 150) := by decide +kernel

theorem test_clearing_an_empty_slot :
    codeOf (after (.lightClaimClear (.slot 1)) house) = some (.refusedState .notSet) := by decide +kernel

theorem test_evacuate_is_full :
    (evacuated.lights.groups.head?).map (fun g => (g.target, g.steps)) = some (some 255, 100) := by decide +kernel

/-! ### The calls -/

theorem test_call_starts_at_once :
    let s := after (.callRequest 1 17 [3, 2, 9] 2) house
    s.calls.outstanding = ⟨false, false, false, true⟩ ∧
      (s.bay .b4).commands = [.play ⟨17, [2, 3], 1⟩] ∧ (s.calls.requests.head?).map (·.epoch) = some 1 := by
  decide +kernel

def called : State := after (.callRequest 1 17 [3] 1) house

theorem test_play_complete_starts_the_gap :
    let s := after (.playComplete .b4 1) called
    s.calls.current = .none ∧ s.calls.gap = some 12000 := by decide +kernel

theorem test_player_fault_is_logged :
    ((after (.playerFault .b4 1) called).panel.log.getLast?).map (·.event) = some (.callPlayerFault .b4) := by
  decide +kernel

theorem test_gap_expiry_starts_the_next_call :
    let s := after .gapExpiry (after (.playComplete .b4 1) (after (.callRequest 2 22 [1] 1) called))
    s.calls.queue = [] ∧ s.calls.gap = none ∧ (s.bay .b4).play = 2 := by decide +kernel

/-- Chapter 9.8: the staff call plays to the STAFF zones, and again 30 s later. -/
theorem test_alert_plays_the_staff_call :
    alerted.calls.current = .staff ∧
      (after .staffRepeatExpiry (after (.playComplete .b4 1) alerted)).calls.staffRepeat = some 70000 := by
  decide +kernel

theorem test_call_exchange_answer : ((after (.callExchangeAnswer .b4)
    (house.withBay .b4 { house.bays.b4 with missed := 2 })).bay .b4).missed = 0 := by decide +kernel

/-! ### The bays -/

/-- Chapter 10: a DRIVE module seated in bay 2. -/
def seated : State :=
  let s := house.withBay .b2 emptyBay
  after (.presenceChange .b2 .both) (after (.presenceChange .b2 .one) s)

theorem test_presence_settles : (seated.bay .b2).debounce = some 10500 := by decide +kernel

def powered : State := after (.debounceExpiry .b2 .drive) seated

theorem test_debounce_powers_a_drive :
    (powered.bay .b2).supplies = ⟨true, false, true⟩ ∧ (powered.bay .b2).ready = some 12500 := by decide +kernel

/-- R164: the first exchange begins at the entry to ONLINE. -/
theorem test_ready_answer_brings_the_bay_online :
    let bay := (after (.readyAnswer .b2 .drive) powered).bay .b2
    bay.state = .online ∧ bay.sent = some (.driveOutputs powered.curtain.output) ∧
      bay.exchangeAt = powered.clock.now + 100 := by decide +kernel

/-- R156, R164: a CALL module that comes ONLINE in EVACUATE is given the evacuation call at once. -/
theorem test_first_exchange_carries_the_evacuation_call :
    let s := (house.setAlarm fun a => { a with stage := .evacuate }).withBay .b4
      { house.bay .b4 with state := .powering }
    (match ((after (.readyAnswer .b4 .call) s).bay .b4).sent with
      | some (.callCommands [.play p]) => p.message == house.image.messages.evacuation
      | _ => false) = true := by decide +kernel

theorem test_ready_timer_fails_the_bay :
    ((after (.readyTimerExpiry .b2) powered).bay .b2).reason = some .noAnswer := by decide +kernel

theorem test_overcurrent_loses_the_drive :
    (after (.overcurrent .b2 .field) house).curtain.state = .driveLost := by decide +kernel

theorem test_drive_exchange_carries_the_outputs :
    ((after (.bayExchange .b2) house).bay .b2).sent = some (.driveOutputs (some ⟨true, some .normal, false⟩)) := by
  decide +kernel

theorem test_dimmer_acknowledgement :
    ((after (.dimmerAcknowledgement .b3) (after (.bayExchange .b3) house)).bay .b3).taken =
      some (.dimmerLevels [0, 0, 0, 0, 0, 0, 0, 0]) := by decide +kernel

/-- R167: 300 ms after its last exchange the DRIVE module is fail-safe. -/
theorem test_drive_fails_safe :
    let o : OutputSet := ⟨true, some .normal, false⟩
    let s := house.withBay .b2 { house.bays.b2 with taken := some (.driveOutputs (some o)), reachedAt := 9701 }
    (s.drivePresents .b2).hold = true ∧
      ((s.withClock { s.clock with now := 10001 }).drivePresents .b2).hold = false := by decide +kernel

/-- R168: the module plays the call that the exchange carried, until FIELD is off. -/
theorem test_call_module_plays :
    let s := after (.callExchangeAnswer .b4) (after (.bayExchange .b4) called)
    s.callPresents .b4 = some ⟨17, [3], 1⟩ ∧
      (after (.overcurrent .b4 .field) s).callPresents .b4 = none := by decide +kernel

theorem test_third_missed_exchange_fails_the_bay :
    ((after (.exchangeNoAnswer .b3) (house.withBay .b3 { house.bays.b3 with missed := 2 })).bay .b3).reason =
      some .linkLost := by decide +kernel

/-! ### The panel port -/

theorem test_early_release_leaves_no_answer :
    (after .selectReleasedEarly (after .holdOn house)).panel.transaction = none := by decide +kernel

theorem test_unknown_request :
    codeOf (after .unknownRequest house) = some .badRequest ∧
      codeOf (after .curtainUnknown (withoutAuthorities house)) = some .noAuthority := by decide +kernel

/-- R170, R171: the answer begins with 0, and the idle pattern of 255 follows it. -/
theorem test_answer_is_clocked_out :
    let s := after (.readRecord (.peer 3)) house
    [0, 1, 3, 5].map s.portOutput = [.start 0, .flag false, .standing .running, .idle 255] := by decide +kernel

def oneEntry : State := house.log .testPass

/-- R176: an entry read to its end is marked read, one cut short is not. -/
theorem test_read_marking :
    (after .answerComplete (after (.readRecord (.incidentLog .nextUnread)) oneEntry)).unread = 0 ∧
      (after .answerCutShort (after (.readRecord (.incidentLog .nextUnread)) oneEntry)).unread = 1 := by decide +kernel

theorem test_peer_record_of_the_own_number :
    ((after (.readRecord (.peer 3)) house).panel.transaction).map (·.body) = some .notPresent := by decide +kernel

/-! ### Starts -/

theorem test_power_on_starts_cold :
    let s := after (.powerOn false memory ⟨emptyBays, none⟩) State.reset
    s.station.standing = .joining ∧ s.composer.restartCount = 1 ∧ s.composer.sequence = 1 := by decide +kernel

theorem test_invalid_image_is_unconfigured :
    let s := after (.powerOn true (.bytes [4, 0, 0, 0] image) ⟨emptyBays, none⟩) State.reset
    s.station.standing = .unconfigured ∧ s.stands .configInvalid = true := by decide +kernel

theorem test_warm_release_keeps_the_phase :
    (after (.resetReleased true .noAnswer ⟨emptyBays, none⟩) (after .resetAsserted show6)).phase = show6.phase := by
  decide +kernel

theorem test_dip_with_retain_low_is_cold :
    (after (.supplyDip false memory ⟨emptyBays, none⟩)
      (after (.supplyFall true) show6)).phase = coldPhase := by decide +kernel

/-- R183: a store that the fall has left failing stays so: the restart count of the next start is 1. -/
theorem test_failed_store_begins_at_restart_count_1 :
    let s := house.withComposer { house.composer with restartCount := 8 }
    (after (.powerOn true memory ⟨emptyBays, none⟩) (after (.supplyFall false) s)).composer.restartCount = 1 ∧
      (after (.powerOn true memory ⟨emptyBays, none⟩) (after (.supplyFall true) s)).composer.restartCount = 9 := by decide +kernel

/-- A warm start that has come to the step given when the next command comes. -/
def starting (reached : StartStep) : State :=
  after (.resetReleased true .noAnswer ⟨emptyBays, some reached⟩) (after .resetAsserted house)

/-- R182: a start abandoned after its START entry leaves the entry and its count, with ATTN released, and the next start
counts on. -/
theorem test_abandoned_start_leaves_count_and_entry :
    let s := after .resetAsserted (starting .startLogged)
    (starting .startLogged).attn = true ∧ s.attn = false ∧ s.phase = house.phase ∧
      s.composer.restartCount = house.composer.restartCount + 1 ∧
      s.panel.log.map (·.event) = house.panel.log.map (·.event) ++ [.start .warm s.composer.restartCount] ∧
      (after (.resetReleased true .noAnswer ⟨emptyBays, none⟩) s).composer.restartCount =
        house.composer.restartCount + 2 := by decide +kernel

/-- R182, R185: a cold start abandoned before its store is rewritten leaves the records, and the next start may be warm. -/
theorem test_cold_start_abandoned_before_the_records :
    let s := after (.supplyFall true) (after (.supplyDip false memory ⟨emptyBays, some .countFixed⟩) (after (.supplyFall true) show6))
    s.phase = show6.phase ∧ s.startKind true = .warm ∧
      s.composer.restartCount = show6.composer.restartCount + 1 := by decide +kernel

theorem test_supply_fall_releases_the_hold :
    (after (.supplyFall true) house).curtain.output = none := by decide +kernel

/-! ### States for the hypotheses of the statements -/

/-- What a state next to `s` satisfies. -/
def nextHas (s : State) (p : State → Bool) : Bool :=
  match step s with
  | .next t => p t
  | _ => false

theorem nextHas_spec {s : State} {p : State → Bool} (h : nextHas s p = true) : ∃ t, step s = .next t ∧ p t = true := by
  unfold nextHas at h
  split at h
  · exact ⟨_, ‹_›, h⟩
  · cases h

theorem attends_of {s : State} (h : (s.power.running &&
    (s.station.standing == .joining || s.station.standing == .running)) = true) : s.attends := by
  simpa [State.attends] using h

theorem witness_idle : house.pending = [] := rfl

/-- The next command of the station is that one. -/
def next (c : Instr) (s : State) : State := s.withPending [c]

def fullRing : State := (List.replicate 32 LogEvent.testPass).foldl State.log house

theorem witness_full_ring :
    (next .holdOn fullRing).panel.ringGood ∧ fullRing.panel.log.length = 32 ∧
      ∃ t, step (next .holdOn fullRing) = .next t ∧ true = true := by
  refine ⟨⟨by decide +kernel, fun i e h => ?_, by unfold Panel.unreadNewest; decide +kernel⟩, by decide +kernel,
    nextHas_spec (p := fun _ => true) (by decide +kernel)⟩
  have key : ∀ i < 32, ∀ e ∈ fullRing.panel.log[i]?,
      e.number + BitVec.ofNat 16 (fullRing.panel.log.length - i) = fullRing.panel.nextEntry := by decide +kernel
  refine key i ?_ e h
  obtain ⟨hi, -⟩ := List.getElem?_eq_some_iff.mp h
  exact Nat.lt_of_lt_of_eq hi (by decide +kernel)

theorem witness_distinct_keys :
    (next .duplicateStationCleared house.duplicateSeen).panel.keysDistinct ∧
      ∃ t, step (next .duplicateStationCleared house.duplicateSeen) = .next t ∧ true = true :=
  ⟨by unfold Panel.keysDistinct; decide +kernel, nextHas_spec (p := fun _ => true) (by decide +kernel)⟩

theorem witness_one_record_each :
    (next (.peerSilent 14) (beside .live peerReport house)).peers.oneEach ∧
      ∃ t, step (next (.peerSilent 14) (beside .live peerReport house)) = .next t ∧ true = true :=
  ⟨by unfold PeerTable.oneEach; decide +kernel, nextHas_spec (p := fun _ => true) (by decide +kernel)⟩

theorem witness_legal_hold :
    (next .holdOn show6).phase.holdLegal ∧
      ∃ t, step (next .holdOn show6) = .next t ∧ t.phase.hold = true := by
  obtain ⟨t, h, ht⟩ := nextHas_spec (s := next .holdOn show6) (p := fun t => t.phase.hold) (by decide +kernel)
  exact ⟨by unfold PhaseView.holdLegal; decide +kernel, t, h, ht⟩

theorem witness_legal_outputs :
    (next .curtainLower house).curtain.outputsLegal ∧
      ∃ t, step (next .curtainLower house) = .next t ∧ true = true :=
  ⟨by rintro o h; cases h; decide, nextHas_spec (p := fun _ => true) (by decide +kernel)⟩

/-- A RAISE that is overtaken by an evacuation. -/
def rising : State :=
  next (.loopSample .b1 (reading 120)) ((lowDrive .raising).withPhase (within .closed).phase)

theorem witness_raise_safe :
    rising.raiseSafe ∧ ∃ t, step rising = .next t ∧ (t.curtain.state != .raising) = true :=
  ⟨by unfold State.raiseSafe; decide +kernel, nextHas_spec (p := fun t => t.curtain.state != .raising)
    (by decide +kernel)⟩

def queuedCall (n : Nat) : QueueEntry :=
  { message := n, zones := [3], repeats := 1, source := 3, cls := .desk, enqueued := 90, preempted := false }

/-- A queue of 16 behind a gap. -/
def fullQueue : State :=
  house.withCalls { house.calls with queue := (List.range' 1 16).map queuedCall, gap := some 11000, drain := true }

theorem witness_full_queue :
    (next (.callRequest 1 100 [3] 1) fullQueue).calls.queueBounded ∧
      ∃ t, step (next (.callRequest 1 100 [3] 1) fullQueue) = .next t ∧ (t.calls.counters.droppedFull == 1) = true :=
  ⟨by unfold Calls.queueBounded; decide +kernel,
    nextHas_spec (p := fun t => t.calls.counters.droppedFull == 1) (by decide +kernel)⟩

theorem witness_distinct_order :
    (next (.loopSample .b1 (reading 120)) evacuated).alarm.orderDistinct ∧
      ∃ t, step (next (.loopSample .b1 (reading 120)) evacuated) = .next t ∧ (t.alarm.order == [1]) = true :=
  ⟨by unfold Alarm.orderDistinct; decide +kernel, nextHas_spec (p := fun t => t.alarm.order == [1]) (by decide +kernel)⟩

theorem witness_stage_rises :
    beginsStart .ack = false ∧ ∃ t, step (next .ack alerted) = .next t ∧
      (t.alarm.generation == alerted.alarm.generation && t.alarm.stage != alerted.alarm.stage) = true :=
  ⟨rfl, nextHas_spec (p := fun t => t.alarm.generation == alerted.alarm.generation &&
    t.alarm.stage != alerted.alarm.stage) (by decide +kernel)⟩

/-! #### Reports and frames -/

/-- A report with every list full and every value at the end of its range. -/
def fullReport : Report :=
  { peerReport with
    station := 40
    roles := { curtain := true, desk := true }
    phase := { phase := .houseClearing, hold := true, epoch := 255, origin := 40, minutes := 40 }
    alarm := { peerReport.alarm with
      stage := .evacuate, silenceCount := 64
      zones := zoneNumbers.map fun z => ⟨z, .alarmActive⟩ }
    curtain := { state := .unconfigured, flags := { limitMismatch := true }, position := some 12200, lastEpoch := 255 }
    desk := { demandKind := some .drop, demandEpoch := 255
              windows := (List.range' 57 8).map fun z => ⟨z, 1200⟩
              disablements := List.range' 57 8
              claims := (List.range' 1 8).map fun n => ⟨n, ⟨16, .cap, 255, 600⟩⟩
              calls := (List.range' 1 4).map fun n => ⟨n, 3, 250, fohNumbers, 255⟩ } }

/-- The statement of what the layout carries, with bounded quantifiers. -/
theorem witness_full_report : fullReport.carried ∧ (encodeReport fullReport).length = 243 := by
  refine ⟨⟨by decide, ⟨by decide, by decide⟩, ⟨by decide, by decide, ?_⟩, ?_, ?_⟩, by decide +kernel⟩
  · unfold ZoneEntry.carried; decide +kernel
  · rintro p h; cases h; decide
  · refine ⟨by decide, ?_, by decide, by decide, by decide, ?_, by decide, ?_⟩
    · unfold WindowEntry.carried; decide +kernel
    · unfold ClaimEntry.carried; decide +kernel
    · unfold CallEntry.carried; decide +kernel

theorem witness_short_frame : (List.replicate 33 (0 : Byte)).length < 34 := by decide

theorem witness_newer_at_its_ends :
    newer 127 0 = true ∧ newer 128 0 = false ∧ newer 1 0 = true ∧ newer 0 1 = false := by decide

/-! #### The Line Controllers -/

def sending : State := line house .a { busyLine with slot := none, transmitter := .sending }

theorem witness_frame_sent :
    sending.power.running = true ∧ (sending.line .a).inFlight = some (held .prompt) ∧
      (sending.line .a).transmitter = .sending := by decide +kernel

theorem witness_contention_lost :
    (sending.line .a).slot = none ∧ ((line house .a busyLine).line .a).slot = some (held .routine) ∧
      ((line house .a busyLine).line .a).inFlight = some (held .prompt) := by decide +kernel

theorem witness_placing :
    busyLine.slot = some (held .routine) ∧ (coldLine 0).slot = none ∧ (coldLine 0).transmitter = .idle ∧
      (coldLine 0).busy = false ∧ { coldLine 0 with busy := true }.busy = true := by decide +kernel

theorem witness_crc_failure :
    house.power.running = true ∧ classify (List.replicate 33 0) = .crcFailure ∧ (house.line .a).inFlight = none ∧
      (house.line .a).slot = none ∧ (house.line .a).transmitter = .idle := by decide +kernel

theorem witness_crc_failure_while_waiting :
    let s := line house .b { coldLine 0 with slot := some (held .urgent), transmitter := .waiting, busy := true }
    (s.line .b).slot = some (held .urgent) ∧ (s.line .b).transmitter = .waiting ∧ (s.line .b).inFlight = none := by
  decide +kernel

/-- A frame of the given precedence byte and report bytes with their CRC-16. -/
def frameOf (prec : Byte) (report : List Byte) : List Byte :=
  prec :: report ++ twoBytes (crc16 (prec :: report)).toNat

def poisonedBy (n : Nat) : List Byte := encodeFrame .prompt true { peerReport with station := n }

theorem witness_poisoned_peer :
    classify (poisonedBy 40) = .poisoned 40 ∧ (house.line .a).ownFrame ≠ some (poisonedBy 40) ∧
      (40 : Nat) ≠ house.own ∧ house.peer 40 = some (absentPeer 40) := by decide +kernel

theorem witness_format_failure :
    classify (frameOf 193 (encodeReport { peerReport with station := 1 })) = .formatFailure 1 := by decide +kernel

theorem witness_poisoned_own_number : classify (poisonedBy 3) = .poisoned 3 ∧ house.own = 3 := by decide +kernel

def sent (r : Report) : List Byte := encodeFrame .routine false r

def live14 (sequence : Byte) : State := beside .live { peerReport with sequence := sequence } house

theorem witness_good_frame : classify (sent peerReport) = .good peerReport ∧ peerReport.station ≠ house.own := by
  decide +kernel

theorem witness_duplicate_and_stale :
    (live14 104).peer 14 = some (recordOf14 .live peerReport) ∧
      ((live14 232).peer 14).bind (·.lastReport) = some { peerReport with sequence := 232 } ∧
      128 ≤ (peerReport.sequence - 232).toNat := by decide +kernel

theorem witness_own_number_heard :
    classify (sent { peerReport with station := 3 }) = .good { peerReport with station := 3 } ∧
      (house.line .a).lastSent ≠ some (104, 7) ∧
      ((line house .a { coldLine 0 with lastSent := some (104, 7) }).line .a).lastSent = some (104, 7) := by
  decide +kernel

/-- Resyncs of an ABSENT, of a SILENT and of a restarted peer, and newer reports 1 and 127 on. -/
theorem witness_acceptances :
    house.peer 14 = some (absentPeer 14) ∧ (house.line .a).ownFrame ≠ some (sent peerReport) ∧
      ((beside .silent peerReport house).peer 14).map (·.state) = some .silent ∧
      ((beside .live { peerReport with restartCount := 6 } house).peer 14).bind (·.lastReport) =
        some { peerReport with restartCount := 6 } ∧
      ((live14 103).peer 14).bind (·.lastReport) = some { peerReport with sequence := 103 } ∧
      (peerReport.sequence - 103).toNat = 0 + 1 ∧ (peerReport.sequence - 233).toNat = 126 + 1 := by decide +kernel

/-- A LIVE peer out of its joining period whose view and generation are newer, and one whose view is equal. -/
theorem witness_adoptions :
    peerReport.joining = false ∧ peerReport.roles ≠ {} ∧ house.configured = true ∧ house.station.joining = false ∧
      newer 127 house.phase.epoch = true ∧ newer 1 house.alarm.generation = true ∧
      newer peerReport.phase.epoch house.phase.epoch = false ∧ peerReport.phase.epoch = house.phase.epoch := by
  decide +kernel

theorem witness_silent_line : house.power.running = true ∧ Line.b ≠ Line.a := by decide

theorem witness_classes :
    let changed := { peerReport with alarm := { peerReport.alarm with generation := 1 } }
    changed.alarm ≠ peerReport.alarm ∧
      { peerReport with sequence := 105 } = { peerReport with sequence := ({ peerReport with sequence := 105 } : Report).sequence } ∧
      { peerReport with joining := true }.curtain = peerReport.curtain := by decide

/-- Also where a composition comes with the fall of a line. -/
theorem witness_composition :
    idleLine (.frameReceived .b []) = some .b ∧ idleLine .routineComposition = none ∧
      house.mark.power.running = true ∧ house.mark.composer.changePending = true ∧
      (Instr.composeSpacingExpiry, 50).2 = 50 := by decide +kernel

/-! #### The Peer Table and node time -/

theorem witness_duplicate_timer : house.duplicateSeen.peers.duplicateTimer = some 20000 := by decide +kernel

theorem witness_heard_peer :
    (beside .joining peerReport house).peer 14 = some (recordOf14 .joining peerReport) ∧
      (beside .live peerReport house).peer 14 = some (recordOf14 .live peerReport) := by decide +kernel

def joiner : State := joiningUntil 13500 house

theorem witness_end_of_joining :
    joiner.station.joining = true ∧ (∀ r ∈ joiner.peers.records, r.state ≠ .live) ∧
      recordOf14 .live peerReport ∈ (beside .live peerReport joiner).peers.records ∧
      (∀ x ∈ (beside .live peerReport joiner).peers.records, x.state = .live → 14 ≤ x.station) ∧
      (beside .live peerReport joiner).peersComplete ∧ joiner.configured = true := by
  unfold State.peersComplete; decide +kernel

theorem witness_node_time :
    let s := house.withStation { house.station with nodeTime := 4294967294 }
    s.station.nodeTime < 4294967295 ∧ s.peers.oneEach :=
  ⟨by decide, by unfold PeerTable.oneEach; decide +kernel⟩

/-! #### The Phase Tracker -/

theorem witness_allowed_moves :
    house.attends ∧ house.roles.desk = true ∧ house.authorities.phase = true ∧
      provenHouse.openingCheck = none ∧ provenHouse.phase.phase = .closed ∧
      (within .performance).phase.phase = .performance ∧ (within .interval).phase.phase = .interval :=
  ⟨attends_of rfl, by decide +kernel, by decide +kernel, by decide +kernel, by decide +kernel, by decide +kernel,
    by decide +kernel⟩

theorem witness_no_authority :
    (withoutRoles house).attends ∧ (withoutRoles house).roles.desk = false ∧
      (withoutAuthorities house).authorities = {} ∧ (withoutAuthorities house).roles.desk = true :=
  ⟨attends_of rfl, by decide +kernel, by decide +kernel, by decide +kernel⟩

theorem witness_joining_desk : joiner.attends ∧ joiner.station.joining = true ∧ joiner.authorities.phase = true :=
  ⟨attends_of rfl, by decide +kernel, by decide +kernel⟩

/-- A peer that is a curtain station too. -/
def twoCurtains (s : State) : State := beside .live { peerReport with roles := { curtain := true } } s

theorem witness_opening_checks :
    (deskAlone house).roles.curtain = false ∧ (deskAlone house).openingPeers = [] ∧
      (twoCurtains house).openingPeers.length = 1 ∧ house.proven = false ∧ house.openingPeers = [] ∧
      provenHouse.proven = true ∧
      (provenHouse.withAlarm evacuated.alarm).alarm.stage ≠ .quiet ∧
      (house.phase.phase, Phase.performance) ∉ [(Phase.closed, Phase.houseOpen), (.houseOpen, .performance),
        (.houseOpen, .closed), (.performance, .interval), (.performance, .houseClearing), (.interval, .performance),
        (.interval, .houseClearing), (.houseClearing, .closed)] := by decide +kernel

theorem witness_hold_requests :
    show6.attends ∧ show6.phase.phase = .interval ∧ (within .closed).phase.phase = .closed :=
  ⟨attends_of rfl, by decide +kernel, by decide +kernel⟩

theorem witness_interval_at_its_marks :
    (∀ left ∈ [0, 60, 180, 300], (leftOf (left + 1)).phase.phase = .interval ∧
      (leftOf (left + 1)).phase.hold = false ∧ (leftOf (left + 1)).phase.remaining = left + 1) ∧
      show6.phase.remaining ≠ 301 ∧ house.phase.phase ≠ .interval ∧
      (nodeTimeAt 4294967294 show6).station.nodeTime < 4294967295 := by decide +kernel

/-! #### Detection and alarm -/

theorem witness_loop_sample :
    (house.bay .b1).state = .online ∧ (house.bay .b1).sensed = some .loop ∧
      (house.detection.detectors[0]?).map (fun d => (d.zone, d.position)) = some (1, 1) ∧
      (house.zone 1).isSome = true ∧ [0, 1, 254, 255].map (fun n => ((reading n).toList.getD 0 9).toNat) =
        [0, 1, 254, 255] := by decide +kernel

/-- Zone 1 in ALARM as handed, before the stage has taken it. -/
def zoneOneBurns (s : State) : State :=
  s.withDetection { s.detection with zones := s.detection.zones.map fun r =>
    if r.zone = 1 then { r with latch := true, condition := .alarmActive, handed := .alarmActive } else r }

theorem witness_zones_and_alert :
    let s := zoneOneBurns (within .performance)
    (house.zone 1).map (·.disabled) = some false ∧ s.alarm.stage = .quiet ∧
      s.rebuildMerged.alarm.zonesInAlarm = [1] ∧ s.zoneDirect 1 = false ∧ s.phase.phase.audiencePresent = true ∧
      s.rebuildMerged.evacuationCause = none ∧ s.acknowledged = false ∧
      (s.withAlarm { s.alarm with ack := some 0 }).acknowledged = true ∧
      s.contributions 1 ≠ [] ∧ joiner.contributions 64 = [] := by decide +kernel

def opened : State := after (.effectsOpen [1] 1200) house

theorem witness_effects_requests :
    house.attends ∧ house.roles.desk = true ∧ house.authorities.effects = true ∧ house.alarm.stage = .quiet ∧
      house.zoneInhibitable 1 = true ∧ (∀ w ∈ house.detection.windows, w.zone ≠ 1) ∧
      (∃ w ∈ opened.detection.windows, w.zone = 1) :=
  ⟨attends_of rfl, by decide +kernel, by decide +kernel, by decide +kernel, by decide +kernel, by decide +kernel,
    by decide +kernel⟩

theorem witness_expiring_windows :
    (∃ w ∈ (house.withWindows [⟨64, 1⟩]).detection.windows, w.zone = 64 ∧ w.remaining ≤ 1) ∧
      (∃ x ∈ (house.withCopies [⟨40, 64, 1⟩]).detection.copies, x.desk = 40 ∧ x.zone = 64 ∧ x.remaining ≤ 1) ∧
      ¬(∃ w ∈ (house.withWindows [⟨64, 2⟩]).detection.windows, w.zone = 64 ∧ w.remaining ≤ 1) := by decide +kernel

def disabled2 : State := after (.disable 2) house

theorem witness_disablements :
    house.attends ∧ house.authorities.reset = true ∧ 64 ∉ house.alarm.disablements ∧
      (house.alarm.zoneAt 64).condition = .normal ∧ house.alarm.disablements.length < 8 ∧
      (house.zone 2).map (·.disabled) = some false ∧ 2 ∈ disabled2.alarm.disablements ∧
      (evacuated.alarm.zoneAt 1).condition = .alarmActive ∧ 1 ∉ evacuated.alarm.disablements :=
  ⟨attends_of rfl, by decide +kernel, by decide +kernel, by decide +kernel, by decide +kernel, by decide +kernel,
    by decide +kernel, by decide +kernel, by decide +kernel⟩

/-- A disabled zone with its counts at 0, listed by no peer, one of its detectors FAULTED or none. -/
theorem witness_enabling :
    disabled2.attends ∧
      (disabled2.zone 2).map (fun r => (r.disabled, r.latch, r.hold)) = some (true, false, false) ∧
      (∀ x ∈ disabled2.peers.records, x.state ≠ .live) ∧ 1 ≤ disabled2.image.thresholds.dwell ∧
      (∀ d ∈ disabled2.detection.detectors, d.alarmCount = 0 ∧ d.prealarmCount = 0 ∧ d.clearRun = 0) ∧
      (∀ d ∈ disabled2.detection.detectors, d.status ≠ .faulted) ∧
      (∃ d ∈ (disabled2.loopLost .b1).detection.detectors, d.zone = 2 ∧ d.status = .faulted) ∧
      ((disabled2.loopLost .b1).zone 2).map (·.disabled) = some true :=
  ⟨attends_of (by decide +kernel), by decide +kernel, by decide +kernel, by decide +kernel, by decide +kernel,
    by decide +kernel, by decide +kernel, by decide +kernel⟩

theorem witness_stage_timers :
    alerted.alarm.stage = .alert ∧ alerted.alarm.ackWindow = some 40000 ∧
      (after .ack alerted).alarm.stage = .investigate ∧ (after .ack alerted).alarm.investigation = some 190000 ∧
      (nodeTimeAt 399 (after .reset house)).alarm.realarmEnd = some (399 + 1) ∧
      house.alarm.realarmEnd ≠ some (house.station.nodeTime + 1) := by decide +kernel

theorem witness_ack :
    alerted.attends ∧ alerted.roles.desk = true ∧ alerted.authorities.ack = true ∧ alerted.station.joining = false ∧
      alerted.alarm.stage = .alert ∧ house.alarm.stage ≠ .alert :=
  ⟨attends_of (by decide +kernel), by decide +kernel, by decide +kernel, by decide +kernel, by decide +kernel,
    by decide +kernel⟩

theorem witness_silence : evacuated.attends ∧ evacuated.alarm.stage = .evacuate ∧ evacuated.authorities.ack = true :=
  ⟨attends_of (by decide +kernel), by decide +kernel, by decide +kernel⟩

theorem witness_reset :
    (evacuated.alarm.zoneAt 1).condition = .alarmActive ∧ (∀ y < 1, 1 ≤ y → (evacuated.alarm.zoneAt y).condition ≠ .alarmActive) ∧
      (∀ z ∈ zoneNumbers, (house.alarm.zoneAt z).condition ≠ .alarmActive) := by decide +kernel

theorem witness_snapshot :
    evacuated.alarm.snapshot.isSome = true ∧ house.alarm.snapshot = none ∧ evacuated.alarm.stage = .evacuate := by
  decide +kernel

/-! #### The curtain -/

theorem witness_curtain_requests :
    house.attends ∧ house.authorities.curtain = true ∧ house.ownerEpoch = house.curtain.demandEpoch ∧
      (deskAlone house).roles.curtain = false ∧
      newer (twoCurtains (deskAlone house)).ownerEpoch 129 = true :=
  ⟨attends_of rfl, by decide +kernel, by decide +kernel, by decide +kernel, by decide +kernel⟩

def pressed (s : State) : State := s.withCurtain { s.curtain with view := { s.curtain.view with buttonPressed := true } }

theorem witness_demands :
    house.standingTrigger = none ∧ (pressed house).standingTrigger.isSome = true ∧
      house.curtain.position ≠ none ∧ (lowDrive .down).curtain.state = .down ∧
      ({ house.curtain with position := none }).position = none ∧ house.curtain.view.beamBroken = false ∧
      house.zoneTrigger = false ∧ house.alarm.stage ≠ .evacuate ∧ evacuated.alarm.stage = .evacuate ∧
      house.curtain.state = .up ∧ (driven .descending house).curtain.state = .descending ∧
      (driven .testing house).standingTrigger = none := by decide +kernel

/-- Zone 3, a CURTAIN zone, in ALARM. -/
theorem witness_zone_trigger :
    (house.withAlarm { house.alarm with merged := house.alarm.merged.set 2 ⟨.alarmActive, none, false, false⟩ }).zoneTrigger =
      true := by decide +kernel

theorem witness_drive_delivery :
    (house.bay .b2).state = .online ∧ (house.bay .b2).sensed = some .drive ∧ lostDrive.curtain.state = .driveLost ∧
      house.curtain.state ≠ .none ∧ house.curtain.state ≠ .unconfigured ∧ house.image.curtain.height = 9000 := by
  decide +kernel

/-- A beam that breaks in TESTING, and a top limit that closes in RAISING, with no trigger. -/
theorem witness_beam_and_top_limit :
    let test := after .curtainTest house
    test.curtain.state = .testing ∧ test.curtain.view.beamBroken = false ∧ test.descent.motion = some .testing ∧
      test.zoneTrigger = false ∧ test.alarm.stage ≠ .evacuate ∧ (inputs 5200).buttonPressed = false ∧
      (driven .raising (house.withCurtain { house.curtain with view := ⟨false, true, false, false⟩ })).curtain.state =
        .raising := by decide +kernel

theorem witness_raise_and_proof :
    (lowDrive .raising).curtain.raiseTimer = some 100000 ∧ (lowDrive .raising).curtain.state = .raising ∧
      (lowDrive .raising).standingTrigger = none ∧ provenHouse.roles.curtain = true ∧
      provenHouse.curtain.proof.verdict = .pass ∧ provenHouse.panel.log.length ≤ 32 ∧
      (nodeTimeAt (90 + 86400) provenHouse).station.nodeTime =
        provenHouse.curtain.proof.time + provenHouse.image.curtain.proofPeriod ∧
      provenHouse.station.nodeTime ≠ provenHouse.curtain.proof.time + provenHouse.image.curtain.proofPeriod := by
  decide +kernel

def tested : State := after .curtainTest house

theorem witness_sample :
    tested.descent.ownsTrace = true ∧ (tested.descent.trace.map (·.samples)) = some [⟨0, some 9000, none⟩] ∧
      house.descent.ownsTrace = false := by decide +kernel

theorem witness_speed :
    4 ≤ fast.descent.k ∧ 5 ≤ fast.descent.validRun ∧ fast.descent.encoderRaised = false ∧
      fast.descent.history[3]? = some (some 8790) ∧ fast.descent.overspeedRun = 2 ∧
      fast.descent.overspeed = false ∧ fast.stands .overspeed = false ∧ fast.descent.zone = some .main ∧
      fast.curtain.state = .descending ∧ (house.descent.k < 4) ∧
      (let slow := driven .lowering (fast.withDescent { fast.descent with motion := some .lowering })
       slow.curtain.state = .lowering ∧ slow.descent.motion = some .lowering ∧ slow.standingTrigger = none) := by
  decide +kernel

theorem witness_test_ends :
    tested.descent.motion = some .testing ∧ tested.descent.firstReason = none ∧
      tested.descent.descentTime ≤ tested.image.curtain.descentLimit * 10 := by decide +kernel

theorem witness_trace :
    house.descent.trace = none ∧ (tested.descent.trace.map (·.held)) = some false ∧
      ((after .curtainDrop house).descent.trace.map (·.held)) = some true := by decide +kernel

/-! #### The lights -/

theorem witness_output_update :
    house.power.running = true ∧ (house.lights.groups[15]?).isSome = true ∧ 0 < 1 ∧ 1 ≤ 1 := by decide +kernel

def claimed : State := after (.lightClaimSet 8 16 (some .cap) 255 600) house

theorem witness_light_claims :
    house.attends ∧ house.authorities.lights = true ∧ house.lights.claims = [] ∧
      (⟨8, ⟨16, .cap, 255, 600⟩⟩ : ClaimEntry) ∈ claimed.lights.claims ∧ (deskAlone house).roles.lights = false :=
  ⟨attends_of rfl, by decide +kernel, by decide +kernel, by decide +kernel, by decide +kernel⟩

theorem witness_groups :
    (claimed.lights.groups[15]?).isSome = true ∧ evacuated.alarm.stage = .evacuate ∧ claimed.alarm.stage ≠ .evacuate ∧
      ((after (.lightClaimSet 1 1 (some .preset) 60 30) house).lights.groups.head?).map (·.precedence) =
        some [⟨3, 1⟩] := by decide +kernel

/-! #### The calls -/

theorem witness_call_request :
    house.attends ∧ house.authorities.calls = true ∧ (deskAlone house).roles.calls = false :=
  ⟨attends_of rfl, by decide +kernel, by decide +kernel⟩

def gapped : State := after (.playComplete .b4 1) (after (.callRequest 2 22 [1] 1) called)

theorem witness_call_timers :
    gapped.calls.gap = some 12000 ∧ gapped.calls.queue.length = 1 ∧ gapped.calls.current = .none ∧
      gapped.alarm.stage ≠ .evacuate ∧ gapped.calls.staffDue = false ∧ gapped.roles.calls = true ∧
      (gapped.calls.queue.head?).map gapped.playedZones = some [1] ∧
      anyBay (bayset (gapped.serves [1])) = true ∧
      (after (.playComplete .b4 1) called).calls.queue = [] := by decide +kernel

def staffPlayed : State := after (.playComplete .b4 1) alerted

theorem witness_staff_repeat :
    staffPlayed.calls.staffRepeat = some 40000 ∧ staffPlayed.alarm.stage = .alert ∧ staffPlayed.staffZones = [1] ∧
      staffPlayed.calls.current = .none := by decide +kernel

theorem witness_play_events :
    (called.bay .b4).state = .online ∧ (called.bay .b4).sensed = some .call ∧ (called.bay .b4).play = 1 ∧
      called.calls.outstanding.get .b4 = true ∧ (house.bay .b4).play ≠ 1 ∧
      (∀ x, (called.calls.outstanding.set .b4 false).get x = false) ∧ called.calls.drain = false :=
  ⟨by decide +kernel, by decide +kernel, by decide +kernel, by decide +kernel, by decide +kernel,
    fun x => by cases x <;> decide +kernel, by decide +kernel⟩

/-! #### The bays -/

theorem witness_seating :
    ((house.withBay .b2 emptyBay).bay .b2).state = .empty ∧ ((house.withBay .b2 emptyBay).bay .b2).presence = .none ∧
      (seated.bay .b2).state = .settling ∧ (seated.bay .b2).presence = .both ∧
      (seated.bay .b2).debounce = some 10500 ∧ seated.wanted .b2 .drive = true ∧
      (withoutRoles seated).wanted .b2 .drive = false ∧
      ((after (.presenceChange .b2 .one) (house.withBay .b2 emptyBay)).bay .b2).presence = .one := by decide +kernel

/-- A module that comes out of an ONLINE bay, and one that rocks. -/
theorem witness_removal_and_rocking :
    (house.bay .b2).presence ≠ .none ∧ (house.bay .b2).state = .online ∧
      (let rocks := after (.presenceChange .b2 .one) house
       (rocks.bay .b2).presence = .one ∧ (rocks.bay .b2).debounce = some 10500 ∧ (rocks.bay .b2).state = .online) ∧
      (powered.bay .b2).state = .powering := by decide +kernel

theorem witness_powering :
    (powered.bay .b2).state = .powering ∧ (powered.bay .b2).sensed = some .drive ∧
      (powered.bay .b2).ready = some 12500 ∧ (house.bay .b2).state = .online := by decide +kernel

/-- A bay in POWERING with a module of each type. -/
theorem witness_powering_of_each_type :
    ∀ x ∈ [(Bay.b1, ModuleType.loop), (.b2, .drive), (.b3, .dimmer), (.b4, .call)],
      let s := house.withBay x.1 { house.bay x.1 with state := .powering }
      s.power.running = true ∧ (s.bay x.1).state = .powering ∧ (s.bay x.1).sensed = some x.2 := by decide +kernel

theorem witness_exchanges :
    (house.bay .b1).sensed = some .loop ∧ (house.bay .b2).sensed = some .drive ∧ (house.bay .b3).sensed = some .dimmer ∧
      (house.bay .b4).sensed = some .call ∧ (house.bay .b3).missed < 2 ∧ (house.bay .b2).supplies.field = true ∧
      (let s := after (.overcurrent .b2 .field) house
       (s.bay .b2).state = .failed ∧ (s.bay .b2).supplies.field = false ∧ (s.bay .b2).supplies.logic = false) ∧
      (let s := after (.dimmerAcknowledgement .b3) (after (.bayExchange .b3) house)
       (s.bay .b3).supplies.logic = true ∧ (s.bay .b3).taken = some (.dimmerLevels (house.channelLevels .b3))) ∧
      (let s := house.withBay .b2 { house.bays.b2 with taken := some (.driveOutputs house.curtain.output) }
       (s.bay .b2).taken = some (.driveOutputs (some ⟨true, some .normal, false⟩)) ∧
         (s.bay .b2).reachedAt + 300 ≤ s.clock.now) := by decide +kernel

/-! #### The panel port and starts -/

def reads : State := after (.readRecord (.incidentLog .nextUnread)) oneEntry

theorem witness_transactions :
    reads.panel.transaction.bind (·.logEntry) = some 0 ∧ (reads.panel.log.find? fun e => !e.read).map (·.number) = some 0 ∧
      house.panel.transaction = none ∧ (standingAt .unconfigured house).station.standing = .unconfigured ∧
      isRequest .releaseTrace = true ∧
      (after .resetAsserted house).power.running = false ∧ (after .resetAsserted house).station.standing = .starting := by
  decide +kernel

theorem witness_records :
    house.lights.groups.length = 16 ∧ house.station.standing ≠ .starting ∧
      (after .resetAsserted house).station.standing = .starting ∧ (after .resetAsserted house).power.running = false ∧
      house.roles.curtain = true := by decide +kernel

theorem witness_starts :
    house.power.resetAsserted = false ∧ house.power.supply = true ∧ house.power.storeGood = true ∧
      (after (.supplyFall false) house).power.storeGood = false := by decide +kernel

/-- A start in progress, which an idle step completes. -/
theorem witness_start_in_progress :
    (starting .recordsSet).pending = [] ∧ (starting .recordsSet).power.start ≠ none ∧
      nextHas (starting .recordsSet) (fun t => t.power.running && t.station.standing == .joining) = true := by
  decide +kernel

theorem witness_reset_holds :
    (after .resetAsserted house).power.running = false ∧ isOwnEvent (.frameReceived .a []) = true := by decide +kernel

end Sys2Proof.Tests
end

section
/-!
LAWS (R1). The wrapping distance of two 8-bit counters and the newer-than comparison stated by it.
-/
namespace Sys2Proof.Machine

/-- R1's (a − b) modulo 256, over the natural numbers. -/
def counterDistance (a b : Byte) : Nat := (a.toNat + 256 - b.toNat) % 256

/-- The machine's subtraction computes R1's distance. -/
theorem toNat_sub_eq_counterDistance (a b : Byte) : (a - b).toNat = counterDistance a b := by
  rw [BitVec.toNat_sub, counterDistance, Nat.add_comm, ← Nat.add_sub_assoc b.isLt.le]

theorem newer_iff (a b : Byte) :
    newer a b = true ↔ 1 ≤ counterDistance a b ∧ counterDistance a b ≤ 127 := by
  rw [newer, toNat_sub_eq_counterDistance, Bool.and_eq_true, decide_eq_true_iff, decide_eq_true_iff]

theorem counterDistance_eq_zero_iff (a b : Byte) : counterDistance a b = 0 ↔ a = b := by
  rw [← toNat_sub_eq_counterDistance, ← sub_eq_zero (a := a), ← BitVec.toNat_inj]
  exact Iff.rfl

/-- The distances of two distinct counters, one taken each way round, make up the whole circle. -/
theorem counterDistance_add_swap {a b : Byte} (h : a ≠ b) :
    counterDistance a b + counterDistance b a = 256 := by
  have hne : a.toNat ≠ b.toNat := mt BitVec.eq_of_toNat_eq h
  unfold counterDistance
  omega

theorem older_iff (a b : Byte) :
    128 ≤ counterDistance a b ↔ newer a b = false ∧ a ≠ b := by
  rw [← Bool.not_eq_true, newer_iff, ne_eq, ← counterDistance_eq_zero_iff]
  omega

/-- Both ways round a distance of at most 127 would leave the circle unclosed. -/
theorem newer_asymm {a b : Byte} (h : newer a b = true) : newer b a = false := by
  obtain ⟨hpos, hab⟩ := (newer_iff a b).mp h
  have hne : a ≠ b := fun e => by
    rw [(counterDistance_eq_zero_iff a b).mpr e] at hpos
    omega
  have hcircle := counterDistance_add_swap hne
  rw [← Bool.not_eq_true, newer_iff]
  omega

/-- Settles O14: each clause over all counters is a law of the distance, and the two examples of R1 are computed. -/
theorem newerComparesTheWrappingCounters : Obligations.NewerComparesTheWrappingCounters :=
  ⟨fun a b => ⟨newer_iff a b, counterDistance_eq_zero_iff a b, older_iff a b, newer_asymm⟩,
    by decide, by decide⟩

end Sys2Proof.Machine
end

section
/-!
COMMANDS. What each command of a running station may touch besides the panel, the composer, the lines and the counter
of draws, which the composition that follows any command may change (R26).
-/
namespace Sys2Proof.Machine

/-! ### Parts that may differ -/

/-- From `s` to `t` only the parts listed may differ; the panel and the composer are left open. -/
def Within (ps : List Part) (s t : State) : Prop := ∀ p, p ∉ ps → p.Same s t

theorem Within.refl (ps : List Part) (s : State) : Within ps s s := fun p _ => .refl p s

theorem Within.trans {ps : List Part} {s t u : State} (h : Within ps s t) (h' : Within ps t u) : Within ps s u :=
  fun p hp => (h p hp).trans (h' p hp)

theorem Within.mono {ps qs : List Part} {s t : State} (h : Within ps s t) (hs : ps ⊆ qs) : Within qs s t :=
  fun p hp => h p fun hm => hp (hs hm)

theorem Within.phase {ps : List Part} {s t : State} (h : Within ps s t) (hp : .phase ∉ ps) : t.phase = s.phase :=
  h .phase hp

theorem Move.within {ps : List Part} {s t : State} (h : Move ps s t) : Within ps s t := h.same

theorem withPanel_within (ps : List Part) (s : State) (x : Panel) : Within ps s (s.withPanel x) :=
  fun p _ => by cases p <;> rfl

/-! ### Compositions -/

/-- The parts that a composition may touch. -/
abbrev composing : List Part := [.lines, .draws]

theorem composeAt_within (s : State) (idle : Option Line) : Within composing s (s.composeAt idle) := by
  obtain ⟨t, hfault, ht⟩ := composeAt_changes s idle
  refine Within.trans (t := t) (fun p hp => ?_) (hfault.move (ps := composing)).within
  subst ht
  cases p <;> first | rfl | exact absurd (by decide) hp

theorem settleAt_within (s : State) (idle : Option Line) : Within composing s (s.settleAt idle) := by
  rcases settleAt_cases s idle with h | ⟨-, h⟩ <;> rw [h]
  · exact .refl _ _
  · exact composeAt_within s idle

theorem concluded_within (s : State) : Within composing s s.concluded := by
  unfold State.concluded
  split
  · exact settleAt_within s none
  · exact .refl _ _

theorem judged_concluded_within (s : State) (body : AnswerBody) (entry : Option Half) :
    Within composing s (s.judged body entry).concluded :=
  (withPanel_within _ _ _).trans (concluded_within _)

/-! ### The shapes of a command -/

/-- Every next state of a result lies within the parts listed and those of a composition. -/
def ResultWithin (ps : List Part) (s : State) (r : Result) : Prop := ∀ t, r = .next t → Within (composing ++ ps) s t

theorem ResultWithin.next {ps : List Part} {s t : State} (h : Within (composing ++ ps) s t) :
    ResultWithin ps s (.next t) := fun _ e => Host.Outcome.next.inj e ▸ h

theorem ResultWithin.settleAt {ps : List Part} {s t : State} (h : Move ps s t) (idle : Option Line) :
    ResultWithin ps s (.next (t.settleAt idle)) :=
  .next ((h.within.mono (List.subset_append_right _ _)).trans
    ((settleAt_within t idle).mono (List.subset_append_left _ _)))

theorem whenRunning_within {ps : List Part} {s : State} {effect : State → State} (h : Move ps s (effect s)) :
    ResultWithin ps s (whenRunning s effect) := by
  rcases whenRunning_cases s effect with ⟨-, e⟩ | ⟨-, e⟩ <;> rw [e]
  · exact .settleAt h none
  · exact .next (.refl _ _)

theorem whenDue_within (s : State) (due : Bool) : ResultWithin incrementParts s (whenDue s due) :=
  whenRunning_within (.ite (increment_move s) (.refl _ _))

theorem concluded_panel_within {ps : List Part} {s t : State} (h : Move ps s t) (x : Panel) :
    ResultWithin ps s (.next (t.withPanel x).concluded) :=
  .next (((h.within.trans (withPanel_within _ _ _)).mono (List.subset_append_right _ _)).trans
    ((concluded_within _).mono (List.subset_append_left _ _)))

theorem operatorRequest_within {ps : List Part} {s : State} (owner : State → State × Answer)
    (h : Move ps s (owner s).1) : ResultWithin ps s (operatorRequest s owner) := by
  unfold operatorRequest
  split
  · exact concluded_panel_within h _
  · exact concluded_panel_within (.refl _ _) _

/-- R182: in reset. -/
theorem halt_within (s : State) (power : Power) : Within [.power, .station, .lines, .curtain, .bays] s (s.halt power) :=
  fun p hp => by cases p <;> first | rfl | exact absurd (by decide) hp

/-! ### Effects of the events -/

theorem frameReceived_within (s : State) (l : Line) (frame : List Byte) :
    ResultWithin (.lines :: peerParts) s (execFrameReceived l frame s) := by
  rcases execFrameReceived_cases s l frame with ⟨-, e⟩ | ⟨-, e⟩ <;> rw [e]
  · exact .settleAt (frameEnds_move s l frame) (some l)
  · exact .next (.refl _ _)

/-- An event at one Line Controller. -/
theorem withLine_within (s : State) (l : Line) (f : LineController → LineController) :
    ResultWithin [.lines] s (whenRunning s fun s => s.withLine l (f (s.line l))) :=
  whenRunning_within (withLine_move s (by decide) _ _)

theorem lineSilence_within (s : State) (l : Line) : ResultWithin [.clock, .lines] s (execLineSilenceTimeout l s) :=
  whenRunning_within ((advanceTo_move s (by decide) (by decide) _).trans (judgeSilence_move _ _))

theorem composeSpacing_within (s : State) : ResultWithin [.clock, .lines] s (execComposeSpacingExpiry s) :=
  whenRunning_within (.ite (advanceTo_move s (by decide) (by decide) _) (.refl _ _))

/-- The composition of ROUTINE_COMPOSITION is made as an effect, and not by a mark. -/
theorem routineComposition_within (s : State) : ResultWithin [.clock, .lines] s (execRoutineComposition s) := by
  unfold execRoutineComposition
  rcases whenRunning_cases s (fun s => (s.advanceTo (s.composer.composedAt + Config.routineMs)).compose) with
    ⟨-, e⟩ | ⟨-, e⟩ <;> rw [e]
  · have h : Within (composing ++ [.clock, .lines]) s (s.advanceTo (s.composer.composedAt + Config.routineMs)) :=
      (advanceTo_move s (ps := [.clock, .lines]) (by decide) (by decide) _).within.mono (by decide)
    exact .next ((h.trans ((composeAt_within _ none).mono (by decide))).trans
      ((settleAt_within _ none).mono (by decide)))
  · exact .next (.refl _ _)

theorem duplicateCleared_within (s : State) :
    ResultWithin [.clock, .lines, .peers] s (execDuplicateStationCleared s) := by
  refine whenRunning_within ?_
  dsimp only
  split
  · exact ((advanceTo_move s (by decide) (by decide) _).trans (withPeers_move _ (by decide) _)).trans
      (clearFault_moved _ _)
  · exact .refl _ _

theorem peerSilent_within (s : State) (station : Nat) :
    ResultWithin ([.clock, .lines, .peers] ++ alarmParts) s (execPeerSilent station s) := by
  refine whenRunning_within ?_
  split
  · exact .ite (((advanceTo_move s (by decide) (by decide) _).trans ((silenceRecord_move _ _).mono (by decide))).trans
      ((silenceNotices_move _ _).mono (by decide))) (.refl _ _)
  · exact .refl _ _

theorem endOfJoining_within (s : State) :
    ResultWithin ([.clock, .lines, .station] ++ phaseParts) s (execEndOfJoining s) :=
  whenRunning_within (.ite ((advanceTo_move s (by decide) (by decide) _).trans ((endJoining_move _).mono (by decide)))
    (.refl _ _))

theorem nodeTimeIncrement_within (s : State) : ResultWithin incrementParts s (execNodeTimeIncrement s) := by
  unfold execNodeTimeIncrement
  split
  · exact .settleAt (increment_move s) none
  · split
    · exact .next ((second_move s).within.mono (by decide))
    · exact .next (.refl _ _)

/-- A timer of the Alarm Stage Unit that expires in its stage. -/
theorem alarmTimer_move (s : State) (t : Nat) (f : Alarm → Alarm) (stage : Stage) (cause : StageCause) :
    Move ([.clock, .lines] ++ alarmParts) s
      (((s.advanceTo t).setAlarm f).reevaluateBy (expiryStage stage cause)).react :=
  (((advanceTo_move s (by decide) (by decide) t).trans (setAlarm_move _ (by decide) f)).trans
    ((reevaluateBy_move _ fun u => (expiryStage_move u stage cause)).mono (by decide))).trans
    ((react_move _).mono (by decide))

theorem ackWindow_within (s : State) : ResultWithin ([.clock, .lines] ++ alarmParts) s (execAckWindowExpiry s) := by
  refine whenRunning_within ?_
  split
  · exact alarmTimer_move s _ _ _ _
  · exact .refl _ _

theorem investigation_within (s : State) :
    ResultWithin ([.clock, .lines] ++ alarmParts) s (execInvestigationTimeout s) := by
  refine whenRunning_within ?_
  split
  · exact alarmTimer_move s _ _ _ _
  · exact .refl _ _

theorem raiseTimeout_within (s : State) : ResultWithin ([.clock, .lines] ++ drive) s (execRaiseTimeout s) := by
  refine whenRunning_within ?_
  split
  · exact .ite ((((advanceTo_move s (by decide) (by decide) _).trans ((enterState_move _ _ _).mono (by decide))).trans
      (raiseFault_moved _ _ _)).trans ((testTriggers_move _).mono (by decide))) (.refl _ _)
  · exact .refl _ _

theorem outputUpdate_within (s : State) : ResultWithin [.clock, .lines, .lights] s (execOutputUpdate s) :=
  whenRunning_within (((advanceTo_move s (by decide) (by decide) _).trans (withClock_move _ (by decide) _)).trans
    ((withGroups_move _ _).mono (by decide)))

theorem gap_within (s : State) : ResultWithin ([.clock, .lines] ++ sequencer) s (execGapExpiry s) := by
  refine whenRunning_within ?_
  dsimp only
  split
  · exact ((advanceTo_move s (by decide) (by decide) _).trans (withCalls_move _ (by decide) _)).trans
      ((startTest_move _).mono (by decide))
  · exact .refl _ _

theorem staffRepeat_within (s : State) : ResultWithin ([.clock, .lines] ++ sequencer) s (execStaffRepeatExpiry s) := by
  refine whenRunning_within ?_
  dsimp only
  split
  next t _ =>
    have h : Move ([.clock, .lines] ++ sequencer) s
        ((s.advanceTo t).withCalls { (s.advanceTo t).calls with staffRepeat := none }) :=
      (advanceTo_move s (by decide) (by decide) t).trans (withCalls_move _ (by decide) _)
    exact .ite (h.trans ((staffBecomesDue_move _).mono (by decide))) h
  next => exact .refl _ _

/-! ### Effects of the bays -/

theorem readyAnswer_within (s : State) (b : Bay) (type : ModuleType) :
    ResultWithin alarmParts s (execReadyAnswer b type s) :=
  whenRunning_within <| .ite (.refl _ _) <|
    .ite (((((changeBay_move s b _).mono (by decide)).trans (log_move _ _)).trans (onlineNotice_move _ _ _)).trans
      ((beginExchange_move _ _ _).mono (by decide))) (failBay_move s b _)

theorem debounce_within (s : State) (b : Bay) (sense : ModuleType) :
    ResultWithin ([.clock, .lines] ++ alarmParts) s (execDebounceExpiry b sense s) := by
  refine whenRunning_within ?_
  split
  · exact (advanceTo_move s (by decide) (by decide) _).trans ((debounced_move _ _ _).mono (by decide))
  · exact .refl _ _

theorem readyTimer_within (s : State) (b : Bay) :
    ResultWithin ([.clock, .lines] ++ alarmParts) s (execReadyTimerExpiry b s) := by
  refine whenRunning_within ?_
  split
  · exact (advanceTo_move s (by decide) (by decide) _).trans ((failBay_move _ _ _).mono (by decide))
  · exact .refl _ _

theorem overcurrent_within (s : State) (b : Bay) (supply : Supply) :
    ResultWithin alarmParts s (execOvercurrent b supply s) := by
  refine whenRunning_within ?_
  split
  · exact failBay_move s b _
  · exact failBay_move s b _
  · exact .refl _ _

theorem bayExchange_within (s : State) (b : Bay) : ResultWithin [.clock, .lines, .bays] s (execBayExchange b s) := by
  refine whenRunning_within ?_
  split
  · exact (advanceTo_move s (by decide) (by decide) _).trans ((beginExchange_move _ _ _).mono (by decide))
  · exact .refl _ _

theorem playEvent_within (s : State) (b : Bay) (play : Byte) (event : State → State)
    (h : ∀ t, Move sequencer t (event t)) :
    ResultWithin sequencer s (whenRunning s fun s => s.playEvent b play event) :=
  have hends := playEnds_move s (ps := sequencer) (by decide) b play
  whenRunning_within (.ite (.ite (hends.trans (h _)) hends) (.refl _ _))

theorem presenceChange_within (s : State) (b : Bay) (presence : Presence) :
    ResultWithin alarmParts s (execPresenceChange b presence s) :=
  whenRunning_within (.ite (.refl _ _) (takePresence_move s b presence))

theorem loopSample_within (s : State) (b : Bay) (readings : Vector Byte 32) :
    ResultWithin alarmParts s (execLoopSample b readings s) :=
  whenRunning_within (.ite (((answered_move s (by decide) b).trans
    ((sampleBay_move _ _ _).mono (by decide))).trans (react_move _)) (.refl _ _))

theorem driveDelivery_within (s : State) (b : Bay) (inputs : DriveInputs) :
    ResultWithin (.bays :: drive) s (execDriveDelivery b inputs s) :=
  whenRunning_within (.ite ((answered_move s (by decide) b).trans
    ((curtainDelivery_move _ _).mono (by decide))) (.refl _ _))

theorem exchangeNoAnswer_within (s : State) (b : Bay) :
    ResultWithin (.draws :: alarmParts) s (execExchangeNoAnswer b s) :=
  whenRunning_within (.ite (unanswered_move s b) (.refl _ _))

/-- The answer of a module that hands nothing to its user. -/
theorem answered_within (s : State) (b : Bay) (type : ModuleType) :
    ResultWithin [.bays] s (whenRunning s fun s => if s.online b type then s.answered b else s) :=
  whenRunning_within (.ite (answered_move s (by decide) b) (.refl _ _))

/-! ### The table -/

/-- The parts that a command which begins no start may touch, a composition apart. -/
def touches : Instr → List Part
  | .frameReceived _ _ => .lines :: peerParts
  | .arbitrationLost _ | .frameSent _ => [.lines]
  | .lineSilenceTimeout _ | .composeSpacingExpiry | .routineComposition => [.clock, .lines]
  | .duplicateStationCleared => [.clock, .lines, .peers]
  | .peerSilent _ => [.clock, .lines, .peers] ++ alarmParts
  | .endOfJoining => [.clock, .lines, .station] ++ phaseParts
  | .nodeTimeIncrement | .intervalMark _ | .intervalTimerExpiry | .effectsWindowExpiry _ | .windowCopyExpiry _ _
  | .realarmWindowEnd | .proofExpired => incrementParts
  | .ackWindowExpiry | .investigationTimeout | .debounceExpiry _ _ | .readyTimerExpiry _ =>
    [.clock, .lines] ++ alarmParts
  | .loopSample _ _ | .presenceChange _ _ | .readyAnswer _ _ | .overcurrent _ _ => alarmParts
  | .exchangeNoAnswer _ => .draws :: alarmParts
  | .driveDelivery _ _ => .bays :: drive
  | .raiseTimeout => [.clock, .lines] ++ drive
  | .outputUpdate => [.clock, .lines, .lights]
  | .gapExpiry | .staffRepeatExpiry => [.clock, .lines] ++ sequencer
  | .bayExchange _ => [.clock, .lines, .bays]
  | .dimmerAcknowledgement _ | .callExchangeAnswer _ => [.bays]
  | .playComplete _ _ | .playerFault _ _ | .callRequest _ _ _ _ => sequencer
  | .selectReleasedEarly | .answerComplete | .answerCutShort | .unknownRequest | .readRecord _ => []
  | .setPhase _ _ | .holdOn | .holdOff => phaseParts
  | .ack | .silence | .reset | .disable _ | .enable _ | .effectsOpen _ _ | .effectsClose _ => alarmParts
  | .curtainRaise | .curtainLower | .curtainStop | .curtainTest | .curtainDrop | .curtainUnknown => drive
  | .lightClaimSet _ _ _ _ _ | .lightClaimClear _ => [.lights]
  | .clearSnapshot => [.alarm]
  | .releaseTrace => [.descent]
  | .resetAsserted | .supplyFall _ => [.power, .station, .lines, .curtain, .bays]
  | .powerOn _ _ _ | .resetReleased _ _ _ | .supplyDip _ _ _ => []

/-- Each command but those that begin a start leaves the parts that the table does not give it. -/
theorem exec_within (c : Instr) (hc : beginsStart c = false) (s : State) : ResultWithin (touches c) s (exec c s) := by
  cases c with
  | frameReceived l frame => exact frameReceived_within s l frame
  | arbitrationLost l => exact withLine_within s l _
  | frameSent l => exact withLine_within s l _
  | lineSilenceTimeout l => exact lineSilence_within s l
  | composeSpacingExpiry => exact composeSpacing_within s
  | routineComposition => exact routineComposition_within s
  | duplicateStationCleared => exact duplicateCleared_within s
  | peerSilent station => exact peerSilent_within s station
  | endOfJoining => exact endOfJoining_within s
  | nodeTimeIncrement => exact nodeTimeIncrement_within s
  | intervalMark mark => exact whenDue_within s _
  | intervalTimerExpiry => exact whenDue_within s _
  | effectsWindowExpiry z => exact whenDue_within s _
  | windowCopyExpiry desk z => exact whenDue_within s _
  | realarmWindowEnd => exact whenDue_within s _
  | proofExpired => exact whenDue_within s _
  | ackWindowExpiry => exact ackWindow_within s
  | investigationTimeout => exact investigation_within s
  | loopSample b readings => exact loopSample_within s b readings
  | driveDelivery b inputs => exact driveDelivery_within s b inputs
  | raiseTimeout => exact raiseTimeout_within s
  | outputUpdate => exact outputUpdate_within s
  | bayExchange b => exact bayExchange_within s b
  | dimmerAcknowledgement b => exact answered_within s b .dimmer
  | callExchangeAnswer b => exact answered_within s b .call
  | exchangeNoAnswer b => exact exchangeNoAnswer_within s b
  | playComplete b play => exact playEvent_within s b play (State.bayDone · b) fun t => bayDone_move t b
  | playerFault b play => exact playEvent_within s b play (State.bayFault · b) fun t => bayFault_move t b
  | gapExpiry => exact gap_within s
  | staffRepeatExpiry => exact staffRepeat_within s
  | presenceChange b presence => exact presenceChange_within s b presence
  | debounceExpiry b sense => exact debounce_within s b sense
  | readyAnswer b type => exact readyAnswer_within s b type
  | readyTimerExpiry b => exact readyTimer_within s b
  | overcurrent b supply => exact overcurrent_within s b supply
  | selectReleasedEarly => exact concluded_panel_within (.refl _ s) _
  | answerCutShort => exact concluded_panel_within (.refl _ s) _
  | unknownRequest => exact concluded_panel_within (.refl _ s) _
  | readRecord name => exact concluded_panel_within (.refl _ s) _
  | answerComplete =>
    change ResultWithin [] s (execAnswerComplete s)
    unfold execAnswerComplete
    split
    · exact concluded_panel_within (.refl _ s) _
    · exact concluded_panel_within (.refl _ s) _
  | setPhase target minutes => exact operatorRequest_within (requestPhase · target _) (requestPhase_move s target _)
  | holdOn => exact operatorRequest_within (requestHold · true) (requestHold_move s true)
  | holdOff => exact operatorRequest_within (requestHold · false) (requestHold_move s false)
  | ack => exact operatorRequest_within requestAck (requestAck_move s)
  | silence => exact operatorRequest_within requestSilence (requestSilence_move s)
  | reset => exact operatorRequest_within requestReset (requestReset_move s)
  | disable z => exact operatorRequest_within (requestDisable · z) (requestDisable_move s z)
  | enable z => exact operatorRequest_within (requestEnable · z) (requestEnable_move s z)
  | effectsOpen zones duration => exact operatorRequest_within (requestOpen · zones duration) (requestOpen_move s zones duration)
  | effectsClose selection => exact operatorRequest_within (requestClose · selection) (requestClose_move s selection)
  | curtainRaise => exact operatorRequest_within (requestDemand · (some .raise)) (requestDemand_move s _)
  | curtainLower => exact operatorRequest_within (requestDemand · (some .lower)) (requestDemand_move s _)
  | curtainStop => exact operatorRequest_within (requestDemand · (some .stop)) (requestDemand_move s _)
  | curtainTest => exact operatorRequest_within (requestDemand · (some .test)) (requestDemand_move s _)
  | curtainDrop => exact operatorRequest_within (requestDemand · (some .drop)) (requestDemand_move s _)
  | curtainUnknown => exact operatorRequest_within (requestDemand · none) (requestDemand_move s _)
  | lightClaimSet slot group kind level fade =>
    exact operatorRequest_within (setClaim · slot group kind _ fade) (setClaim_move s slot group kind _ fade)
  | lightClaimClear selection => exact operatorRequest_within (clearClaims · selection) (clearClaims_move s selection)
  | callRequest slot message zones repeats =>
    exact operatorRequest_within (requestCall · slot message zones repeats) (requestCall_move s slot message zones repeats)
  | clearSnapshot => exact operatorRequest_within requestClearSnapshot (requestClearSnapshot_move s)
  | releaseTrace => exact operatorRequest_within requestReleaseTrace (requestReleaseTrace_move s)
  | resetAsserted => exact .next ((halt_within s _).mono (List.subset_append_right _ _))
  | supplyFall intact => exact .next ((halt_within s _).mono (List.subset_append_right _ _))
  | powerOn _ _ _ => exact Bool.noConfusion hc
  | resetReleased _ _ _ => exact Bool.noConfusion hc
  | supplyDip _ _ _ => exact Bool.noConfusion hc

end Sys2Proof.Machine
end

section
/-!
PHASE (R2, R3, R12). The phase view after each operation that may change it, and the hold that every step keeps within
the show.
-/
namespace Sys2Proof.Machine

/-! ### A view taken (R3) -/

theorem takeView_phase (s : State) (view : PhaseSection) (restart : Bool) :
    (s.takeView view restart).phase = s.phase.take view restart := by
  have h := (markIf_move (ps := alarmParts) (s.withPhase (s.phase.take view restart))
    (s.phase.section != (s.phase.take view restart).section)).phase (by decide)
  unfold State.takeView
  dsimp only
  split
  · exact ((phaseNotice_move _).phase (by decide)).trans h
  · split
    · exact ((lightsPhase_move _).phase (by decide)).trans h
    · exact h

theorem requestPhase_phase (s : State) (target : Option Phase) (minutes : Nat) :
    (requestPhase s target minutes).1.phase = s.phase ∨
      ∃ view, (requestPhase s target minutes).1.phase = s.phase.take view false := by
  unfold requestPhase
  split
  · exact .inl rfl
  · split
    · exact .inl rfl
    · split
      · exact .inl rfl
      · split
        · exact .inl rfl
        · split
          · exact .inl rfl
          · exact .inr ⟨_, takeView_phase _ _ _⟩

theorem requestHold_phase (s : State) (hold : Bool) :
    (requestHold s hold).1.phase = s.phase ∨ ∃ view, (requestHold s hold).1.phase = s.phase.take view false := by
  unfold requestHold
  split
  · exact .inl rfl
  · split
    · exact .inl rfl
    · split
      · exact .inl rfl
      · exact .inr ⟨_, takeView_phase _ _ _⟩

theorem phaseAccept_phase (s : State) (station : Nat) :
    (s.phaseAccept station).phase = s.phase ∨ ∃ view, (s.phaseAccept station).phase = s.phase.take view false := by
  unfold State.phaseAccept
  split
  · split
    · exact .inr ⟨_, takeView_phase _ _ _⟩
    · exact .inl rfl
  · exact .inl rfl

theorem phaseJoined_phase (s : State) (source : Option PeerRecord) :
    (s.phaseJoined source).phase = s.phase ∨ ∃ view, (s.phaseJoined source).phase = s.phase.take view true := by
  unfold State.phaseJoined
  split
  · split
    · exact .inr ⟨_, takeView_phase _ _ _⟩
    · exact .inl rfl
  · exact .inl rfl

/-! ### The operations that hand a view on -/

/-- Of the readers of an acceptance the Phase Tracker alone changes the view (R39). -/
theorem acceptNotices_phase (s : State) (station : Nat) (resync live : Bool) :
    (s.acceptNotices station resync live).phase = (s.phaseAccept station).phase :=
  (callsAccept_move _ _ _ _).phase (by decide) |>.trans <| (lightsAccept_move _ _).phase (by decide) |>.trans <|
    (curtainAccept_move _ _ _).phase (by decide) |>.trans <| (detectionPeer_move _ _).phase (by decide) |>.trans <|
    (alarmAccept_move _ _).phase (by decide)

theorem accept_phase (s : State) (r : PeerRecord) (report : Report) (missed : Nat) (resync : Bool) :
    (s.accept r report missed resync).phase = ((s.acceptRecord r report missed).phaseAccept r.station).phase :=
  acceptNotices_phase _ _ _ _

/-- R49: the readers of the end of the joining period, after the Phase Tracker. -/
def State.joinedReaders (s : State) (source : Option PeerRecord) : State :=
  (((((s.alarmJoined source).lightsPhase).detectionJoined.react).recomputeDisabled).react).curtainJoined

/-- R49: the JOINING flag and the standing after the notices. -/
def State.endFlag (s : State) : State :=
  (s.withStation { s.station with joining := false, standing := s.joinedStanding }).mark

theorem endJoining_eq (s : State) :
    s.endJoining = ((s.phaseJoined s.joiningSource).joinedReaders s.joiningSource).endFlag := by
  unfold State.endJoining State.joinedReaders State.endFlag
  rfl

theorem endFlag_phase (s : State) : s.endFlag.phase = s.phase := rfl

theorem joinedReaders_move (s : State) (source : Option PeerRecord) : Move joinedParts s (s.joinedReaders source) :=
  ((((((alarmJoined_move s source).trans ((lightsPhase_move _).mono (by decide))).trans
    ((detectionJoined_move _).mono (by decide))).trans ((react_move _).mono (by decide))).trans
    ((recomputeDisabled_move _).mono (by decide))).trans ((react_move _).mono (by decide))).trans
    ((curtainJoined_move _).mono (by decide))

theorem endJoining_phase (s : State) : s.endJoining.phase = (s.phaseJoined s.joiningSource).phase := by
  rw [endJoining_eq, endFlag_phase]
  exact (joinedReaders_move _ _).phase (by decide)

/-! ### The interval timer (R12) -/

theorem countInterval_phase (s : State) (remaining : Nat) :
    (s.countInterval remaining).phase = { s.phase with remaining := remaining } :=
  (Move.foldl callsMark_move (marksPassed s.phase.remaining remaining)
    (s.withPhase { s.phase with remaining := remaining })).phase (by decide)

/-- The remaining time after an increment of node time. -/
def PhaseView.counted (v : PhaseView) : PhaseView :=
  { v with remaining := if v.timerRuns then v.remaining - 1 else v.remaining }

theorem intervalSecond_phase (s : State) : s.intervalSecond.phase = s.phase.counted := by
  unfold State.intervalSecond PhaseView.counted
  split
  · exact countInterval_phase s _
  · rfl

theorem blocksCount_phase (s : State) (wasProven : Bool) : (s.blocksCount wasProven).phase = s.phase.counted :=
  calc (s.blocksCount wasProven).phase
    _ = (s.proofAges wasProven).intervalSecond.phase :=
      (realarmReached_move _).phase (by decide) |>.trans <| (leak_move _).phase (by decide) |>.trans <|
        (react_move _).phase (by decide) |>.trans <| (countDownWindows_move _).phase (by decide)
    _ = (s.proofAges wasProven).phase.counted := intervalSecond_phase _
    _ = s.phase.counted := congrArg PhaseView.counted ((proofAges_move (ps := []) s wasProven).phase (by decide))

theorem increment_phase (s : State) : s.increment.phase = s.phase.counted :=
  (blocksCount_phase _ _).trans (congrArg PhaseView.counted ((second_move s).phase (by decide)))

/-! ### The hold stays in the show (R2) -/

theorem take_holdLegal (held : PhaseView) (view : PhaseSection) (restart : Bool) :
    (held.take view restart).holdLegal := by
  intro h
  obtain ⟨-, hphase⟩ : view.hold = true ∧ view.phase.holdAllowed = true := by
    simpa [PhaseView.take, normalView] using h
  change view.phase = .performance ∨ view.phase = .interval
  revert hphase
  cases view.phase <;> decide

theorem counted_holdLegal {v : PhaseView} (h : v.holdLegal) : v.counted.holdLegal := h

theorem coldPhase_holdLegal : coldPhase.holdLegal := by unfold PhaseView.holdLegal; decide

/-- From `s` to `t` the hold stays off outside PERFORMANCE and INTERVAL. -/
def KeepsHold (s t : State) : Prop := s.phase.holdLegal → t.phase.holdLegal

theorem KeepsHold.of_phase_eq {s t : State} (h : t.phase = s.phase) : KeepsHold s t := fun hs => h ▸ hs

theorem KeepsHold.trans {s t u : State} (h : KeepsHold s t) (h' : KeepsHold t u) : KeepsHold s u := h' ∘ h

theorem KeepsHold.of_taken {s t : State} {restart : Bool}
    (h : t.phase = s.phase ∨ ∃ view, t.phase = s.phase.take view restart) : KeepsHold s t := by
  rcases h with h | ⟨view, h⟩
  · exact .of_phase_eq h
  · exact fun _ => h ▸ take_holdLegal _ _ _

theorem Move.keepsHold {ps : List Part} {s t : State} (h : Move ps s t) (hp : .phase ∉ ps) : KeepsHold s t :=
  .of_phase_eq (h.phase hp)

theorem Within.keepsHold {ps : List Part} {s t : State} (h : Within ps s t) (hp : .phase ∉ ps) : KeepsHold s t :=
  .of_phase_eq (h.phase hp)

theorem settleAt_keepsHold (s : State) (idle : Option Line) : KeepsHold s (s.settleAt idle) :=
  (settleAt_within s idle).keepsHold (by decide)

theorem accept_keepsHold (s : State) (r : PeerRecord) (report : Report) (missed : Nat) (resync : Bool) :
    KeepsHold s (s.accept r report missed resync) := by
  have hrecord : KeepsHold s (s.acceptRecord r report missed) := (acceptRecord_move s r report missed).keepsHold (by decide)
  refine hrecord.trans ?_
  unfold KeepsHold
  rw [accept_phase]
  exact KeepsHold.of_taken (phaseAccept_phase _ _)

theorem takeReport_keepsHold (s : State) (note : Option (Byte × Byte)) (report : Report) :
    KeepsHold s (s.takeReport note report) := by
  unfold State.takeReport
  split
  · split
    · exact id
    · exact (duplicateSeen_move s).keepsHold (by decide)
  · split
    · exact id
    · split
      · exact accept_keepsHold _ _ _ _ _
      · unfold State.judgeSequence
        dsimp only
        split
        · exact (withPeer_move s (ps := [.peers]) (by decide) _).keepsHold (by decide)
        · split
          · exact accept_keepsHold _ _ _ _ _
          · exact id

theorem handReport_keepsHold (s : State) (l : Line) (report : Report) : KeepsHold s (s.handReport l report) := by
  unfold State.handReport
  split
  · exact takeReport_keepsHold _ _ _
  · exact id

/-- What a good frame of another station does at its line before its report is handed on (R22, R25). -/
theorem goodLine_move (s : State) (l : Line) :
    Move [.lines] s (((s.countGood l).credit l).clearFault (.lineFault l)) :=
  ((withLine_move s (by decide) _ _).trans (credit_move _ l)).trans (clearFault_moved _ _)

theorem credit_handPoisoned_move (s : State) (l : Line) (n : Nat) :
    Move [.lines, .peers] s ((s.credit l).handPoisoned n) :=
  ((credit_move s l).mono (by decide)).trans ((handPoisoned_move _ n).mono (by decide))

theorem classified_keepsHold (s : State) (l : Line) (own : Bool) (verdict : FrameVerdict) :
    KeepsHold s (s.classified l own verdict) := by
  have hcrc : KeepsHold s (s.countCrc l) := (withLine_move s (ps := [.lines]) (by decide) l _).keepsHold (by decide)
  unfold State.classified
  split
  · exact hcrc
  · split
    · exact (credit_handPoisoned_move s l _).keepsHold (by decide)
    · exact hcrc
  · split
    · exact id
    · exact (credit_handPoisoned_move s l _).keepsHold (by decide)
  · split
    · exact handReport_keepsHold _ _ _
    · exact ((goodLine_move s l).keepsHold (by decide)).trans (handReport_keepsHold _ _ _)

theorem frameEnds_keepsHold (s : State) (l : Line) (frame : List Byte) : KeepsHold s (s.frameEnds l frame) :=
  ((withLine_move s (ps := [.lines]) (by decide) l _).keepsHold (by decide)).trans (classified_keepsHold _ _ _ _)

theorem endJoining_keepsHold (s : State) : KeepsHold s s.endJoining := by
  unfold KeepsHold
  rw [endJoining_phase]
  exact KeepsHold.of_taken (phaseJoined_phase s _)

theorem increment_keepsHold (s : State) : KeepsHold s s.increment := by
  unfold KeepsHold
  rw [increment_phase]
  exact counted_holdLegal

/-! ### Starts (R14, R183) -/

/-- The last step of a start takes the values that follow from the records. -/
theorem takeValues_move (s : State) (presence : PerBay Presence) :
    Move alarmParts s (((s.startView).startStandingCalls).readPresence presence) := by
  have hview : Move [.alarm] s s.startView := by
    unfold State.startView
    exact (rebuildMerged_move s).trans (setAlarm_move _ (by decide) _)
  have hcalls (t : State) : Move alarmParts t t.startStandingCalls :=
    .ite ((staffBecomesDue_move t).mono (by decide)) (.refl _ _)
  exact ((hview.mono (by decide)).trans (hcalls _)).trans (.foldl (fun t b => takePresence_move t b _) _ _)

/-- Only the step that sets the records of a cold start changes the view. -/
theorem stepEffect_phase (s : State) (p : StartProgress) (step : StartStep) :
    (s.stepEffect p step).phase = if step = .recordsSet ∧ p.kind = .cold then coldPhase else s.phase := by
  cases step with
  | recordsSet => unfold State.stepEffect State.setRecords; cases p.kind <;> rfl
  | valuesTaken => exact (takeValues_move s p.presence).phase (by decide)
  | kindDecided => rfl
  | imageValidated => rfl
  | countFixed => rfl
  | startLogged => rfl

theorem makeStep_keepsHold (p : StartProgress) (s : State) (step : StartStep) : KeepsHold s (State.makeStep p s step) := by
  intro h
  change (s.stepEffect p step).phase.holdLegal
  rw [stepEffect_phase]
  split
  · exact coldPhase_holdLegal
  · exact h

theorem makeSteps_keepsHold (p : StartProgress) (steps : List StartStep) (s : State) :
    KeepsHold s (s.makeSteps p steps) := by
  induction steps generalizing s with
  | nil => exact id
  | cons step rest ih => exact (makeStep_keepsHold p s step).trans (ih _)

/-- The completion of a start leaves every record of the blocks: the station and the power apart, it raises CONFIG
INVALID and composes. -/
theorem completeStart_within (s : State) : Within (composing ++ [.power, .station]) s s.completeStart := by
  have hbegin : Within [.power, .station] s
      ((s.withPower { s.power with running := true, start := none }).withStation
        { s.station with joiningUntil := s.clock.now + Config.joiningMs }) :=
    fun p hp => by cases p <;> first | rfl | exact absurd (by decide) hp
  have hfault (t : State) (f : Option ConfigFailure) : Move [] t
      (match f with
        | some failure => t.raiseFault .configInvalid (.invalid failure)
        | none => t) := by
    cases f
    · exact .refl _ _
    · exact raiseFault_moved _ _ _
  unfold State.completeStart
  exact (hbegin.mono (by decide)).trans <| ((proofAges_move (ps := []) _ _).within.mono (by decide)).trans <|
    ((hfault _ _).within.mono (by decide)).trans <| ((composeAt_within _ none).mono (by decide)).trans <|
    (withStation_move _ (ps := composing ++ [.power, .station]) (by decide) _).within

theorem completeStart_keepsHold (s : State) : KeepsHold s s.completeStart :=
  (completeStart_within s).keepsHold (by decide)

theorem finishStart_keepsHold (s : State) : KeepsHold s s.finishStart := by
  unfold State.finishStart
  split
  · exact (makeSteps_keepsHold _ _ s).trans (completeStart_keepsHold _)
  · exact id

theorem start_keepsHold (s : State) (kind : StartKind) (memory : ConfigMemory) (presence : PerBay Presence)
    (reached : Option StartStep) : KeepsHold s (s.start kind memory presence reached) := by
  cases reached with
  | none => exact (makeSteps_keepsHold _ _ (s.beginStart kind memory presence)).trans (completeStart_keepsHold _)
  | some step => exact makeSteps_keepsHold _ _ (s.beginStart kind memory presence)

/-! ### Every command -/

/-- Every next state of a result keeps the hold in the show. -/
def ResultKeepsHold (s : State) (r : Result) : Prop := ∀ t, r = .next t → KeepsHold s t

theorem ResultKeepsHold.next {s t : State} (h : KeepsHold s t) : ResultKeepsHold s (.next t) :=
  fun _ e => Host.Outcome.next.inj e ▸ h

theorem ResultWithin.keepsHold {ps : List Part} {s : State} {r : Result} (h : ResultWithin ps s r)
    (hp : .phase ∉ composing ++ ps) : ResultKeepsHold s r :=
  fun t e => (h t e).keepsHold hp

theorem whenRunning_keepsHold {s : State} {effect : State → State} (h : KeepsHold s (effect s)) :
    ResultKeepsHold s (whenRunning s effect) := by
  rcases whenRunning_cases s effect with ⟨-, e⟩ | ⟨-, e⟩ <;> rw [e]
  · exact .next (h.trans (settleAt_keepsHold _ none))
  · exact .next id

theorem whenDue_keepsHold (s : State) (due : Bool) : ResultKeepsHold s (whenDue s due) := by
  refine whenRunning_keepsHold ?_
  split
  · exact increment_keepsHold s
  · exact id

theorem nodeTimeIncrement_keepsHold (s : State) : ResultKeepsHold s (execNodeTimeIncrement s) := by
  unfold execNodeTimeIncrement
  split
  · exact .next ((increment_keepsHold s).trans (settleAt_keepsHold _ none))
  · split
    · exact .next ((second_move s).keepsHold (by decide))
    · exact .next id

theorem frameReceived_keepsHold (s : State) (l : Line) (frame : List Byte) :
    ResultKeepsHold s (execFrameReceived l frame s) := by
  rcases execFrameReceived_cases s l frame with ⟨-, e⟩ | ⟨-, e⟩ <;> rw [e]
  · exact .next ((frameEnds_keepsHold s l frame).trans (settleAt_keepsHold _ _))
  · exact .next id

theorem endOfJoining_keepsHold (s : State) : ResultKeepsHold s (execEndOfJoining s) := by
  have hclock : KeepsHold s (s.advanceTo s.station.joiningUntil) :=
    (advanceTo_move s (ps := [.clock, .lines]) (by decide) (by decide) _).keepsHold (by decide)
  refine whenRunning_keepsHold ?_
  split
  · exact hclock.trans (endJoining_keepsHold _)
  · exact id

theorem operatorRequest_keepsHold {s : State} (owner : State → State × Answer) (h : KeepsHold s (owner s).1) :
    ResultKeepsHold s (operatorRequest s owner) := by
  have hend (t : State) (body : AnswerBody) : KeepsHold t (t.judged body none).concluded :=
    (judged_concluded_within t body none).keepsHold (by decide)
  unfold operatorRequest
  split
  · exact .next (h.trans (hend _ _))
  · exact .next (hend _ _)

/-- The beginnings of a start: with RESET asserted or supply away no start runs. -/
theorem beginsStart_keepsHold (s : State) (c : Instr) (h : beginsStart c = true) : ResultKeepsHold s (exec c s) := by
  have hpower (power : Power) : KeepsHold s (s.withPower power) := id
  cases c with
  | powerOn good memory course =>
    simp only [exec, execPowerOn]
    split
    · exact .next (hpower _)
    · exact .next ((hpower _).trans (start_keepsHold _ _ _ _ _))
  | supplyDip retain memory course =>
    simp only [exec, execSupplyDip]
    split
    · exact .next (hpower _)
    · exact .next ((hpower _).trans (start_keepsHold _ _ _ _ _))
  | resetReleased retain memory course =>
    simp only [exec, execResetReleased]
    split
    · exact .next ((hpower _).trans (start_keepsHold _ _ _ _ _))
    · exact .next (hpower _)
  | _ => exact Bool.noConfusion h

/-- Each command either keeps away from the phase view, takes a view, counts the interval timer or begins a start. -/
theorem exec_keepsHold (c : Instr) (s : State) : ResultKeepsHold s (exec c s) := by
  by_cases hstart : beginsStart c = true
  · exact beginsStart_keepsHold s c hstart
  have hstart := Bool.eq_false_iff.mpr hstart
  by_cases hp : .phase ∉ composing ++ touches c
  · exact (exec_within c hstart s).keepsHold hp
  cases c with
  | frameReceived l frame => exact frameReceived_keepsHold s l frame
  | endOfJoining => exact endOfJoining_keepsHold s
  | nodeTimeIncrement => exact nodeTimeIncrement_keepsHold s
  | intervalMark mark => exact whenDue_keepsHold s _
  | intervalTimerExpiry => exact whenDue_keepsHold s _
  | effectsWindowExpiry z => exact whenDue_keepsHold s _
  | windowCopyExpiry desk z => exact whenDue_keepsHold s _
  | realarmWindowEnd => exact whenDue_keepsHold s _
  | proofExpired => exact whenDue_keepsHold s _
  | setPhase target minutes => exact operatorRequest_keepsHold (requestPhase · target _) (.of_taken (requestPhase_phase s target _))
  | holdOn => exact operatorRequest_keepsHold (requestHold · true) (.of_taken (requestHold_phase s true))
  | holdOff => exact operatorRequest_keepsHold (requestHold · false) (.of_taken (requestHold_phase s false))
  | _ => exact absurd (by simp [touches]) hp

/-- Settles O5: a step is a command, or an idle millisecond in which a start in progress may complete. -/
theorem everyStepKeepsTheHoldInTheShow : Obligations.EveryStepKeepsTheHoldInTheShow := by
  intro s t hs hstep
  unfold step at hstep
  split at hstep
  · obtain rfl := Host.Outcome.next.inj hstep
    have htick : KeepsHold s s.tick :=
      (advanceTo_move s (ps := [.clock, .lines]) (by decide) (by decide) _).keepsHold (by decide)
    exact htick.trans (finishStart_keepsHold _) hs
  · next c rest _ => exact exec_keepsHold c (s.withPending rest) t hstep hs

end Sys2Proof.Machine
end

section
/-!
RESET (log entry 4). The state before the first start: its log, its fault list and its queues are empty, so each law
holds of it for want of entries, and its peer records are those of a station of no number.
-/
namespace Sys2Proof.Machine

theorem ringGood_of_empty {p : Panel} (h : p.log = []) : p.ringGood := by
  simp [Panel.ringGood, Panel.numbered, Panel.unreadNewest, h]

theorem keysDistinct_of_empty {p : Panel} (h : p.faults = []) : p.keysDistinct := by
  simp [Panel.keysDistinct, h]

/-- The records after a start are those of R34. -/
theorem coldPeers_stations (own : Nat) :
    (coldPeers own).records.map (·.station) = stationNumbers.filter (· ≠ own) := by
  simp [coldPeers, stationNumbers, absentPeer, Function.comp_def]

theorem peerNumbers_nodup (own : Nat) : (stationNumbers.filter (· ≠ own)).Nodup :=
  (List.nodup_range' (s := 1) (n := 40)).filter _

theorem oneEach_of_peersComplete {s : State} (h : s.peersComplete) : s.peers.oneEach := by
  unfold PeerTable.oneEach
  rw [h]
  exact peerNumbers_nodup _

theorem reset_peersComplete : State.reset.peersComplete := coldPeers_stations 0

/-- Settles O11: each law at the cold values of its block. -/
theorem resetMeetsTheLaws : Obligations.ResetMeetsTheLaws :=
  ⟨ringGood_of_empty rfl, keysDistinct_of_empty rfl, oneEach_of_peersComplete reset_peersComplete, reset_peersComplete,
    coldPhase_holdLegal, nofun, nofun, Nat.zero_le 16,
    List.nodup_nil, rfl⟩

end Sys2Proof.Machine
end

section
/-!
REACTIONS. What a notice between the blocks leaves of the reports' own faults and of the alarm: every key but those of
the zones and of the drive stands as it did, the generation is kept, and EVACUATE is not left (R78). One lemma for each
operation that a reader of the phase, of the stage, of an acceptance or of the end of joining may run.
-/
namespace Sys2Proof.Machine

/-- The keys that follow a zone or the own drive (R55, R105, R106, R110): those that a reader raises and clears. -/
def FaultKey.ofReaders : FaultKey → Bool
  | .zoneFault _ | .driveLost | .limitMismatch | .raiseTimeout | .encoderLost | .overspeed | .stall | .overtime => true
  | _ => false

theorem reasonKey_ofReaders (reason : DescentReason) : (reasonKey reason).ofReaders = true := by cases reason <;> rfl

/-- What a reaction leaves alone. -/
structure Reacts (s t : State) : Prop where
  stands : ∀ key, key.ofReaders = false → t.stands key = s.stands key
  generation : t.alarm.generation = s.alarm.generation
  evacuate : s.alarm.stage = .evacuate → t.alarm.stage = .evacuate

namespace Reacts

variable {s t u : State}

theorem refl (s : State) : Reacts s s := ⟨fun _ _ => rfl, rfl, id⟩

theorem trans (h : Reacts s t) (h' : Reacts t u) : Reacts s u :=
  ⟨fun key hk => (h'.stands key hk).trans (h.stands key hk), h'.generation.trans h.generation,
    h'.evacuate ∘ h.evacuate⟩

theorem ite {c : Prop} [Decidable c] (h : Reacts s t) (h' : Reacts s u) : Reacts s (if c then t else u) := by
  split <;> assumption

theorem foldl {α : Type} {f : State → α → State} (h : ∀ t x, Reacts t (f t x)) (xs : List α) (s : State) :
    Reacts s (xs.foldl f s) := by
  induction xs generalizing s with
  | nil => exact refl s
  | cons x xs ih => exact (h s x).trans (ih _)

end Reacts

/-! ### One update -/

section
variable (s : State)

theorem withPhase_reacts (x : PhaseView) : Reacts s (s.withPhase x) := ⟨fun _ _ => rfl, rfl, id⟩
theorem withStation_reacts (x : Station) : Reacts s (s.withStation x) := ⟨fun _ _ => rfl, rfl, id⟩
theorem withDetection_reacts (x : Detection) : Reacts s (s.withDetection x) := ⟨fun _ _ => rfl, rfl, id⟩
theorem withCurtain_reacts (x : Curtain) : Reacts s (s.withCurtain x) := ⟨fun _ _ => rfl, rfl, id⟩
theorem withDescent_reacts (x : Supervisor) : Reacts s (s.withDescent x) := ⟨fun _ _ => rfl, rfl, id⟩
theorem withLights_reacts (x : Lights) : Reacts s (s.withLights x) := ⟨fun _ _ => rfl, rfl, id⟩
theorem withCalls_reacts (x : Calls) : Reacts s (s.withCalls x) := ⟨fun _ _ => rfl, rfl, id⟩
theorem withBay_reacts (b : Bay) (x : BayRecord) : Reacts s (s.withBay b x) := ⟨fun _ _ => rfl, rfl, id⟩
theorem mark_reacts : Reacts s s.mark := ⟨fun _ _ => rfl, rfl, id⟩
theorem log_reacts (e : LogEvent) : Reacts s (s.log e) := ⟨fun _ _ => rfl, rfl, id⟩
theorem markIf_reacts (b : Bool) : Reacts s (s.markIf b) := .ite (mark_reacts s) (.refl s)
theorem logIf_reacts (b : Bool) (e : LogEvent) : Reacts s (s.logIf b e) := .ite (log_reacts s e) (.refl s)

/-- A change of the alarm that keeps the generation and does not leave EVACUATE. -/
theorem setAlarm_reacts {f : Alarm → Alarm} (hg : (f s.alarm).generation = s.alarm.generation)
    (he : s.alarm.stage = .evacuate → (f s.alarm).stage = .evacuate) : Reacts s (s.setAlarm f) :=
  ⟨fun _ _ => rfl, hg, he⟩

theorem FaultMove.reacts {s t : State} {key : FaultKey} (h : FaultMove key s t) (hk : key.ofReaders = true) :
    Reacts s t := by
  have halarm : t.alarm = s.alarm := by rw [h.frame]; rfl
  refine ⟨fun other ho => h.panel.others other fun e => ?_, by rw [halarm], by rw [halarm]; exact id⟩
  rw [e, hk] at ho
  exact Bool.noConfusion ho

theorem raiseFault_reacts {key : FaultKey} (hk : key.ofReaders = true) (detail : FaultDetail) :
    Reacts s (s.raiseFault key detail) := (raiseFault_move s key detail).reacts hk

theorem clearFault_reacts {key : FaultKey} (hk : key.ofReaders = true) : Reacts s (s.clearFault key) :=
  (clearFault_move s key).reacts hk

theorem setFault_reacts {key : FaultKey} (hk : key.ofReaders = true) (detail : FaultDetail) (b : Bool) :
    Reacts s (s.setFault key detail b) := (setFault_move s key detail b).reacts hk

/-! ### The Call Sequencer -/

theorem playOn_reacts (set : PerBay Bool) (message : Nat) (zones : List Nat) : Reacts s (s.playOn set message zones) :=
  .foldl (fun t _ => .ite (withBay_reacts t _ _) (.refl _)) _ _

theorem stopCurrent_reacts : Reacts s s.stopCurrent :=
  Reacts.trans (.foldl (fun t _ => .ite (withBay_reacts t _ _) (.refl _)) _ _) (withCalls_reacts _ _)

theorem drainOnJoin_reacts : Reacts s s.drainOnJoin :=
  .ite ((withCalls_reacts s _).trans (log_reacts _ _)) (.refl _)

theorem drainOnLeave_reacts : Reacts s s.drainOnLeave :=
  .ite ((withCalls_reacts s _).trans (log_reacts _ _)) (.refl _)

/-- A play begins on a set of bays and is the current call. -/
theorem play_reacts (set : PerBay Bool) (message : Nat) (zones : List Nat) (call : CurrentCall) (outstanding : PerBay Bool) :
    Reacts s ((s.playOn set message zones).setCurrent call outstanding) :=
  (playOn_reacts s _ _ _).trans (withCalls_reacts _ _)

theorem enqueue_reacts (message : Nat) (zones : List Nat) (repeats source : Nat) (cls : CallClass) :
    Reacts s (s.enqueue message zones repeats source cls) := by
  unfold State.enqueue
  refine .ite (.refl _) ?_
  split
  · exact ((withCalls_reacts s _).trans (withCalls_reacts _ _)).trans (logIf_reacts _ _ _)
  · exact .ite ((withCalls_reacts s _).trans (log_reacts _ _)) ((withCalls_reacts s _).trans (drainOnJoin_reacts _))

theorem startTestUpTo_reacts (n : Nat) : Reacts s (startTestUpTo n s) := by
  induction n generalizing s with
  | zero => exact .refl _
  | succ n ih =>
    unfold startTestUpTo
    refine .ite ?_ (.refl _)
    split
    · exact .refl _
    · next e rest _ =>
      have h : Reacts s (s.withQueue rest).drainOnLeave := (withCalls_reacts s _).trans (drainOnLeave_reacts _)
      exact .ite (h.trans (((withCalls_reacts _ _).trans (log_reacts _ _)).trans (ih _)))
        (.ite (h.trans (play_reacts _ _ _ _ _ _)) (h.trans ((log_reacts _ _).trans (ih _))))

theorem startTest_reacts : Reacts s s.startTest := startTestUpTo_reacts s _

theorem offer_reacts (message : Nat) (zones : List Nat) (repeats source : Nat) (cls : CallClass) :
    Reacts s (s.offer message zones repeats source cls) :=
  .ite ((enqueue_reacts s _ _ _ _ _).trans (startTest_reacts _)) (.refl _)

theorem startStaff_reacts : Reacts s s.startStaff := by
  unfold State.startStaff
  have h := withCalls_reacts s { s.calls with staffRepeat := some (s.clock.now + Config.staffMs) }
  exact .ite (h.trans ((play_reacts _ _ _ _ _ _).trans (withCalls_reacts _ _))) h

theorem startStanding_reacts : Reacts s s.startStanding :=
  .ite (.ite (.ite (.refl _) (.ite (play_reacts s _ _ _ _ _) (.refl _))) (.ite (startStaff_reacts s) (.refl _))) (.refl _)

/-- R148: at a full queue the preempted entry drops the tail. -/
theorem dropTail_reacts : Reacts s
    (match s.calls.queue.getLast?, decide (Config.queueSize ≤ s.calls.queue.length) with
      | some tail, true =>
        (((s.withQueue s.calls.queue.dropLast).countDroppedFull).log (.queueFull tail.message tail.source)).drainOnLeave
      | _, _ => s) := by
  split
  · exact (((withCalls_reacts s _).trans (withCalls_reacts _ _)).trans (log_reacts _ _)).trans (drainOnLeave_reacts _)
  · exact .refl _

theorem returnToHead_reacts (e : QueueEntry) : Reacts s (s.returnToHead e) := by
  unfold State.returnToHead
  refine (log_reacts s (.callPreempted e.message)).trans ?_
  dsimp only
  generalize s.log (.callPreempted e.message) = t
  split
  · exact ((withCalls_reacts t _).trans (withCalls_reacts _ _)).trans (logIf_reacts _ _ _)
  · exact (dropTail_reacts t).trans ((withCalls_reacts _ _).trans (drainOnJoin_reacts _))

theorem preempt_reacts : Reacts s s.preempt := by
  unfold State.preempt
  split
  · exact .ite ((stopCurrent_reacts s).trans ((withCalls_reacts _ _).trans (log_reacts _ _)))
      ((stopCurrent_reacts s).trans (returnToHead_reacts _ _))
  · exact .refl _

theorem standingDue_reacts : Reacts s s.standingDue := (preempt_reacts s).trans (startStanding_reacts _)

theorem staffBecomesDue_reacts : Reacts s s.staffBecomesDue :=
  .ite (.refl _) ((withCalls_reacts s _).trans (standingDue_reacts _))

/-- Entries that leave the queue, each with its log entry, and the drain flag after the last of them. -/
theorem dropEntries_reacts (kept out : List QueueEntry) {note : State → QueueEntry → State}
    (h : ∀ t e, Reacts t (note t e)) :
    Reacts s (if out.isEmpty then out.foldl note (s.withQueue kept) else (out.foldl note (s.withQueue kept)).drainOnLeave) :=
  have hout := (withCalls_reacts s { s.calls with queue := kept }).trans (Reacts.foldl h out _)
  .ite hout (hout.trans (drainOnLeave_reacts _))

theorem callsPhase_reacts (p : Phase) : Reacts s (s.callsPhase p) := by
  unfold State.callsPhase
  have h : Reacts s (s.withdraw p) := dropEntries_reacts s _ _ fun t _ => log_reacts t _
  refine .ite ?_ (.refl _)
  dsimp only
  split
  · exact h.trans (offer_reacts _ _ _ _ _ _)
  · exact h

theorem discardStale_reacts : Reacts s s.discardStale :=
  dropEntries_reacts s _ _ fun t _ => (withCalls_reacts t _).trans (log_reacts _ _)

/-- A call of the given kind is stopped where it is the current one. -/
theorem stopIf_reacts (call : CurrentCall) : Reacts s (if s.calls.current = call then s.stopCurrent else s) :=
  .ite (stopCurrent_reacts s) (.refl _)

theorem endStaff_reacts : Reacts s s.endStaff := (stopIf_reacts s .staff).trans (withCalls_reacts _ _)

theorem callsStage_reacts (old new : Stage) : Reacts s (s.callsStage old new) := by
  unfold State.callsStage
  refine .ite (.refl _) (.ite ((endStaff_reacts s).trans (standingDue_reacts _)) (.ite ?_ (.ite
    (staffBecomesDue_reacts s) (.ite ((endStaff_reacts s).trans (startTest_reacts _)) (.refl _)))))
  have h := (stopIf_reacts s .evacuation).trans (discardStale_reacts _)
  exact (h.trans (.ite (staffBecomesDue_reacts _) (.refl _))).trans (startTest_reacts _)

theorem callsSilence_reacts : Reacts s s.callsSilence :=
  .ite (.ite (stopIf_reacts s .evacuation) (startStanding_reacts s)) (.refl _)

theorem judgeSlot_reacts (station : Nat) (resync live : Bool) (slot : Nat) :
    Reacts s (s.judgeSlot station resync live slot) := by
  have hseen (epoch : Option Byte) : Reacts s (s.setSeenRequest station slot epoch) := withCalls_reacts s _
  unfold State.judgeSlot
  dsimp only
  split
  · exact hseen _
  · exact hseen _
  · exact .refl _
  · split
    · exact hseen _
    · exact .ite ((hseen _).trans (offer_reacts _ _ _ _ _ _)) (.refl _)

theorem callsAccept_reacts (station : Nat) (resync live : Bool) : Reacts s (s.callsAccept station resync live) :=
  .ite (.foldl (fun t _ => judgeSlot_reacts t _ _ _ _) _ _) (.refl _)

/-! ### The drive -/

theorem setMismatch_reacts (own supervisor : Bool) : Reacts s (s.setMismatch own supervisor) :=
  ((withCurtain_reacts s _).trans (markIf_reacts _ _)).trans (setFault_reacts _ rfl _ _)

theorem settleMismatch_reacts : Reacts s s.settleMismatch := .ite (.refl _) (setMismatch_reacts s _ _)

theorem command_reacts : Reacts s s.command := withCurtain_reacts s _

theorem motionEnd_reacts (reason : EndReason) : Reacts s (s.motionEnd reason) := by
  unfold State.motionEnd
  split
  · exact .refl _
  · next motion _ =>
    have h : Reacts s (if motion = .testing then s.writeVerdict reason else s) :=
      .ite (((withCurtain_reacts s _).trans (mark_reacts _)).trans (log_reacts _ _)) (.refl _)
    have h' := h.trans (withDescent_reacts _
      ((if motion = .testing then s.writeVerdict reason else s).descent.finish reason))
    exact .ite (h'.trans (settleMismatch_reacts _)) h'

theorem enterState_reacts (state : CurtainState) (detail : CurtainDetail) : Reacts s (s.enterState state detail) := by
  unfold State.enterState
  have h : Reacts s
      (((s.withCurtain (s.curtain.enter state s.clock.now)).command.mark).log (.curtain state detail)) :=
    (((withCurtain_reacts s _).trans (command_reacts _)).trans (mark_reacts _)).trans (log_reacts _ _)
  exact .ite (h.trans (clearFault_reacts _ rfl)) h

theorem arrive_reacts : Reacts s s.arrive := by
  unfold State.arrive
  exact ((motionEnd_reacts s _).trans (withCurtain_reacts _ _)).trans (enterState_reacts _ _ _)

theorem takeRaised_reacts (reason : DescentReason) (k : Nat) (p : Option Nat) (v : Option Int) :
    Reacts s (s.takeRaised reason k p v) :=
  .ite ((mark_reacts s).trans (log_reacts _ _))
    ((mark_reacts s).trans (raiseFault_reacts _ (reasonKey_ofReaders reason) _))

theorem takeNotice_reacts (n : Notice) : Reacts s (s.takeNotice n) := by
  unfold State.takeNotice
  split
  · exact (takeRaised_reacts s _ _ _ _).trans ((withDescent_reacts _ _).trans (command_reacts _))
  · exact takeRaised_reacts s _ _ _ _
  · exact (mark_reacts s).trans (clearFault_reacts _ (reasonKey_ofReaders _))
  · exact command_reacts s
  · exact setMismatch_reacts s _ _
  · exact .ite (arrive_reacts s) (.refl _)
  · exact .refl _

theorem motionStart_reacts (motion : Motion) : Reacts s (s.motionStart motion) := by
  unfold State.motionStart
  have h := (((withDescent_reacts s (s.descent.begin motion s.curtain.cause s.nodeTime)).trans
    (settleMismatch_reacts _)).trans (Reacts.foldl takeNotice_reacts s.descent.clearings _)).trans (command_reacts _)
  exact (h.trans (withDescent_reacts _ _)).trans (.foldl takeNotice_reacts _ _)

theorem enterMotion_reacts (state : CurtainState) (motion : Motion) (detail : CurtainDetail) :
    Reacts s (s.enterMotion state motion detail) :=
  (enterState_reacts s state detail).trans (motionStart_reacts _ motion)

theorem fall_reacts (cause : DescentCause) : Reacts s (s.fall cause) :=
  .ite ((motionEnd_reacts s _).trans ((withCurtain_reacts _ _).trans (enterMotion_reacts _ _ _ _))) (.refl _)

theorem testTriggers_reacts : Reacts s s.testTriggers := by
  unfold State.testTriggers
  split
  · exact fall_reacts _ _
  · exact .refl _

theorem goTo_reacts (state : CurtainState) (detail : CurtainDetail) : Reacts s (s.goTo state detail) :=
  (enterState_reacts s _ _).trans (testTriggers_reacts _)

theorem startMotion_reacts (state : CurtainState) (motion : Motion) : Reacts s (s.startMotion state motion) :=
  (enterMotion_reacts s _ _ _).trans (testTriggers_reacts _)

theorem carryOut_reacts (source : Nat) (kind : DemandKind) (epoch : Byte) : Reacts s (s.carryOut source kind epoch) := by
  unfold State.carryOut
  split
  · exact log_reacts _ _
  · exact log_reacts _ _
  · exact goTo_reacts _ _ _
  · exact startMotion_reacts _ _ _
  · exact startMotion_reacts _ _ _
  · exact (motionEnd_reacts _ _).trans (goTo_reacts _ _ _)
  · exact fall_reacts _ _

theorem offerDemand_reacts (source : Nat) (kind : DemandKind) (epoch : Byte) :
    Reacts s (s.offerDemand source kind epoch) := by
  have h : Reacts s (s.setSeenDemand source (some epoch)) := withCurtain_reacts s _
  unfold State.offerDemand
  exact .ite (.refl _) (.ite
    ((h.trans (carryOut_reacts _ _ _ _)).trans ((withCurtain_reacts _ _).trans (markIf_reacts _ _)))
    (h.trans (log_reacts _ _)))

theorem curtainAccept_reacts (station : Nat) (resync : Bool) : Reacts s (s.curtainAccept station resync) := by
  unfold State.curtainAccept
  split
  · split
    · exact withCurtain_reacts _ _
    · split
      · exact offerDemand_reacts _ _ _ _
      · exact .refl _
    · exact .refl _
  · exact .refl _

theorem curtainJoined_reacts : Reacts s s.curtainJoined := .ite (raiseFault_reacts s rfl _) (.refl _)

/-! ### The Detection Unit -/

theorem withZone_reacts (r : ZoneRecord) : Reacts s (s.withZone r) := withDetection_reacts s _

theorem evalZone_reacts (z : Nat) : Reacts s (s.evalZone z) := by
  unfold State.evalZone
  split
  · exact .refl _
  · exact .ite (withZone_reacts s _)
      (((withZone_reacts s _).trans (logIf_reacts _ _ _)).trans (setFault_reacts _ rfl _ _))

theorem detectionJoined_reacts : Reacts s s.detectionJoined :=
  (withDetection_reacts s _).trans (.foldl evalZone_reacts _ _)

theorem recomputeDisabledZone_reacts (z : Nat) : Reacts s (s.recomputeDisabledZone z) := by
  unfold State.recomputeDisabledZone
  split
  · exact .refl _
  · exact .ite (.refl _) (.ite (((withZone_reacts s _).trans (log_reacts _ _)).trans (evalZone_reacts _ _))
      ((((withZone_reacts s _).trans (withDetection_reacts _ _)).trans (clearFault_reacts _ rfl)).trans
        (log_reacts _ _)))

theorem recomputeDisabled_reacts : Reacts s s.recomputeDisabled := .foldl recomputeDisabledZone_reacts _ s

theorem recomputeWindowZone_reacts (z : Nat) : Reacts s (s.recomputeWindowZone z) := by
  unfold State.recomputeWindowZone
  split
  · exact .refl _
  · exact .ite (.refl _) ((withZone_reacts s _).trans (evalZone_reacts _ _))

theorem recomputeWindows_reacts : Reacts s s.recomputeWindows := .foldl recomputeWindowZone_reacts _ s

theorem detectionStage_reacts (old new : Stage) : Reacts s (s.detectionStage old new) :=
  Reacts.trans (t := if old = .quiet ∧ new ≠ .quiet then s.windowsLeaveQuiet else s)
    (.ite ((withDetection_reacts s _).trans (markIf_reacts _ _)) (.refl _)) (recomputeWindows_reacts _)

theorem countDownWindows_reacts : Reacts s s.countDownWindows :=
  (((withDetection_reacts s _).trans (withDetection_reacts _ _)).trans (markIf_reacts _ _)).trans
    (recomputeWindows_reacts _)

theorem releaseZone_reacts (z : Nat) : Reacts s (s.releaseZone z) := by
  unfold State.releaseZone
  split
  · exact .refl _
  · exact .ite (.refl _) (((withZone_reacts s _).trans (logIf_reacts _ _ _)).trans (evalZone_reacts _ _))

/-! ### The Light Mixer -/

theorem recomputeTargets_reacts (fade : Nat → Nat) : Reacts s (s.recomputeTargets fade) :=
  .ite (.refl _) (withLights_reacts s _)

theorem lightsPhase_reacts : Reacts s s.lightsPhase := recomputeTargets_reacts s _

theorem lightsStage_reacts (old new : Stage) : Reacts s (s.lightsStage old new) :=
  .ite (withLights_reacts s _) (recomputeTargets_reacts s _)

theorem lightsAccept_reacts (station : Nat) : Reacts s (s.lightsAccept station) :=
  .ite ((withLights_reacts s _).trans (recomputeTargets_reacts _ _)) (.refl _)

/-! ### The Alarm Stage Unit -/

theorem rebuildMerged_reacts : Reacts s s.rebuildMerged := setAlarm_reacts s rfl id

theorem zoneUp_reacts (z : Nat) : Reacts s (s.zoneUp z) := (setAlarm_reacts s rfl id).trans (log_reacts _ _)

theorem takeSnapshot_reacts (cause : StageCause) : Reacts s (s.takeSnapshot cause) := by
  unfold State.takeSnapshot
  split
  · exact log_reacts _ _
  · exact (setAlarm_reacts s rfl id).trans (log_reacts _ _)

theorem enterEvacuate_reacts (cause : StageCause) : Reacts s (s.enterEvacuate cause) :=
  (((setAlarm_reacts s rfl fun _ => rfl).trans (log_reacts _ _)).trans (mark_reacts _)).trans (takeSnapshot_reacts _ _)

theorem enterEvacuate_stage (cause : StageCause) : (s.enterEvacuate cause).alarm.stage = .evacuate :=
  (takeSnapshot_reacts _ cause).evacuate rfl

/-- The entry to a stage below EVACUATE, from one that is below it. -/
theorem enterBelow_reacts (h : s.alarm.stage ≠ .evacuate) {f : Alarm → Alarm}
    (hg : (f s.alarm).generation = s.alarm.generation) (e : LogEvent) : Reacts s (((s.setAlarm f).log e).mark) :=
  ((setAlarm_reacts s hg fun he => absurd he h).trans (log_reacts _ _)).trans (mark_reacts _)

theorem enterInvestigate_reacts (h : s.alarm.stage ≠ .evacuate) : Reacts s s.enterInvestigate := enterBelow_reacts s h rfl _

theorem enterAlert_reacts (h : s.alarm.stage ≠ .evacuate) : Reacts s s.enterAlert := enterBelow_reacts s h rfl _

theorem evalStage_reacts : Reacts s s.evalStage := by
  unfold State.evalStage
  split
  · exact .refl _
  · exact enterEvacuate_reacts s _
  · next hq _ =>
    have h : s.alarm.stage ≠ .evacuate := by rw [hq]; decide
    exact .ite (.ite (enterInvestigate_reacts s h) (enterAlert_reacts s h)) (.refl _)
  · next ha _ => exact .ite (enterInvestigate_reacts s (by rw [ha]; decide)) (.refl _)
  · exact .refl _

theorem setSilenced_reacts (silenced : Bool) : Reacts s (s.setSilenced silenced) :=
  .ite (.refl _) (((setAlarm_reacts s rfl id).trans (log_reacts _ _)).trans (mark_reacts _))

theorem evaluateBy_reacts {stage : State → State} (h : ∀ t, Reacts t (stage t)) : Reacts s (s.evaluateBy stage) :=
  (((rebuildMerged_reacts s).trans (.foldl zoneUp_reacts _ _)).trans (h _)).trans (setSilenced_reacts _ _)

theorem mergedNotice_reacts (before : Alarm) : Reacts s (s.mergedNotice before) := .ite (.refl _) (testTriggers_reacts s)

theorem stageNotice_reacts (old new : Stage) : Reacts s (s.stageNotice old new) :=
  (((detectionStage_reacts s old new).trans (lightsStage_reacts _ _ _)).trans (callsStage_reacts _ _ _)).trans
    (testTriggers_reacts _)

theorem silenceNotice_reacts (before : Alarm) : Reacts s (s.silenceNotice before) := .ite (.refl _) (callsSilence_reacts s)

theorem handNotices_reacts (before : Alarm) : Reacts s (s.handNotices before) :=
  have h := mergedNotice_reacts s before
  Reacts.trans (.ite h (h.trans (stageNotice_reacts _ _ _))) (silenceNotice_reacts _ _)

theorem reevaluate_reacts : Reacts s s.reevaluate := (evaluateBy_reacts s evalStage_reacts).trans (handNotices_reacts _ _)

theorem reactUpTo_reacts (n : Nat) : Reacts s (reactUpTo n s) := by
  induction n generalizing s with
  | zero => exact .refl _
  | succ n ih =>
    unfold reactUpTo
    split
    · exact .refl _
    · exact (((withZone_reacts s _).trans (mark_reacts _)).trans (reevaluate_reacts _)).trans (ih _)

theorem react_reacts : Reacts s s.react := reactUpTo_reacts s 256

theorem review_reacts : Reacts s s.review := (reevaluate_reacts s).trans (react_reacts _)

theorem stepEight_reacts (adopts : Bool) : Reacts s (s.stepEight adopts) := .ite (.refl _) (evalStage_reacts s)

theorem adoptEvacuate_reacts (adopts : Bool) : Reacts s (s.adoptEvacuate adopts) :=
  .ite (enterEvacuate_reacts s _) (.refl _)

/-- R90: the source's EVACUATE is the stage, entered here or there already. -/
theorem adoptEvacuate_stage : (s.adoptEvacuate true).alarm.stage = .evacuate := by
  by_cases h : s.alarm.stage = .evacuate
  · simp [State.adoptEvacuate, h]
  · simpa [State.adoptEvacuate, h] using enterEvacuate_stage s _

/-! ### The taking of a generation (R82) -/

/-- R82, steps 1 to 8, with the adoption of R90. -/
def State.inGeneration (s : State) (g : Byte) (way : GenerationWay) (adopts : Bool) : State :=
  (((s.beginGeneration g way).releaseLatches.handAll).evaluateBy (State.stepEight adopts)).adoptEvacuate adopts

/-- The notices of R82, from the alarm as it was before. -/
def State.generationNotices (s : State) (before : Alarm) : State :=
  (((s.mergedNotice before).stageNotice before.stage s.alarm.stage).silenceNotice before).react

theorem takeGeneration_eq (g : Byte) (way : GenerationWay) (adopts : Bool) :
    s.takeGeneration g way adopts = (s.inGeneration g way adopts).generationNotices s.alarm := by
  unfold State.takeGeneration State.inGeneration State.generationNotices
  rfl

theorem generationNotices_reacts (before : Alarm) : Reacts s (s.generationNotices before) :=
  (((mergedNotice_reacts s _).trans (stageNotice_reacts _ _ _)).trans (silenceNotice_reacts _ _)).trans (react_reacts _)

/-- The own zones are released, handed and evaluated once under the new generation. -/
theorem inGeneration_reacts (g : Byte) (way : GenerationWay) (adopts : Bool) :
    Reacts (s.beginGeneration g way) (s.inGeneration g way adopts) :=
  ((Reacts.trans (.foldl releaseZone_reacts _ _) ((withDetection_reacts _ _).trans (markIf_reacts _ _))).trans
    (evaluateBy_reacts _ fun t => stepEight_reacts t adopts)).trans (adoptEvacuate_reacts _ adopts)

theorem beginGeneration_generation (g : Byte) (way : GenerationWay) :
    (s.beginGeneration g way).alarm.generation = g := rfl

theorem beginGeneration_stands (g : Byte) (way : GenerationWay) {key : FaultKey} (hk : key.ofReaders = false) :
    (s.beginGeneration g way).stands key = s.stands key := (setSilenced_reacts s false).stands key hk

theorem takeGeneration_generation (g : Byte) (way : GenerationWay) (adopts : Bool) :
    (s.takeGeneration g way adopts).alarm.generation = g := by
  rw [takeGeneration_eq, (generationNotices_reacts _ _).generation, (inGeneration_reacts s g way adopts).generation,
    beginGeneration_generation]

theorem takeGeneration_evacuate (g : Byte) (way : GenerationWay) :
    (s.takeGeneration g way true).alarm.stage = .evacuate := by
  rw [takeGeneration_eq]
  exact (generationNotices_reacts _ _).evacuate (adoptEvacuate_stage _)

theorem takeGeneration_stands (g : Byte) (way : GenerationWay) (adopts : Bool) {key : FaultKey}
    (hk : key.ofReaders = false) : (s.takeGeneration g way adopts).stands key = s.stands key := by
  rw [takeGeneration_eq, (generationNotices_reacts _ _).stands key hk, (inGeneration_reacts s g way adopts).stands key hk,
    beginGeneration_stands s g way hk]

/-! ### The readers of a view and of an acceptance -/

theorem takeView_reacts (view : PhaseSection) (restart : Bool) : Reacts s (s.takeView view restart) :=
  have h := (withPhase_reacts s (s.phase.take view restart)).trans
    (markIf_reacts _ (s.phase.section != (s.phase.take view restart).section))
  .ite (h.trans (((review_reacts _).trans (lightsPhase_reacts _)).trans (callsPhase_reacts _ _)))
    (.ite (h.trans (lightsPhase_reacts _)) h)

theorem phaseAccept_reacts (station : Nat) : Reacts s (s.phaseAccept station) := by
  unfold State.phaseAccept
  split
  · exact .ite (takeView_reacts s _ _) (.refl _)
  · exact .refl _

theorem detectionPeer_reacts (station : Nat) : Reacts s (s.detectionPeer station) :=
  ((((withDetection_reacts s _).trans (recomputeWindows_reacts _)).trans (react_reacts _)).trans
    (recomputeDisabled_reacts _)).trans (react_reacts _)

end

end Sys2Proof.Machine
end

section
/-!
PHASE REQUESTS (R4 to R8). How SET PHASE, HOLD ON and HOLD OFF are judged, and what an accepted one makes of the view.
-/
namespace Sys2Proof.Machine

/-! ### The answer of a request that is served (R171, R172) -/

theorem servesRequests_of_attends {s : State} (h : s.attends) : s.servesRequests = true := by
  unfold State.servesRequests
  rcases h.2 with e | e <;> rw [e]

theorem concluded_of_running {s : State} (h : s.power.running = true) : s.concluded = s.settle := by
  simp [State.concluded, h]

/-- A request that its owner judges without touching the power is answered from the state that the owner leaves. -/
theorem answers_of_owner {c : Instr} {s : State} (owner : State → State × Answer) (hs : s.attends)
    (hexec : exec c s = operatorRequest s owner) (hidle : idleLine c = none) (hpower : (owner s).1.power = s.power) :
    answers c s (owner s).1 (owner s).2 := by
  have hrunning : ((owner s).1.judged (.request (owner s).2) none).power.running = true := by
    change (owner s).1.power.running = true
    rw [hpower]
    exact hs.1
  rw [answers, completes_iff s hidle, hexec, operatorRequest, if_pos (servesRequests_of_attends hs),
    concluded_of_running hrunning]

theorem answers_setPhase {s : State} (hs : s.attends) (target : Option Phase) (minutes : Byte) {t : State}
    {answer : Answer} (h : requestPhase s target minutes.toNat = (t, answer)) :
    answers (.setPhase target minutes) s t answer := by
  have hpower := (requestPhase_move s target minutes.toNat).power (by decide)
  have hanswers := answers_of_owner (c := .setPhase target minutes) (requestPhase · target minutes.toNat) hs rfl rfl hpower
  simpa only [h] using hanswers

/-- HOLD ON or HOLD OFF, as the hold asked for. -/
theorem answers_hold {s : State} (hs : s.attends) (hold : Bool) {t : State} {answer : Answer}
    (h : requestHold s hold = (t, answer)) : answers (if hold then .holdOn else .holdOff) s t answer := by
  have hpower := (requestHold_move s hold).power (by decide)
  have hanswers : answers (if hold then .holdOn else .holdOff) s (requestHold s hold).1 (requestHold s hold).2 := by
    cases hold
    · exact answers_of_owner (c := .holdOff) (requestHold · false) hs rfl rfl hpower
    · exact answers_of_owner (c := .holdOn) (requestHold · true) hs rfl rfl hpower
  simpa only [h] using hanswers

/-! ### The table of R4 -/

/-- The moves of R4, as a list. -/
abbrev phaseMoves : List (Phase × Phase) :=
  [(.closed, .houseOpen), (.houseOpen, .performance), (.houseOpen, .closed), (.performance, .interval),
    (.performance, .houseClearing), (.interval, .performance), (.interval, .houseClearing), (.houseClearing, .closed)]

theorem allowedMove_iff (held target : Phase) : allowedMove held target = true ↔ (held, target) ∈ phaseMoves := by
  cases held <;> cases target <;> decide

/-! ### SET PHASE, test by test (R4, R5) -/

section
variable {s : State} {target : Phase} {minutes : Nat}

theorem requestPhase_noAuthority (h : s.roles.desk = false ∨ s.authorities.phase = false) (move : Option Phase) :
    requestPhase s move minutes = (s, { code := .noAuthority }) := by
  have hno : (s.roles.desk && s.authorities.phase) = false := by
    rcases h with h | h <;> simp [h]
  simp [requestPhase, hno]

variable (hdesk : s.roles.desk = true) (hphase : s.authorities.phase = true)
include hdesk hphase

theorem requestPhase_badRequest : requestPhase s none minutes = (s, { code := .badRequest }) := by
  simp [requestPhase, hdesk, hphase]

theorem requestPhase_joining (hjoining : s.station.joining = true) :
    requestPhase s (some target) minutes = (s, { code := .refusedState .joining }) := by
  simp [requestPhase, hdesk, hphase, hjoining]

variable (hjoined : s.station.joining = false)
include hjoined

theorem requestPhase_badTransition (hmove : (s.phase.phase, target) ∉ phaseMoves) :
    requestPhase s (some target) minutes = (s, { code := .badTransition }) := by
  have hnot : allowedMove s.phase.phase target = false :=
    Bool.eq_false_iff.mpr fun h => hmove ((allowedMove_iff _ _).mp h)
  simp [requestPhase, hdesk, hphase, hjoined, hnot]

theorem requestPhase_opening {reason : Reason} (hclosed : s.phase.phase = .closed)
    (hcheck : s.openingCheck = some reason) :
    requestPhase s (some .houseOpen) minutes = (s, { code := .refusedState reason }) := by
  simp [requestPhase, hdesk, hphase, hjoined, hclosed, allowedMove, hcheck]

theorem requestPhase_accepted (hmove : (s.phase.phase, target) ∈ phaseMoves)
    (hcheck : target = .houseOpen → s.openingCheck = none) :
    requestPhase s (some target) minutes = s.acceptPhase target minutes := by
  have hallowed : allowedMove s.phase.phase target = true := (allowedMove_iff _ _).mpr hmove
  have hnone : (if target = .houseOpen then s.openingCheck else none) = none := by
    split
    · exact hcheck ‹_›
    · rfl
  simp [requestPhase, hdesk, hphase, hjoined, hallowed, hnone]

end

/-! ### The opening of the house (R5) -/

section
variable {s : State}

/-- The curtain stations that R5 counts. -/
def State.openingCount (s : State) : Nat := s.roles.curtain.toNat + s.openingPeers.length

theorem curtainCheck_none_counted (h : s.openingCount = 0) : s.curtainCheck = some .noCurtain := by
  obtain ⟨hown, hpeers⟩ : s.roles.curtain = false ∧ s.openingPeers = [] := by
    simpa [State.openingCount] using h
  simp [State.curtainCheck, hown, hpeers]

theorem curtainCheck_conflict (h : 2 ≤ s.openingCount) : s.curtainCheck = some .conflict := by
  unfold State.openingCount at h
  unfold State.curtainCheck
  split
  · next hown hpeers => simp [hown, hpeers] at h
  · next hown hpeers => simp [hown, hpeers] at h
  · next hown hpeers => simp [hown, hpeers] at h
  · rfl

/-- The one curtain station that is counted is the own or a peer's, and its proof is judged. -/
theorem curtainCheck_one (h : s.openingCount = 1) :
    s.roles.curtain = true ∧ s.openingPeers = [] ∧ s.curtainCheck = (if s.proven then none else some .unproven) ∨
      ∃ r, s.roles.curtain = false ∧ s.openingPeers = [r] ∧
        s.curtainCheck = if r.proven then none else some .unproven := by
  unfold State.openingCount at h
  cases hown : s.roles.curtain with
  | true =>
    have hpeers : s.openingPeers = [] := by simpa [hown] using h
    exact .inl ⟨rfl, hpeers, by simp [State.curtainCheck, hown, hpeers]⟩
  | false =>
    obtain ⟨r, hpeers⟩ : ∃ r, s.openingPeers = [r] := List.length_eq_one_iff.mp (by simpa [hown] using h)
    exact .inr ⟨r, rfl, hpeers, by simp [State.curtainCheck, hown, hpeers]⟩

theorem openingCheck_of_curtain {reason : Reason} (h : s.curtainCheck = some reason) : s.openingCheck = some reason := by
  simp [State.openingCheck, h]

theorem curtainCheck_unproven (h : s.openingCount = 1) (hown : s.roles.curtain = true → s.proven = false)
    (hpeers : ∀ r ∈ s.openingPeers, r.proven = false) : s.curtainCheck = some .unproven := by
  rcases curtainCheck_one h with ⟨hrole, -, hcheck⟩ | ⟨r, -, hone, hcheck⟩
  · simpa [hown hrole] using hcheck
  · simpa [hpeers r (by simp [hone])] using hcheck

theorem openingCheck_alarm (h : s.openingCount = 1) (hown : s.roles.curtain = true → s.proven = true)
    (hpeers : ∀ r ∈ s.openingPeers, r.proven = true) (hstage : s.alarm.stage ≠ .quiet) :
    s.openingCheck = some .alarm := by
  have hcurtain : s.curtainCheck = none := by
    rcases curtainCheck_one h with ⟨hrole, -, hcheck⟩ | ⟨r, -, hone, hcheck⟩
    · simpa [hown hrole] using hcheck
    · simpa [hpeers r (by simp [hone])] using hcheck
  simp [State.openingCheck, hcurtain, hstage]

end

/-- Settles O28: each clause is the test of R4 or R5 that fails first. -/
theorem refusedSetPhaseChangesNothing : Obligations.RefusedSetPhaseChangesNothing := by
  intro target minutes s hs
  refine ⟨fun h => answers_setPhase hs _ _ (requestPhase_noAuthority h target), fun hdesk hphase => ⟨?_, ?_, ?_, ?_⟩⟩
  · rintro rfl
    exact answers_setPhase hs _ _ (requestPhase_badRequest hdesk hphase)
  · intro htarget hjoining
    obtain ⟨move, rfl⟩ := Option.ne_none_iff_exists'.mp htarget
    exact answers_setPhase hs _ _ (requestPhase_joining hdesk hphase hjoining)
  · rintro move hjoined rfl hmove
    exact answers_setPhase hs _ _ (requestPhase_badTransition hdesk hphase hjoined hmove)
  · rintro hjoined hclosed rfl
    have hrefused {reason : Reason} (h : s.openingCheck = some reason) :
        answers (.setPhase (some .houseOpen) minutes) s s { code := .refusedState reason } :=
      answers_setPhase hs _ _ (requestPhase_opening hdesk hphase hjoined hclosed h)
    exact ⟨fun h => hrefused (openingCheck_of_curtain (curtainCheck_none_counted h)),
      fun h => hrefused (openingCheck_of_curtain (curtainCheck_conflict h)),
      fun h hown hpeers => hrefused (openingCheck_of_curtain (curtainCheck_unproven h hown hpeers)),
      fun h hown hpeers hstage => hrefused (openingCheck_alarm h hown hpeers hstage)⟩

/-! ### An accepted SET PHASE (R6, R7) -/

/-- The interval length of R6 by its bounds. -/
theorem clampMinutes_eq (m : Nat) : clampMinutes m = if m < 5 then 5 else if 40 < m then 40 else m := by
  unfold clampMinutes
  split
  · omega
  · split <;> omega

/-- A view that changes the phase runs its INTERVAL in full. -/
theorem take_newView (s : State) (target : Phase) (minutes : Nat) (h : target = .interval → s.phase.phase ≠ .interval) :
    s.phase.take (s.newView target minutes) false =
      { phase := target, hold := false, epoch := s.phase.epoch + 1, origin := s.own
        minutes := if target = .interval then clampMinutes minutes else s.phase.minutes
        remaining := if target = .interval then clampMinutes minutes * 60 else 0 } := by
  by_cases hi : target = .interval
  · simp [PhaseView.take, normalView, State.newView, remainingAfter, hi, h hi]
  · simp [PhaseView.take, normalView, State.newView, remainingAfter, hi]

/-- No move of R4 stays in INTERVAL. -/
theorem ne_interval_of_move {held target : Phase} (h : (held, target) ∈ phaseMoves) (ht : target = .interval) :
    held ≠ .interval := by
  rintro rfl
  subst ht
  exact absurd h (by decide)

/-- Settles O27: an allowed move that passes the opening checks takes the view of R7. -/
theorem acceptedSetPhaseTakesTheNewView : Obligations.AcceptedSetPhaseTakesTheNewView := by
  intro target minutes s hs hjoined hdesk hphase hmove hcheck
  have hmoved : Move phaseParts s (s.takeView (s.newView target minutes.toNat) false) := takeView_move s _ _
  dsimp only
  rw [← clampMinutes_eq]
  refine ⟨s.takeView (s.newView target minutes.toNat) false,
    answers_setPhase hs _ _ (requestPhase_accepted hdesk hphase hjoined hmove hcheck), ?_,
    hmoved.pending (by decide), hmoved.power (by decide), hmoved.station (by decide), hmoved.clock (by decide),
    hmoved.lines (by decide), hmoved.peers (by decide), (takeView_reacts s _ _).generation⟩
  rw [takeView_phase, take_newView _ _ _ (ne_interval_of_move hmove)]

/-! ### HOLD ON and HOLD OFF (R8) -/

section
variable {s : State} {hold : Bool}

theorem requestHold_noAuthority (h : s.roles.desk = false ∨ s.authorities.phase = false) :
    requestHold s hold = (s, { code := .noAuthority }) := by
  have hno : (s.roles.desk && s.authorities.phase) = false := by
    rcases h with h | h <;> simp [h]
  simp [requestHold, hno]

variable (hdesk : s.roles.desk = true) (hphase : s.authorities.phase = true)
include hdesk hphase

theorem requestHold_joining (hjoining : s.station.joining = true) :
    requestHold s hold = (s, { code := .refusedState .joining }) := by
  simp [requestHold, hdesk, hphase, hjoining]

variable (hjoined : s.station.joining = false)
include hjoined

theorem requestHold_notInShow (hshow : s.phase.phase.holdAllowed = false) :
    requestHold s hold = (s, { code := .refusedState .notInShow }) := by
  simp [requestHold, hdesk, hphase, hjoined, hshow]

theorem requestHold_accepted (hshow : s.phase.phase.holdAllowed = true) :
    requestHold s hold =
      (s.takeView { phase := s.phase.phase, hold := hold, epoch := s.phase.epoch + 1, origin := s.own,
                    minutes := s.phase.minutes } false, { code := .accepted }) := by
  simp [requestHold, hdesk, hphase, hjoined, hshow]

end

theorem holdAllowed_iff (p : Phase) : p.holdAllowed = true ↔ p = .performance ∨ p = .interval := by
  cases p <;> decide

theorem not_holdAllowed {p : Phase} (h : p ≠ .performance) (h' : p ≠ .interval) : p.holdAllowed = false :=
  Bool.eq_false_iff.mpr fun e => ((holdAllowed_iff p).mp e).elim h h'

/-- The held view with another hold, the next epoch and the own origin. -/
def State.heldView (s : State) (hold : Bool) : PhaseView :=
  { s.phase with
    hold := hold, epoch := s.phase.epoch + 1, origin := s.own
    remaining := if s.phase.phase = .interval then s.phase.remaining else 0 }

/-- The next epoch differs from the one held, so the change is always marked. -/
theorem heldView_section_ne (s : State) (hold : Bool) : (s.phase.section != (s.heldView hold).section) = true := by
  simp [PhaseView.section, State.heldView]

/-- R8: a hold taken in the show hands a notice where it changes, and marks in any case. -/
theorem takeView_hold (s : State) (hold : Bool) (hshow : s.phase.phase.holdAllowed = true) :
    s.takeView { phase := s.phase.phase, hold := hold, epoch := s.phase.epoch + 1, origin := s.own,
                 minutes := s.phase.minutes } false =
      if s.phase.hold = hold then (s.withPhase (s.heldView hold)).mark
      else (s.withPhase (s.heldView hold)).mark.lightsPhase := by
  have htake : s.phase.take ⟨s.phase.phase, hold, s.phase.epoch + 1, s.own, s.phase.minutes⟩ false =
      s.heldView hold := by
    have hremaining : remainingAfter s.phase ⟨s.phase.phase, hold, s.phase.epoch + 1, s.own, s.phase.minutes⟩ false =
        if s.phase.phase = .interval then s.phase.remaining else 0 := by
      by_cases hi : s.phase.phase = .interval <;> simp [remainingAfter, hi]
    simp only [PhaseView.take, normalView, hshow, Bool.and_true, hremaining, State.heldView]
  have hphase : (s.heldView hold).phase = s.phase.phase := rfl
  have hhold : (s.heldView hold).hold = hold := rfl
  simp only [State.takeView, htake, heldView_section_ne, State.markIf, if_true, hphase, hhold, ne_eq, not_true_eq_false,
    if_false, eq_comm (a := hold), ite_not]

/-- Settles O29: the three tests of R8 in order, and the view of an accepted request. -/
theorem holdRequestsAreJudgedInOrder : Obligations.HoldRequestsAreJudgedInOrder := by
  intro hold s hs
  refine ⟨fun h => answers_hold hs _ (requestHold_noAuthority h), fun hdesk hphase => ⟨?_, fun hjoined => ⟨?_, ?_⟩⟩⟩
  · exact fun hjoining => answers_hold hs _ (requestHold_joining hdesk hphase hjoining)
  · exact fun h h' => answers_hold hs _ (requestHold_notInShow hdesk hphase hjoined (not_holdAllowed h h'))
  · intro h
    have hshow : s.phase.phase.holdAllowed = true := (holdAllowed_iff _).mpr h
    have haccepted := answers_hold hs hold (requestHold_accepted hdesk hphase hjoined hshow)
    rw [takeView_hold s hold hshow] at haccepted
    exact haccepted

end Sys2Proof.Machine
end

section
/-!
NODE TIME (R12, R13, R41, R184). One increment: the clock and the station, the interval timer with its marks, and the
gap scores of the peer records.
-/
namespace Sys2Proof.Machine

/-! ### The clock and node time -/

theorem advanceTo_clock (s : State) (t : Nat) : (s.advanceTo t).clock = { s.clock with now := max s.clock.now t } := by
  unfold State.advanceTo
  split
  · next h => simp [max_eq_right h.le]
  · next h => simp [max_eq_left (not_lt.mp h)]

/-- Below its greatest value node time advances by 1 and draws no free value. -/
theorem advanceNodeTime_eq {s : State} (h : s.station.nodeTime < 4294967295) :
    s.advanceNodeTime = s.withStation { s.station with nodeTime := s.station.nodeTime + 1 } :=
  if_pos h

theorem second_eq {s : State} (h : s.station.nodeTime < 4294967295) :
    s.second = ((s.advanceTo (s.clock.secondAt + 1000)).withClock
      { (s.advanceTo (s.clock.secondAt + 1000)).clock with secondAt := s.clock.secondAt + 1000 }).withStation
        { s.station with nodeTime := s.station.nodeTime + 1 } := by
  have hstation : (s.advanceTo (s.clock.secondAt + 1000)).station = s.station :=
    (advanceTo_move s (ps := [.clock, .lines]) (by decide) (by decide) _).station (by decide)
  rw [State.second, advanceNodeTime_eq (by simpa [hstation] using h)]
  simp [hstation]

theorem increment_station {s : State} (h : s.station.nodeTime < 4294967295) :
    s.increment.station = { s.station with nodeTime := s.station.nodeTime + 1 } := by
  rw [State.increment, (blocksCount_move _ _).station (by decide), second_eq h]
  rfl

theorem increment_clock {s : State} (h : s.station.nodeTime < 4294967295) :
    s.increment.clock = { s.clock with
      now := max s.clock.now (s.clock.secondAt + 1000), secondAt := s.clock.secondAt + 1000 } := by
  rw [State.increment, (blocksCount_move _ _).clock (by decide), second_eq h]
  simp [advanceTo_clock]

theorem increment_draws {s : State} (h : s.station.nodeTime < 4294967295) : s.increment.draws = s.draws := by
  rw [State.increment, (blocksCount_move _ _).draws (by decide), second_eq h]
  exact (advanceTo_move s (ps := [.clock, .lines]) (by decide) (by decide) _).draws (by decide)

theorem increment_generation (s : State) : s.increment.alarm.generation = s.alarm.generation := by
  have hreview (t : State) : Reacts t t.realarmReached := .ite (review_reacts t) (.refl t)
  have hcount (t : State) : Reacts t t.countDownWindows.react := (countDownWindows_reacts t).trans (react_reacts _)
  rw [State.increment, State.blocksCount, (hreview _).generation, (leak_move _).alarm (by decide), (hcount _).generation,
    (intervalSecond_move _).alarm (by decide), (proofAges_move (ps := []) _ _).alarm (by decide),
    (second_move s).alarm (by decide)]

theorem completes_increment {s : State} (h : s.power.running = true) : completes .nodeTimeIncrement s s.increment := by
  rw [completes_iff s rfl]
  exact if_pos h

/-! ### The gap scores (R41) -/

/-- A record whose gap score has leaked by 1; a score of 0 stays. -/
def PeerRecord.leaked (r : PeerRecord) : PeerRecord := { r with gapScore := r.gapScore - 1 }

theorem map_replace_absent {l : List PeerRecord} {r : PeerRecord} (h : ∀ x ∈ l, x.station ≠ r.station) :
    l.map (fun x => if x.station = r.station then r else x) = l :=
  (List.map_congr_left fun x hx => if_neg (h x hx)).trans (List.map_id' l)

/-- The record of a station that stands once in the table is replaced in its place. -/
theorem map_replace_of_nodup {pre post : List PeerRecord} {r r' : PeerRecord} (hr : r'.station = r.station)
    (h : ((pre ++ r :: post).map (·.station)).Nodup) :
    (pre ++ r :: post).map (fun x => if x.station = r'.station then r' else x) = pre ++ r' :: post := by
  have hpre : ∀ x ∈ pre, x.station ≠ r.station := by
    intro x hx e
    rw [List.map_append, List.nodup_append] at h
    exact h.2.2 _ (List.mem_map_of_mem hx) _ (by simp) e
  have hpost : ∀ x ∈ post, x.station ≠ r.station := by
    intro x hx e
    rw [List.map_append, List.nodup_append, List.map_cons, List.nodup_cons] at h
    exact h.2.1.1 (e ▸ List.mem_map_of_mem hx)
  rw [List.map_append, List.map_cons, map_replace_absent (hr ▸ hpre), map_replace_absent (hr ▸ hpost), if_pos hr.symm]

theorem leakRecord_peers {s : State} {pre post : List PeerRecord} {r : PeerRecord}
    (hs : s.peers.records = pre ++ r :: post) (h : s.peers.oneEach) :
    (s.leakRecord r).peers = { s.peers with records := pre ++ r.leaked :: post } := by
  unfold PeerTable.oneEach at h
  rw [hs] at h
  unfold State.leakRecord
  split
  · have hrecords := map_replace_of_nodup (r := r) (r' := r.leaked) rfl h
    rw [(judgeDegraded_move _ (ps := []) _ _).peers (by decide), ← hrecords, ← hs]
    rfl
  · next hscore =>
    have hr : r.leaked = r := by
      have h0 : r.gapScore - 1 = r.gapScore := by omega
      rw [PeerRecord.leaked, h0]
    rw [hr, ← hs]

theorem leakFold_peers (post : List PeerRecord) (s : State) (pre : List PeerRecord)
    (hs : s.peers.records = pre ++ post) (h : s.peers.oneEach) :
    (post.foldl State.leakRecord s).peers = { s.peers with records := pre ++ post.map PeerRecord.leaked } := by
  induction post generalizing s pre with
  | nil => simp [← hs]
  | cons r post ih =>
    have hone := leakRecord_peers hs h
    have hnext : (s.leakRecord r).peers.oneEach := by
      unfold PeerTable.oneEach at h ⊢
      rw [hs] at h
      rw [hone]
      simpa [PeerRecord.leaked] using h
    rw [List.foldl_cons, ih (s.leakRecord r) (pre ++ [r.leaked]) (by simp [hone]) hnext, hone]
    simp

theorem leak_peers {s : State} (h : s.peers.oneEach) :
    s.leak.peers = { s.peers with records := s.peers.records.map fun r =>
      { r with gapScore := if s.station.nodeTime % 10 = 0 then r.gapScore - 1 else r.gapScore } } := by
  unfold State.leak State.nodeTime
  by_cases hten : s.station.nodeTime % 10 = 0
  · simp only [hten, if_true]
    exact leakFold_peers s.peers.records s [] rfl h
  · simp [hten]

theorem increment_peers {s : State} (h : s.station.nodeTime < 4294967295) (hone : s.peers.oneEach) :
    s.increment.peers = { s.peers with records := s.peers.records.map fun r =>
      { r with gapScore := if (s.station.nodeTime + 1) % 10 = 0 then r.gapScore - 1 else r.gapScore } } := by
  have hbefore : Move phaseParts s.second
      ((s.second.proofAges s.proven).intervalSecond.countDownWindows).react :=
    (((proofAges_move _ _).trans ((intervalSecond_move _).mono (by decide))).trans
      ((countDownWindows_move _).mono (by decide))).trans ((react_move _).mono (by decide))
  have hpeers := (hbefore.peers (by decide)).trans ((second_move s).peers (by decide))
  have hstation := hbefore.station (by decide)
  rw [State.increment, State.blocksCount, (realarmReached_move _).peers (by decide), leak_peers (hpeers ▸ hone), hpeers,
    hstation, second_eq h]
  rfl

/-! ### The interval timer (R12) -/

theorem counted_eq (v : PhaseView) :
    v.counted = { v with remaining := if v.phase = .interval ∧ v.hold = false then v.remaining - 1 else v.remaining } := by
  have hruns : v.timerRuns = true ↔ (v.phase = .interval ∧ v.hold = false) ∧ 0 < v.remaining := by
    simp [PhaseView.timerRuns]
  unfold PhaseView.counted
  congr 1
  by_cases hr : 0 < v.remaining
  · simp only [hruns, hr, and_true]
  · simp [hruns, Nat.eq_zero_of_not_pos hr]

/-- Settles O26: what the clock, the station, the interval timer and the peer records are after an increment. -/
theorem nodeTimeAdvancesByOne : Obligations.NodeTimeAdvancesByOne := by
  intro s hrunning htime hone
  exact ⟨s.increment, completes_increment hrunning, increment_station htime, increment_draws htime,
    increment_clock htime, (increment_phase s).trans (counted_eq _), increment_peers htime hone,
    (increment_move s).pending (by decide), (increment_move s).power (by decide), increment_generation s⟩

/-! ### The marks (R13) -/

theorem timerRuns_of {v : PhaseView} {n : Nat} (hp : v.phase = .interval) (hh : v.hold = false)
    (hr : v.remaining = n + 1) : v.timerRuns = true := by
  simp [PhaseView.timerRuns, hp, hh, hr]

/-- A decrement passes the mark that it comes to, and no other. -/
theorem marksPassed_decrement (n : Nat) :
    marksPassed (n + 1) n = [IntervalMark.m300, .m180, .m60].filter fun m => markSeconds m = n := by
  refine List.filter_congr fun m _ => ?_
  rw [← Bool.decide_and, decide_eq_decide]
  omega

theorem intervalSecond_marks {s : State} (hp : s.phase.phase = .interval) (hh : s.phase.hold = false) :
    s.intervalSecond =
      ([IntervalMark.m300, .m180, .m60].filter fun m => markSeconds m + 1 = s.phase.remaining).foldl State.callsMark
        (s.withPhase { s.phase with remaining := s.phase.remaining - 1 }) := by
  cases hr : s.phase.remaining with
  | zero =>
    have hstop : s.phase.timerRuns = false := by simp [PhaseView.timerRuns, hr]
    have hsame : { s.phase with remaining := 0 - 1 } = s.phase := by rw [Nat.zero_sub, ← hr]
    rw [State.intervalSecond, hstop, hsame]
    simp [State.withPhase]
  | succ n =>
    simp [State.intervalSecond, timerRuns_of hp hh hr, State.countInterval, hr, marksPassed_decrement]

/-- The rows that name an event of the interval timer, with the remaining time at which each comes about. -/
abbrev intervalRows : List (Instr × Nat) :=
  [(.intervalTimerExpiry, 0), (.intervalMark .m300, 300), (.intervalMark .m180, 180), (.intervalMark .m60, 60)]

theorem exec_intervalRow {c : Instr} {left : Nat} (h : (c, left) ∈ intervalRows) (s : State) :
    idleLine c = none ∧ exec c s = whenDue s (s.phase.timerRuns && s.phase.remaining == left + 1) := by
  simp only [intervalRows, List.mem_cons, List.not_mem_nil, or_false, Prod.mk.injEq] at h
  rcases h with ⟨rfl, rfl⟩ | ⟨rfl, rfl⟩ | ⟨rfl, rfl⟩ | ⟨rfl, rfl⟩ <;> exact ⟨rfl, rfl⟩

theorem completes_whenDue {c : Instr} {s : State} {due : Bool} (hidle : idleLine c = none)
    (hexec : exec c s = whenDue s due) (hs : s.power.running = true) :
    completes c s (if due then s.increment else s) := by
  rw [completes_iff s hidle, hexec, whenDue, whenRunning, if_pos hs]

/-- Settles O30: a row is the increment that is due, and the increment hands the mark that its decrement comes to. -/
theorem intervalTimerCountsToItsMarks : Obligations.IntervalTimerCountsToItsMarks := by
  refine ⟨fun s c left hrunning htime hrow => ?_, fun s hp hh => ?_⟩
  · obtain ⟨hidle, hexec⟩ := exec_intervalRow hrow s
    have hcompletes := completes_whenDue hidle hexec hrunning
    refine ⟨fun hp hh hr => ⟨s.increment, ?_, completes_increment hrunning, ?_, increment_station htime⟩, fun hnot => ?_⟩
    · simpa [timerRuns_of hp hh hr, hr] using hcompletes
    · rw [increment_phase, counted_eq]
      simp [hp, hh, hr]
    · have hdue : (s.phase.timerRuns && s.phase.remaining == left + 1) = false := by
        rcases hnot with h | h | h <;> simp [PhaseView.timerRuns, h]
      simpa [hdue] using hcompletes
  · rw [intervalSecond_marks hp hh]
    by_cases h300 : s.phase.remaining = 301
    · simp [markSeconds, h300]
    by_cases h180 : s.phase.remaining = 181
    · simp [markSeconds, h180]
    by_cases h60 : s.phase.remaining = 61
    · simp [markSeconds, h60]
    simp [markSeconds, h300, h180, h60, Ne.symm h300, Ne.symm h180, Ne.symm h60]

end Sys2Proof.Machine
end

section
/-!
THE END OF JOINING (R49, R11, R90). The LIVE record of the lowest number gives its view and its generation; with none
LIVE the station keeps its own.
-/
namespace Sys2Proof.Machine

/-! ### The source (R49) -/

theorem joiningSource_none {s : State} (h : ∀ r ∈ s.peers.records, r.state ≠ .live) : s.joiningSource = none := by
  rw [State.joiningSource, List.find?_eq_none]
  simpa using h

/-- Records in ascending order of their numbers: the first LIVE one has the lowest number. -/
theorem find?_live_of_lowest {l : List PeerRecord} {r : PeerRecord} (hsorted : (l.map (·.station)).Pairwise (· < ·))
    (hr : r ∈ l) (hlive : r.state = .live) (hlow : ∀ x ∈ l, x.state = .live → r.station ≤ x.station) :
    (l.find? fun x => x.state == .live) = some r := by
  induction l with
  | nil => cases hr
  | cons x l ih =>
    rw [List.map_cons, List.pairwise_cons] at hsorted
    obtain ⟨hx, htail⟩ := hsorted
    rcases List.mem_cons.mp hr with rfl | hmem
    · simp [hlive]
    · have hlt : x.station < r.station := hx _ (List.mem_map_of_mem hmem)
      have hnot : x.state ≠ .live := fun e => absurd (hlow x (List.mem_cons_self ..) e) (not_le.mpr hlt)
      simp only [List.find?_cons, beq_eq_false_iff_ne.mpr hnot]
      exact ih htail hmem fun y hy => hlow y (List.mem_cons_of_mem _ hy)

theorem peersComplete_sorted {s : State} (h : s.peersComplete) :
    (s.peers.records.map (·.station)).Pairwise (· < ·) := by
  rw [h]
  exact (List.pairwise_lt_range' (s := 1) (n := 40)).filter _

theorem joiningSource_lowest {s : State} {r : PeerRecord} (h : s.peersComplete) (hr : r ∈ s.peers.records)
    (hlive : r.state = .live) (hlow : ∀ x ∈ s.peers.records, x.state = .live → r.station ≤ x.station) :
    s.joiningSource = some r :=
  find?_live_of_lowest (peersComplete_sorted h) hr hlive hlow

/-! ### The Phase Tracker (R11) -/

theorem phaseJoined_none (s : State) : s.phaseJoined none = s := rfl

/-- R11: an INTERVAL taken at the end of the joining period runs in full. -/
theorem phaseJoined_taken {s : State} {r : PeerRecord} {report : Report} (hlast : r.lastReport = some report)
    (hconf : s.configured = true) :
    (s.phaseJoined (some r)).phase =
      { phase := report.phase.phase, hold := report.phase.hold && report.phase.phase.holdAllowed
        epoch := report.phase.epoch, origin := report.phase.origin, minutes := report.phase.minutes
        remaining := if report.phase.phase = .interval then report.phase.minutes * 60 else 0 } := by
  have h : s.phaseJoined (some r) = s.takeView report.phase true := by simp [State.phaseJoined, hlast, hconf]
  rw [h, takeView_phase]
  simp [PhaseView.take, normalView, remainingAfter]

/-! ### The Alarm Stage Unit (R90) -/

section
variable (s : State)

theorem endJoiningReview_reacts (adopts : Bool) : Reacts s (s.endJoiningReview adopts) := by
  unfold State.endJoiningReview
  exact ((((withStation_reacts s _).trans (adoptEvacuate_reacts _ _)).trans
    (evaluateBy_reacts _ evalStage_reacts)).trans (handNotices_reacts _ _)).trans (react_reacts _)

theorem endJoiningReview_evacuate : (s.endJoiningReview true).alarm.stage = .evacuate := by
  unfold State.endJoiningReview
  exact (((evaluateBy_reacts _ evalStage_reacts).trans (handNotices_reacts _ _)).trans (react_reacts _)).evacuate
    (adoptEvacuate_stage _)

theorem endJoiningReview_station (adopts : Bool) :
    (s.endJoiningReview adopts).station = { s.station with joining := false } := by
  unfold State.endJoiningReview
  have h := ((((adoptEvacuate_move (s.withStation { s.station with joining := false }) adopts).mono
    (qs := alarmParts) (by decide)).trans ((evaluateBy_move _ evalStage_move).mono (by decide))).trans
    (handNotices_move _ s.alarm)).trans (react_move _)
  exact h.station (by decide)

theorem endJoiningView_reacts : Reacts s s.endJoiningView :=
  ((withStation_reacts s _).trans (rebuildMerged_reacts _)).trans (mergedNotice_reacts _ _)

theorem endJoiningView_station : s.endJoiningView.station = { s.station with joining := false } :=
  (((rebuildMerged_move (s.withStation { s.station with joining := false })).mono (qs := alarmParts) (by decide)).trans
    ((mergedNotice_move _ s.alarm).mono (by decide))).station (by decide)

/-- R90: with a source, the generation is taken where it differs, and the stage follows its EVACUATE. -/
theorem alarmJoined_source {r : PeerRecord} {report : Report} (hlast : r.lastReport = some report)
    (hconf : s.configured = true) :
    s.alarmJoined (some r) =
      if report.alarm.generation = s.alarm.generation then s.endJoiningReview (report.alarm.stage == .evacuate)
      else (s.takeGeneration report.alarm.generation (.endOfJoining r.station)
        (report.alarm.stage == .evacuate)).endJoiningView := by
  simp [State.alarmJoined, hlast, hconf]

theorem alarmJoined_none : s.alarmJoined none = s.endJoiningReview false := by
  simp [State.alarmJoined]

theorem alarmJoined_station (source : Option PeerRecord) :
    (s.alarmJoined source).station = { s.station with joining := false } := by
  unfold State.alarmJoined
  split
  · dsimp only
    split
    · exact endJoiningReview_station s _
    · rw [endJoiningView_station, (takeGeneration_move _ _ _ _).station (by decide)]
  · exact endJoiningReview_station s _

theorem alarmJoined_generation {r : PeerRecord} {report : Report} (hlast : r.lastReport = some report)
    (hconf : s.configured = true) : (s.alarmJoined (some r)).alarm.generation = report.alarm.generation := by
  rw [alarmJoined_source s hlast hconf]
  split
  · next h => rw [(endJoiningReview_reacts _ _).generation, h]
  · rw [(endJoiningView_reacts _).generation, takeGeneration_generation]

theorem alarmJoined_evacuate {r : PeerRecord} {report : Report} (hlast : r.lastReport = some report)
    (hconf : s.configured = true) (hstage : report.alarm.stage = .evacuate) :
    (s.alarmJoined (some r)).alarm.stage = .evacuate := by
  rw [alarmJoined_source s hlast hconf, beq_iff_eq.mpr hstage]
  split
  · exact endJoiningReview_evacuate s
  · exact (endJoiningView_reacts _).evacuate (takeGeneration_evacuate _ _ _)

/-! ### The readers together -/

/-- After the Alarm Stage Unit the other readers leave the generation and EVACUATE. -/
theorem joinedReaders_reacts (source : Option PeerRecord) : Reacts (s.alarmJoined source) (s.joinedReaders source) :=
  (((((lightsPhase_reacts _).trans (detectionJoined_reacts _)).trans (react_reacts _)).trans
    (recomputeDisabled_reacts _)).trans (react_reacts _)).trans (curtainJoined_reacts _)

theorem joinedReaders_station (source : Option PeerRecord) :
    (s.joinedReaders source).station = { s.station with joining := false } := by
  have h : Move alarmParts (s.alarmJoined source) (s.joinedReaders source) :=
    ((((((lightsPhase_move _).mono (by decide)).trans ((detectionJoined_move _).mono (by decide))).trans
      (react_move _)).trans ((recomputeDisabled_move _).mono (by decide))).trans (react_move _)).trans
      ((curtainJoined_move _).mono (by decide))
  rw [h.station (by decide), alarmJoined_station]

theorem endFlag_station : s.endFlag.station =
    { s.station with joining := false, standing := if s.configured then .running else .unconfigured } := rfl

theorem endFlag_alarm : s.endFlag.alarm = s.alarm := rfl

theorem endJoining_station : s.endJoining.station =
    { s.station with joining := false, standing := if s.configured then .running else .unconfigured } := by
  have hphase : (s.phaseJoined s.joiningSource).station = s.station :=
    (phaseJoined_move s _).station (by decide)
  have hreaders := joinedReaders_station (s.phaseJoined s.joiningSource) s.joiningSource
  rw [hphase] at hreaders
  rw [endJoining_eq, endFlag_station, State.configured, hreaders]
  rfl

theorem endJoining_kept (h : s.joiningSource = none) :
    s.endJoining.phase = s.phase ∧ s.endJoining.alarm.generation = s.alarm.generation := by
  refine ⟨by rw [endJoining_phase, h, phaseJoined_none], ?_⟩
  rw [endJoining_eq, endFlag_alarm, h, phaseJoined_none, (joinedReaders_reacts s none).generation, alarmJoined_none,
    (endJoiningReview_reacts s false).generation]

/-- R49: what a configured station takes from the source. -/
theorem endJoining_taken {r : PeerRecord} {report : Report} (hsource : s.joiningSource = some r)
    (hlast : r.lastReport = some report) (hconf : s.configured = true) :
    s.endJoining.alarm.generation = report.alarm.generation ∧
      (report.alarm.stage = .evacuate → s.endJoining.alarm.stage = .evacuate) ∧
      s.endJoining.phase =
        { phase := report.phase.phase, hold := report.phase.hold && report.phase.phase.holdAllowed
          epoch := report.phase.epoch, origin := report.phase.origin, minutes := report.phase.minutes
          remaining := if report.phase.phase = .interval then report.phase.minutes * 60 else 0 } := by
  have hconf' : (s.phaseJoined (some r)).configured = true := by
    rw [State.configured, (phaseJoined_move s _).station (by decide)]
    exact hconf
  have hreaders := joinedReaders_reacts (s.phaseJoined (some r)) (some r)
  refine ⟨?_, fun hstage => ?_, by rw [endJoining_phase, hsource, phaseJoined_taken hlast hconf]⟩
  · rw [endJoining_eq, endFlag_alarm, hsource, hreaders.generation, alarmJoined_generation _ hlast hconf']
  · rw [endJoining_eq, endFlag_alarm, hsource]
    exact hreaders.evacuate (alarmJoined_evacuate _ hlast hconf' hstage)

end

theorem advanceTo_moved (s : State) (t : Nat) : Move [.clock, .lines] s (s.advanceTo t) :=
  advanceTo_move s (by decide) (by decide) t

theorem completes_endOfJoining {s : State} (hs : s.power.running = true) (hjoining : s.station.joining = true) :
    completes .endOfJoining s (s.advanceTo s.station.joiningUntil).endJoining := by
  rw [completes_iff s rfl]
  change execEndOfJoining s = _
  rw [execEndOfJoining, whenRunning, if_pos hs, if_pos hjoining]

/-- Settles O25: the clock comes to the end of the period, and the lowest LIVE peer, if one is, gives view and
generation. -/
theorem joiningEndsWithTheLowestLivePeer : Obligations.JoiningEndsWithTheLowestLivePeer := by
  intro s hs hjoining
  have hclock := advanceTo_moved s s.station.joiningUntil
  have hstation := hclock.station (by decide)
  have hpeers := hclock.peers (by decide)
  have halarm := hclock.alarm (by decide)
  have hconf : (s.advanceTo s.station.joiningUntil).configured = s.configured := by
    rw [State.configured, hstation]; rfl
  have hend := endJoining_move (s.advanceTo s.station.joiningUntil)
  have hmove : Move ([.clock, .lines, .station] ++ phaseParts) s (s.advanceTo s.station.joiningUntil).endJoining :=
    (hclock.mono (by decide)).trans (hend.mono (by decide))
  refine ⟨_, completes_endOfJoining hs hjoining, ?_, hmove.peers (by decide), hmove.pending (by decide),
    hmove.power (by decide), ?_, fun hnone => ?_, fun r report hcomplete hr hlive hlow hlast hconfigured => ?_⟩
  · rw [endJoining_station, hconf, hstation]
  · rw [hend.clock (by decide), advanceTo_clock]
  · have hsource := joiningSource_none (s := s.advanceTo s.station.joiningUntil) (by rwa [hpeers])
    obtain ⟨hphase, hgeneration⟩ := endJoining_kept _ hsource
    exact ⟨hphase.trans (hclock.phase (by decide)), by rw [hgeneration, halarm]⟩
  · have hcomplete' : (s.advanceTo s.station.joiningUntil).peersComplete := by
      unfold State.peersComplete State.own
      rwa [hpeers, hstation]
    exact endJoining_taken _ (joiningSource_lowest hcomplete' (hpeers ▸ hr) hlive (hpeers ▸ hlow)) hlast
      (hconf.trans hconfigured)

end Sys2Proof.Machine
end

section
/-!
ACCEPTANCE (R37 to R47). The record that an accepted report becomes, the faults that follow it, and what its readers
take of the view and of the generation (R9, R10, R83).
-/
namespace Sys2Proof.Machine

/-! ### The faults of one key -/

theorem FaultMove.stands_other {s t : State} {key other : FaultKey} (h : FaultMove key s t) (ho : other ≠ key) :
    t.stands other = s.stands other := h.panel.others other ho

theorem judgeDegraded_fault (s : State) (station score : Nat) :
    FaultMove (.peerDegraded station) s (s.judgeDegraded station score) := by
  unfold State.judgeDegraded
  split
  · exact raiseFault_move s _ _
  · split
    · exact clearFault_move s _
    · exact .refl _ _

theorem judgeUnauthorised_fault (s : State) (report : Report) :
    FaultMove (.unauthorisedField report.station) s (s.judgeUnauthorised report) := setFault_move s _ _ _

theorem judgeConflict_fault (s : State) : FaultMove .curtainConflict s s.judgeConflict := setFault_move s _ _ _

/-- R41: raised by a score of 6 or more, cleared by 1 or less, kept between. -/
theorem judgeDegraded_stands (s : State) (station score : Nat) :
    (s.judgeDegraded station score).stands (.peerDegraded station) =
      if 6 ≤ score then true else if score ≤ 1 then false else s.stands (.peerDegraded station) := by
  unfold State.judgeDegraded
  split
  · exact raiseFault_stands s _ _
  · split
    · exact clearFault_stands s _
    · rfl

@[simp] theorem setMismatchWarning_stands (s : State) (r : PeerRecord) (mismatch : Bool) (key : FaultKey) :
    (s.setMismatchWarning r mismatch).stands key = s.stands key := by
  unfold State.setMismatchWarning
  split <;> rfl

/-! ### The record (R39, R44, R46) -/

/-- The record after an acceptance, its warning included. -/
def PeerRecord.taken (r : PeerRecord) (report : Report) (missed nodeTime now : Nat) (signature : Half) : PeerRecord :=
  { r.accept report missed nodeTime now with mismatch := report.signature != signature }

theorem setMismatchWarning_peers {s : State} {r : PeerRecord} {records : List PeerRecord}
    (h : s.peers.records = records.map fun x => if x.station = r.station then r else x) (mismatch : Bool) :
    (s.setMismatchWarning r mismatch).peers =
      { s.peers with records := records.map fun x => if x.station = r.station then { r with mismatch := mismatch } else x } := by
  unfold State.setMismatchWarning
  split
  · next hsame => rw [hsame, ← h]
  · change (s.withPeer { r with mismatch := mismatch }).peers = _
    simp only [State.withPeer, State.withPeers, h, List.map_map, PeerTable.mk.injEq, and_true]
    refine List.map_congr_left fun x _ => ?_
    by_cases hx : x.station = r.station <;> simp [hx]

/-- The record of a station that has one is the one put in its place. -/
theorem find?_replaced {records : List PeerRecord} {n : Nat} {r r' : PeerRecord}
    (h : records.find? (·.station == n) = some r) (hr' : r'.station = n) :
    (records.map fun x => if x.station = n then r' else x).find? (·.station == n) = some r' := by
  have hn : r.station = n := by simpa using List.find?_some h
  have hsame : ((·.station == n) ∘ fun x => if x.station = n then r' else x) = fun x : PeerRecord => x.station == n := by
    funext x
    by_cases hx : x.station = n <;> simp [hx, hr']
  rw [List.find?_map, hsame, h, Option.map_some, if_pos hn]

section
variable (s : State) (r : PeerRecord) (report : Report) (missed : Nat)

/-- The record and the judgements that come before its own warning. -/
def State.judgedRecord : State :=
  ((s.withPeer (r.accept report missed s.nodeTime s.clock.now)).judgeDegraded r.station
    (r.accept report missed s.nodeTime s.clock.now).gapScore).judgeUnauthorised report

theorem acceptRecord_eq :
    s.acceptRecord r report missed =
      (((s.judgedRecord r report missed).setMismatchWarning (r.accept report missed s.nodeTime s.clock.now)
        (report.signature != s.station.config.signature)).clearFault (.peerSilent r.station)).judgeConflict := rfl

theorem judgedRecord_peers :
    (s.judgedRecord r report missed).peers =
      (s.withPeer (r.accept report missed s.nodeTime s.clock.now)).peers :=
  ((judgeDegraded_move _ (ps := []) _ _).trans (judgeUnauthorised_move _ _)).peers (by decide)

theorem acceptRecord_peers :
    (s.acceptRecord r report missed).peers =
      (s.withPeer (r.taken report missed s.nodeTime s.clock.now s.station.config.signature)).peers := by
  have hwarned := setMismatchWarning_peers (s := s.judgedRecord r report missed)
    (r := r.accept report missed s.nodeTime s.clock.now) (records := s.peers.records)
    (by rw [judgedRecord_peers]; rfl) (report.signature != s.station.config.signature)
  have hafter (t : State) : Move [] t (t.clearFault (.peerSilent r.station)).judgeConflict :=
    (clearFault_moved t _).trans (judgeConflict_move _)
  rw [acceptRecord_eq, (hafter _).peers (by decide), hwarned, judgedRecord_peers]
  rfl

/-! ### The faults of an acceptance (R41, R42, R45, R47) -/

theorem judgedRecord_degraded :
    (s.judgedRecord r report missed).stands (.peerDegraded r.station) =
      let score := min 255 (r.gapScore + missed)
      if 6 ≤ score then true else if score ≤ 1 then false else s.stands (.peerDegraded r.station) := by
  rw [State.judgedRecord, (judgeUnauthorised_fault _ report).stands_other (other := .peerDegraded r.station) nofun,
    judgeDegraded_stands]
  rfl

theorem judgedRecord_unauthorised :
    (s.judgedRecord r report missed).stands (.unauthorisedField report.station) = (unauthorisedItems report != {}) :=
  setFault_stands _ _ _ _

theorem judgedRecord_stands {key : FaultKey} (hd : key ≠ .peerDegraded r.station)
    (hu : key ≠ .unauthorisedField report.station) : (s.judgedRecord r report missed).stands key = s.stands key := by
  rw [State.judgedRecord, (judgeUnauthorised_fault _ report).stands_other hu, (judgeDegraded_fault _ _ _).stands_other hd]
  rfl

/-- The judgements of the record stand but for PEER SILENT and CURTAIN CONFLICT, which come after them. -/
theorem acceptRecord_stands {key : FaultKey} (hs : key ≠ .peerSilent r.station) (hc : key ≠ .curtainConflict) :
    (s.acceptRecord r report missed).stands key = (s.judgedRecord r report missed).stands key := by
  rw [acceptRecord_eq, (judgeConflict_fault _).stands_other hc,
    (clearFault_move _ (.peerSilent r.station)).stands_other hs, setMismatchWarning_stands]

theorem acceptRecord_silent : (s.acceptRecord r report missed).stands (.peerSilent r.station) = false := by
  rw [acceptRecord_eq, (judgeConflict_fault _).stands_other (other := .peerSilent r.station) nofun, clearFault_stands]

end

theorem curtainCount_congr {s t : State} (hstation : t.station = s.station) (hpeers : t.peers = s.peers) :
    t.curtainCount = s.curtainCount := by
  simp only [State.curtainCount, State.curtainPeers, State.roles, hstation, hpeers]

theorem judgeConflict_stands (s : State) :
    s.judgeConflict.stands .curtainConflict = decide (2 ≤ s.judgeConflict.curtainCount) := by
  have hmove := judgeConflict_move (ps := []) s
  rw [curtainCount_congr (hmove.station (by decide)) (hmove.peers (by decide))]
  exact setFault_stands _ _ _ _

theorem acceptRecord_conflict (s : State) (r : PeerRecord) (report : Report) (missed : Nat) :
    (s.acceptRecord r report missed).stands .curtainConflict =
      decide (2 ≤ (s.acceptRecord r report missed).curtainCount) := by
  rw [acceptRecord_eq]
  exact judgeConflict_stands _

/-! ### The items not honoured (R44, R45) -/

theorem items_ne_none_iff (d : DeskItems) :
    (d != {}) = true ↔ d.acknowledgement = true ∨ d.silence = true ∨ d.demand = true ∨ d.windows = true ∨
      d.disablements = true ∨ d.claims = true ∨ d.calls = true := by
  obtain ⟨a, s, d, w, i, c, k⟩ := d
  rw [bne_iff_ne, ne_eq, DeskItems.mk.injEq]
  simp only [← Bool.not_eq_true]
  tauto

/-- An item is present and not honoured, by the desk role and the authority that its readers need. -/
theorem item_not_honoured_iff (present desk authority : Bool) :
    (present && !(desk && authority)) = true ↔ present = true ∧ (desk = false ∨ authority = false) := by
  simp [← Bool.not_eq_true]

theorem unauthorisedItems_iff (report : Report) :
    (unauthorisedItems report != {}) = true ↔
      report.alarm.ackPresent = true ∧ (report.roles.desk = false ∨ report.authorities.ack = false) ∨
      report.alarm.silencePresent = true ∧ (report.roles.desk = false ∨ report.authorities.ack = false) ∨
      report.desk.demandKind ≠ none ∧ (report.roles.desk = false ∨ report.authorities.curtain = false) ∨
      report.desk.windows ≠ [] ∧ (report.roles.desk = false ∨ report.authorities.effects = false) ∨
      report.desk.disablements ≠ [] ∧ (report.roles.desk = false ∨ report.authorities.reset = false) ∨
      report.desk.claims ≠ [] ∧ (report.roles.desk = false ∨ report.authorities.lights = false) ∨
      report.desk.calls ≠ [] ∧ (report.roles.desk = false ∨ report.authorities.calls = false) := by
  have hlist {α : Type} (l : List α) : (!l.isEmpty) = true ↔ l ≠ [] := by simp
  have hkind : report.desk.demandKind.isSome = true ↔ report.desk.demandKind ≠ none := Option.isSome_iff_ne_none
  rw [items_ne_none_iff]
  simp only [unauthorisedItems, DeskItems.without, presentItems, honouredItems, item_not_honoured_iff, hlist, hkind]

/-! ### The readers (R9, R10, R83) -/

theorem stateAfter_eq (report : Report) :
    stateAfter report = if report.joining = true ∨ report.roles = {} then .joining else .live := by
  unfold stateAfter Report.notJoining
  by_cases hj : report.joining = true <;> by_cases hr : report.roles = {} <;> simp [hj, hr]

theorem notJoining_iff (report : Report) : report.notJoining = true ↔ report.joining = false ∧ report.roles ≠ {} := by
  simp [Report.notJoining]

/-- The report is read where its record is LIVE. -/
theorem liveReport_taken (r : PeerRecord) (report : Report) (missed nodeTime now : Nat) (signature : Half) :
    (r.taken report missed nodeTime now signature).liveReport true = if report.notJoining then some report else none := by
  cases h : report.notJoining <;> simp [PeerRecord.liveReport, PeerRecord.taken, PeerRecord.accept, stateAfter, h]

/-- R9: a station adopts of a LIVE peer, configured and out of its own joining period. -/
def State.adopts (s : State) (report : Report) : Bool := report.notJoining && (s.configured && !s.station.joining)

theorem adopts_iff (s : State) (report : Report) :
    s.adopts report = true ↔
      report.joining = false ∧ report.roles ≠ {} ∧ s.configured = true ∧ s.station.joining = false := by
  rw [State.adopts, Bool.and_eq_true, notJoining_iff]
  simp [and_assoc]

section
variable {s : State} {n : Nat} {r : PeerRecord} {report : Report}

/-- The station's record is one whose live report is the given one, if it is heard as LIVE. -/
theorem phaseAccept_eq (hpeer : s.peer n = some r)
    (hlive : r.liveReport true = if report.notJoining then some report else none) :
    s.phaseAccept n = if s.adopts report && adoptsView s.phase report.phase n then s.takeView report.phase false else s := by
  cases h : report.notJoining <;> simp [State.phaseAccept, hpeer, hlive, State.adopts, h]

theorem adoptableGeneration_eq (hpeer : s.peer n = some r)
    (hlive : r.liveReport true = if report.notJoining then some report else none) :
    s.adoptableGeneration n =
      if s.adopts report && newer report.alarm.generation s.alarm.generation then some report.alarm.generation else none := by
  cases h : report.notJoining <;> simp [State.adoptableGeneration, hpeer, hlive, State.adopts, h]

theorem alarmAccept_generation (hpeer : s.peer n = some r)
    (hlive : r.liveReport true = if report.notJoining then some report else none) :
    (s.alarmAccept n).alarm.generation =
      if s.adopts report && newer report.alarm.generation s.alarm.generation then report.alarm.generation
      else s.alarm.generation := by
  unfold State.alarmAccept
  rw [adoptableGeneration_eq hpeer hlive]
  split
  · next g hg =>
    split at hg
    · next h => rw [takeGeneration_generation, if_pos h, Option.some.inj hg]
    · cases hg
  · next hg =>
    split at hg
    · cases hg
    · next h => rw [(review_reacts s).generation, if_neg h]

end

theorem alarmAccept_stands (s : State) (station : Nat) {key : FaultKey} (hk : key.ofReaders = false) :
    (s.alarmAccept station).stands key = s.stands key := by
  unfold State.alarmAccept
  split
  · exact takeGeneration_stands s _ _ _ hk
  · exact (review_reacts s).stands key hk

/-- The readers after the Alarm Stage Unit. -/
theorem laterReaders_reacts (s : State) (station : Nat) (resync live : Bool) :
    Reacts s ((((s.detectionPeer station).curtainAccept station resync).lightsAccept station).callsAccept station
      resync live) :=
  (((detectionPeer_reacts s _).trans (curtainAccept_reacts _ _ _)).trans (lightsAccept_reacts _ _)).trans
    (callsAccept_reacts _ _ _ _)

theorem acceptNotices_stands (s : State) (station : Nat) (resync live : Bool) {key : FaultKey}
    (hk : key.ofReaders = false) : (s.acceptNotices station resync live).stands key = s.stands key :=
  (laterReaders_reacts _ station resync live).stands key hk |>.trans <|
    (alarmAccept_stands _ station hk).trans ((phaseAccept_reacts s station).stands key hk)

/-- The generation after an acceptance is the one that the Alarm Stage Unit leaves, judged on the peers as they were. -/
theorem acceptNotices_generation {s : State} {n : Nat} {r : PeerRecord} {report : Report} (resync live : Bool)
    (hpeer : s.peer n = some r) (hlive : r.liveReport true = if report.notJoining then some report else none) :
    (s.acceptNotices n resync live).alarm.generation =
      if s.adopts report && newer report.alarm.generation s.alarm.generation then report.alarm.generation
      else s.alarm.generation := by
  have hmove := phaseAccept_move s n
  have hpeer' : (s.phaseAccept n).peer n = some r := by
    rw [State.peer, hmove.peers (by decide)]
    exact hpeer
  have hadopts : (s.phaseAccept n).adopts report = s.adopts report := by
    unfold State.adopts State.configured
    rw [hmove.station (by decide)]
  refine (laterReaders_reacts _ n resync live).generation.trans ?_
  rw [alarmAccept_generation hpeer' hlive, hadopts, (phaseAccept_reacts s n).generation]

/-! ### Whose view wins (R9, R10) -/

theorem winsTie_iff (held : PhaseView) (view : PhaseSection) (station : Nat) :
    winsTie held view station = true ↔
      (view.phase ≠ held.phase ∨ view.hold ≠ held.hold ∨ view.minutes ≠ held.minutes) ∧
        (originRank view.origin < originRank held.origin ∨ view.origin = held.origin ∧ view.origin = station) := by
  simp [winsTie, or_assoc]

theorem adoptsView_iff (held : PhaseView) (view : PhaseSection) (station : Nat) :
    adoptsView held view station = true ↔ newer view.epoch held.epoch = true ∨
      view.epoch = held.epoch ∧
        (view.phase ≠ held.phase ∨ (view.hold && view.phase.holdAllowed) ≠ held.hold ∨ view.minutes ≠ held.minutes) ∧
        (originRank view.origin < originRank held.origin ∨ view.origin = held.origin ∧ view.origin = station) := by
  rw [adoptsView, Bool.or_eq_true, Bool.and_eq_true, winsTie_iff, beq_iff_eq]
  rfl

/-! ### The frame that brings the report (R22, R25) -/

section
variable (s : State) (l : Line)

theorem line_withLine (c : LineController) : (s.withLine l c).line l = c := by cases l <;> rfl

theorem fallIdle_goodFrames (c : LineController) : c.fallIdle.goodFrames = c.goodFrames := by
  have hcontend (d : LineController) : d.contend.goodFrames = d.goodFrames := by
    unfold LineController.contend
    split <;> rfl
  have hreturn : c.returnFlight.goodFrames = c.goodFrames := by
    unfold LineController.returnFlight
    split <;> rfl
  unfold LineController.fallIdle
  dsimp only
  split
  · rw [hcontend, ← hreturn]
  · exact hreturn

/-- The line after a good frame of another station, before its report is handed on. -/
def State.creditedLine : State :=
  (((s.withLine l (s.line l).fallIdle).countGood l).credit l).clearFault (.lineFault l)

theorem creditedLine_move : Move [.lines] s (s.creditedLine l) :=
  (withLine_move s (by decide) _ _).trans (goodLine_move _ l)

theorem creditedLine_goodFrames : ((s.creditedLine l).line l).goodFrames = (s.line l).goodFrames + 1 := by
  have hafter (t : State) : Move [] t ((t.judgeSilence l.other).clearFault (.lineFault l)) :=
    (judgeSilence_move t _).trans (clearFault_moved _ _)
  have hlines := (hafter (((s.withLine l (s.line l).fallIdle).countGood l).withLine l
    { ((s.withLine l (s.line l).fallIdle).countGood l).line l with
      silenceSince := ((s.withLine l (s.line l).fallIdle).countGood l).clock.now })).lines (by decide)
  change ((s.creditedLine l).lines.get l).goodFrames = _
  rw [show (s.creditedLine l).lines = _ from hlines]
  change ((State.withLine _ l _).line l).goodFrames = _
  simp only [line_withLine, State.countGood, fallIdle_goodFrames]

theorem creditedLine_lineFault : (s.creditedLine l).stands (.lineFault l) = false := clearFault_stands _ _

theorem creditedLine_stands {key : FaultKey} (hk : ∀ l', key ≠ .lineFault l') :
    (s.creditedLine l).stands key = s.stands key := by
  have hsilence (t : State) : (t.judgeSilence l.other).stands key = t.stands key := by
    unfold State.judgeSilence
    split
    · exact (raiseFault_move t _ _).stands_other (hk _)
    · rfl
  exact ((clearFault_move _ (.lineFault l)).stands_other (hk l)).trans (hsilence _)

end

section
variable {s : State} {l : Line} {frame : List Byte} {report : Report} {r : PeerRecord} {missed : Nat}

theorem frameEnds_good (hframe : classify frame = .good report) (hother : (s.line l).ownFrame ≠ some frame)
    (hlow : 1 ≤ report.station) (hhigh : report.station ≤ 40) :
    s.frameEnds l frame = (s.creditedLine l).takeReport ((s.creditedLine l).line l).lastSent report := by
  have hown : ((s.line l).ownFrame == some frame) = false := beq_eq_false_iff_ne.mpr hother
  have hstation : isStation report.station = true := by simp [isStation, hlow, hhigh]
  rw [State.frameEnds, hframe, hown]
  change State.handReport _ _ _ = _
  rw [State.handReport, if_pos hstation]
  rfl

/-- R37, R38: the report is a resync and misses nothing, or a newer one that misses the numbers between. -/
theorem takeReport_accepts (note : Option (Byte × Byte)) (hown : report.station ≠ s.own)
    (hpeer : s.peer report.station = some r)
    (h : (r.state = .absent ∨ r.state = .silent) ∧ missed = 0 ∨
      ∃ last, r.lastReport = some last ∧
        (report.restartCount ≠ last.restartCount ∧ missed = 0 ∨
          (r.state = .joining ∨ r.state = .live) ∧ report.restartCount = last.restartCount ∧
            (report.sequence - last.sequence).toNat = missed + 1 ∧ missed ≤ 126)) :
    ∃ resync, s.takeReport note report = s.accept r report missed resync := by
  have htake : s.takeReport note report =
      if isResync r report then s.accept r report 0 true else s.judgeSequence r report := by
    simp [State.takeReport, hown, hpeer]
  rw [htake]
  rcases h with ⟨hstate, rfl⟩ | ⟨last, hlast, ⟨hrestart, rfl⟩ | ⟨hstate, hrestart, hdistance, hmissed⟩⟩
  · have hresync : isResync r report = true := by
      rcases hstate with h | h <;> simp [isResync, h, PeerState.heard]
    exact ⟨true, if_pos hresync⟩
  · have hresync : isResync r report = true := by simp [isResync, hlast, hrestart]
    exact ⟨true, if_pos hresync⟩
  · have hresync : ¬isResync r report = true := by
      rcases hstate with h | h <;> simp [isResync, h, PeerState.heard, hlast, hrestart]
    have hd : distance r report = missed + 1 := by simp [distance, hlast, hdistance]
    refine ⟨false, ?_⟩
    rw [if_neg hresync, State.judgeSequence, hd, if_neg (Nat.succ_ne_zero _), if_pos (by omega), Nat.add_sub_cancel]

theorem completes_frameReceived (hs : s.power.running = true) :
    completes (.frameReceived l frame) s (s.frameEnds l frame) :=
  if_pos hs

end

/-! ### The obligation, from the credited line on -/

section
variable (s : State) {r : PeerRecord} {report : Report} (missed : Nat) (resync : Bool)

theorem accept_after (r : PeerRecord) (report : Report) :
    Move phaseParts (s.acceptRecord r report missed) (s.accept r report missed resync) :=
  acceptNotices_move _ _ _ _

theorem accept_stands {key : FaultKey} (hk : key.ofReaders = false) :
    (s.accept r report missed resync).stands key = (s.acceptRecord r report missed).stands key :=
  acceptNotices_stands _ _ _ _ hk

theorem accept_conflict :
    (s.accept r report missed resync).stands .curtainConflict = true ↔
      2 ≤ (s.accept r report missed resync).curtainCount := by
  have hafter := accept_after s missed resync r report
  rw [accept_stands s missed resync rfl, acceptRecord_conflict, decide_eq_true_iff,
    curtainCount_congr (hafter.station (by decide)) (hafter.peers (by decide))]

theorem acceptRecord_adopts (r : PeerRecord) (report : Report) :
    (s.acceptRecord r report missed).adopts report = s.adopts report := by
  unfold State.adopts State.configured
  rw [(acceptRecord_move s r report missed).station (by decide)]

variable (hpeer : s.peer report.station = some r)
include hpeer

theorem station_of_peer : r.station = report.station := by simpa using List.find?_some hpeer

theorem acceptRecord_peer :
    (s.acceptRecord r report missed).peer r.station =
      some (r.taken report missed s.nodeTime s.clock.now s.station.config.signature) := by
  rw [← station_of_peer s hpeer] at hpeer
  rw [State.peer, acceptRecord_peers]
  exact find?_replaced hpeer rfl

theorem accept_view :
    (s.accept r report missed resync).phase =
      if s.adopts report && adoptsView s.phase report.phase report.station then s.phase.take report.phase false
      else s.phase := by
  rw [accept_phase, phaseAccept_eq (acceptRecord_peer s missed hpeer) (liveReport_taken ..),
    acceptRecord_adopts, (acceptRecord_move s r report missed).phase (by decide), station_of_peer s hpeer]
  split
  · rw [takeView_phase, (acceptRecord_move s r report missed).phase (by decide)]
  · exact (acceptRecord_move s r report missed).phase (by decide)

theorem accept_generation :
    (s.accept r report missed resync).alarm.generation =
      if s.adopts report && newer report.alarm.generation s.alarm.generation then report.alarm.generation
      else s.alarm.generation := by
  rw [State.accept, acceptNotices_generation _ _ (acceptRecord_peer s missed hpeer) (liveReport_taken ..),
    acceptRecord_adopts, (acceptRecord_move s r report missed).alarm (by decide)]

end

/-- R44: the items that a desk's authorities let readers use; none of a station that is no desk. -/
theorem honouredItems_eq (report : Report) :
    honouredItems report =
      if report.roles.desk then
        { acknowledgement := report.authorities.ack, silence := report.authorities.ack,
          demand := report.authorities.curtain, windows := report.authorities.effects,
          disablements := report.authorities.reset, claims := report.authorities.lights,
          calls := report.authorities.calls }
      else {} := by
  cases h : report.roles.desk <;> simp [honouredItems, h]

/-- R3, R12: the view taken at an acceptance, field by field. -/
theorem take_accepted (held : PhaseView) (view : PhaseSection) :
    held.take view false =
      { phase := view.phase, hold := view.hold && view.phase.holdAllowed, epoch := view.epoch, origin := view.origin
        minutes := view.minutes
        remaining :=
          if view.phase = .interval then
            if held.phase = .interval ∧ held.minutes = view.minutes then held.remaining else view.minutes * 60
          else 0 } := by
  simp [PhaseView.take, normalView, remainingAfter]

/-- Settles O20: the line is credited, the record is taken with its faults, and the readers take view and generation. -/
theorem acceptedReportBecomesTheRecord : Obligations.AcceptedReportBecomesTheRecord := by
  intro l s frame report r missed hs hframe hother hlow hhigh hown hpeer haccepted
  have hline := creditedLine_move s l
  have hstation := hline.station (by decide)
  have hclock := hline.clock (by decide)
  have hpeers := hline.peers (by decide)
  have hphase := hline.phase (by decide)
  have halarm := hline.alarm (by decide)
  have hpeer' : (s.creditedLine l).peer report.station = some r := by rwa [State.peer, hpeers]
  have hown' : report.station ≠ (s.creditedLine l).own := by rwa [State.own, hstation]
  have hadopts : (s.creditedLine l).adopts report = s.adopts report := by
    unfold State.adopts State.configured
    rw [hstation]
  obtain ⟨resync, htake⟩ := takeReport_accepts ((s.creditedLine l).line l).lastSent hown' hpeer' haccepted
  have hends := (frameEnds_good hframe hother hlow hhigh).trans htake
  have hcompletes := hends ▸ completes_frameReceived (l := l) (frame := frame) hs
  have hr := station_of_peer _ hpeer'
  have hafter := accept_after (s.creditedLine l) missed resync r report
  have hmove : Move (.lines :: peerParts) s ((s.creditedLine l).accept r report missed resync) :=
    (hline.mono (by decide)).trans ((accept_move _ _ _ _ _).mono (by decide))
  have hstands {key : FaultKey} (hk : key.ofReaders = false) := accept_stands (s.creditedLine l) (r := r)
    (report := report) missed resync hk
  refine ⟨_, hcompletes, ?_, hmove.pending (by decide), hmove.power (by decide), hmove.station (by decide),
    hmove.clock (by decide), ?_, ?_, ?_, ?_, ?_, accept_conflict _ missed resync, ?_⟩
  · rw [hafter.peers (by decide), acceptRecord_peers]
    simp only [State.withPeer, State.withPeers, State.nodeTime, PeerRecord.taken, PeerRecord.accept, stateAfter_eq,
      honouredItems_eq, hpeers, hr, hstation, hclock]
  · rw [State.line, (accept_move _ _ _ _ _).lines (by decide)]
    exact creditedLine_goodFrames s l
  · rw [hstands rfl, acceptRecord_stands (key := .lineFault l) _ r report missed nofun nofun,
      judgedRecord_stands (key := .lineFault l) _ r report missed nofun nofun]
    exact creditedLine_lineFault s l
  · rw [hstands rfl, ← hr, acceptRecord_silent]
  · rw [hstands rfl, ← hr, acceptRecord_stands (key := .peerDegraded r.station) _ r report missed nofun nofun,
      judgedRecord_degraded, creditedLine_stands (key := .peerDegraded r.station) s l nofun]
  · rw [hstands rfl, acceptRecord_stands (key := .unauthorisedField report.station) _ r report missed nofun nofun,
      judgedRecord_unauthorised]
    exact unauthorisedItems_iff report
  · have hview := accept_view (s.creditedLine l) missed resync hpeer'
    have hgeneration := accept_generation (s.creditedLine l) missed resync hpeer'
    rw [hadopts, hphase] at hview
    rw [hadopts, halarm] at hgeneration
    simp only [Bool.and_eq_true, adopts_iff, adoptsView_iff, take_accepted] at hview hgeneration
    refine ⟨fun hadopting htakes => hview.trans (if_pos ⟨hadopting, htakes⟩), fun hnot => hview.trans (if_neg hnot),
      fun hadopting hnewer => hgeneration.trans (if_pos ⟨hadopting, hnewer⟩), fun hnot => hgeneration.trans (if_neg ?_)⟩
    rintro ⟨hadopting, hnewer⟩
    rcases hnot with h | h
    · exact h hadopting
    · exact Bool.noConfusion (hnewer.symm.trans h)

end Sys2Proof.Machine
end

section
/-!
STARTS (R182, R183, R185). What the steps of a start leave, one by one, and what its completion adds: the values that
follow from the records, the first composition, and the entries of the log after START.
-/
namespace Sys2Proof.Machine

/-! ### Entries added to the log (R175) -/

/-- From `s` to `t` the entries `newer` joined the ring in their order, its oldest giving way to them. -/
def LoggedBy (newer : List LogEntry) (s t : State) : Prop :=
  s.panel.log.length ≤ 32 →
    t.panel.log = (s.panel.log ++ newer).drop (s.panel.log.length + newer.length - 32)

theorem LoggedBy.of_log_eq {s t : State} (h : t.panel.log = s.panel.log) : LoggedBy [] s t := by
  intro hlen
  rw [h, List.append_nil, List.length_nil, Nat.add_zero, Nat.sub_eq_zero_of_le hlen, List.drop_zero]

theorem LoggedBy.trans {a b : List LogEntry} {s t u : State} (h : LoggedBy a s t) (h' : LoggedBy b t u) :
    LoggedBy (a ++ b) s u := by
  intro hlen
  have ht := h hlen
  have htlen : t.panel.log.length = s.panel.log.length + a.length - (s.panel.log.length + a.length - 32) := by
    rw [ht, List.length_drop, List.length_append]
  have hdrop : s.panel.log.length + a.length - 32 ≤ (s.panel.log ++ a).length := by
    rw [List.length_append]; omega
  rw [h' (by omega), ht, ← List.drop_append_of_le_length hdrop, List.drop_drop, List.append_assoc]
  congr 1
  simp only [List.length_drop, List.length_append]
  omega

theorem log_loggedBy (s : State) (event : LogEvent) :
    LoggedBy [⟨s.panel.nextEntry, s.station.nodeTime, event, false⟩] s (s.log event) := by
  intro hlen
  change (if s.panel.log.length < 32 then s.panel.log else s.panel.log.drop 1) ++ _ = _
  split
  · next h =>
    have hroom : s.panel.log.length + 1 - 32 = 0 := by omega
    rw [List.length_singleton, hroom, List.drop_zero]
    rfl
  · next h =>
    have hfull : s.panel.log.length + 1 - 32 = 1 := by omega
    rw [List.length_singleton, hfull, List.drop_append_of_le_length (by omega)]
    rfl

/-- At most so many entries joined. -/
def Logs (n : Nat) (s t : State) : Prop := ∃ newer, newer.length ≤ n ∧ LoggedBy newer s t

theorem Logs.of_log_eq {n : Nat} {s t : State} (h : t.panel.log = s.panel.log) : Logs n s t :=
  ⟨[], Nat.zero_le n, .of_log_eq h⟩

theorem Logs.trans {m n : Nat} {s t u : State} (h : Logs m s t) (h' : Logs n t u) : Logs (m + n) s u := by
  obtain ⟨a, ha, hst⟩ := h
  obtain ⟨b, hb, htu⟩ := h'
  exact ⟨a ++ b, by rw [List.length_append]; exact Nat.add_le_add ha hb, hst.trans htu⟩

theorem log_logs (s : State) (event : LogEvent) : Logs 1 s (s.log event) := ⟨[_], Nat.le_refl 1, log_loggedBy s event⟩

theorem withFaults_log (s : State) (faults : List FaultEntry) : (s.withFaults faults).panel.log = s.panel.log := by
  rcases withFaults_eq s faults with h | h <;> rw [h] <;> rfl

theorem raiseFault_logs (s : State) (key : FaultKey) (detail : FaultDetail) : Logs 1 s (s.raiseFault key detail) := by
  unfold State.raiseFault
  split
  · exact .of_log_eq rfl
  · exact Logs.trans (m := 0) (.of_log_eq (withFaults_log s _)) (log_logs _ _)

theorem clearFault_logs (s : State) (key : FaultKey) : Logs 1 s (s.clearFault key) := by
  unfold State.clearFault
  split
  · exact Logs.trans (m := 0) (.of_log_eq (withFaults_log s _)) (log_logs _ _)
  · exact .of_log_eq rfl

theorem setFault_logs (s : State) (key : FaultKey) (detail : FaultDetail) (b : Bool) :
    Logs 1 s (s.setFault key detail b) := by
  cases b
  · exact clearFault_logs s key
  · exact raiseFault_logs s key detail

/-! ### The values that follow from the records (R91, R92, R157, R169) -/

theorem clearFault_of_empty {s : State} (h : s.panel.faults = []) (key : FaultKey) : s.clearFault key = s := by
  simp [State.clearFault, State.stands, h]

theorem withBay_self (s : State) (b : Bay) : s.withBay b (s.bay b) = s := by cases b <;> rfl

theorem bay_withBay_of_ne (s : State) {b c : Bay} (h : c ≠ b) (x : BayRecord) : (s.withBay b x).bay c = s.bay c := by
  cases b <;> cases c <;> first | rfl | exact absurd rfl h

theorem bay_withBay (s : State) (b : Bay) (x : BayRecord) : (s.withBay b x).bay b = x := by cases b <;> rfl

/-- A bay that takes a state with no fault key leaves a fault list without entries as it is. -/
theorem changeBay_of_empty {s : State} {b : Bay} {record : BayRecord} (hfaults : s.panel.faults = [])
    (hmisseated : record.state ≠ .misseated) (hfailed : record.state ≠ .failed) :
    s.changeBay b record = s.withBay b record := by
  have hclear (key : FaultKey) (detail : FaultDetail) : (s.withBay b record).setFault key detail false = s.withBay b record :=
    clearFault_of_empty (s := s.withBay b record) hfaults key
  unfold State.changeBay State.bayKey
  simp only [bay_withBay, beq_eq_false_iff_ne.mpr hmisseated, beq_eq_false_iff_ne.mpr hfailed, hclear]

/-- R169: an empty bay takes its reading as a change from NONE, with no fault key to clear. -/
theorem takePresence_of_empty {s : State} {b : Bay} (hbay : (s.bay b).state = .empty) (hfaults : s.panel.faults = [])
    (presence : Presence) : ∃ record, s.takePresence b presence = s.withBay b record := by
  have hsettle := changeBay_of_empty (s := s) (b := b) (record := { s.bay b with
    state := .settling, presence := presence, debounce := some (s.clock.now + Config.debounceMs) }) hfaults nofun nofun
  cases presence with
  | none => exact ⟨s.bay b, by simp [State.takePresence, hbay, withBay_self]⟩
  | one => exact ⟨_, by rw [← hsettle]; simp [State.takePresence, State.settleBay, hbay]⟩
  | both => exact ⟨_, by rw [← hsettle]; simp [State.takePresence, State.settleBay, hbay]⟩

theorem takeReadings_of_empty (presence : PerBay Presence) {bs : List Bay} (hbs : bs.Nodup) {s : State}
    (hbays : ∀ b ∈ bs, (s.bay b).state = .empty) (hfaults : s.panel.faults = []) :
    ∃ bays, bs.foldl (fun t b => t.takePresence b (presence.get b)) s = s.withBays bays := by
  induction bs generalizing s with
  | nil => exact ⟨s.bays, rfl⟩
  | cons b bs ih =>
    obtain ⟨hb, hnodup⟩ := List.nodup_cons.mp hbs
    obtain ⟨record, hrecord⟩ := takePresence_of_empty (hbays b (List.mem_cons_self ..)) hfaults (presence.get b)
    have hrest : ∀ c ∈ bs, ((s.withBay b record).bay c).state = .empty := fun c hc => by
      have hne : c ≠ b := fun e => by rw [e] at hc; exact hb hc
      rw [bay_withBay_of_ne s hne record]
      exact hbays c (List.mem_cons_of_mem _ hc)
    obtain ⟨bays, h⟩ := ih hnodup (s := s.withBay b record) hrest hfaults
    exact ⟨bays, by rw [List.foldl_cons, hrecord, h]; rfl⟩

/-- R157: with no call playing and no module online, the staff call that becomes due waits for its repeat timer. -/
theorem staffBecomesDue_of_empty {s : State} (hcurrent : s.calls.current = .none) (hstage : s.alarm.stage ≠ .evacuate)
    (hbays : s.bays = everyBay emptyBay) :
    ∃ due staffRepeat, s.staffBecomesDue = s.withCalls { s.calls with staffDue := due, staffRepeat := staffRepeat } := by
  unfold State.staffBecomesDue
  split
  · exact ⟨s.calls.staffDue, s.calls.staffRepeat, rfl⟩
  · refine ⟨true, some (s.clock.now + Config.staffMs), ?_⟩
    have hserves (t : State) (ht : t.bays = everyBay emptyBay) (zones : List Nat) (b : Bay) : t.serves zones b = false := by
      unfold State.serves State.callOnline State.bay
      rw [ht]
      cases b <;> rfl
    have hany (t : State) (ht : t.bays = everyBay emptyBay) (zones : List Nat) : anyBay (bayset (t.serves zones)) = false := by
      simp [anyBay, bayset, bayList, PerBay.get, hserves t ht]
    have hpreempt : (s.withCalls { s.calls with staffDue := true }).preempt = s.withCalls { s.calls with staffDue := true } := by
      simp [State.preempt, hcurrent]
    rw [State.standingDue, hpreempt]
    have htwice (x y : Calls) : (s.withCalls x).withCalls y = s.withCalls y := rfl
    simp [State.startStanding, State.startStaff, hcurrent, hstage, hany, hbays, htwice]

/-- The last step of a start, on records with no call playing, every bay empty and no fault standing: the merged view,
the silenced flag, the staff call and the bays follow, and nothing else. -/
theorem takeValues_eq {s : State} (hcurrent : s.calls.current = .none) (hbays : s.bays = everyBay emptyBay)
    (hfaults : s.panel.faults = []) (presence : PerBay Presence) :
    ∃ merged silenced due staffRepeat bays,
      ((s.startView).startStandingCalls).readPresence presence =
        ((s.withAlarm { s.alarm with merged := merged, silenced := silenced }).withCalls
          { s.calls with staffDue := due, staffRepeat := staffRepeat }).withBays bays := by
  have hview : ∃ merged silenced, s.startView = s.withAlarm { s.alarm with merged := merged, silenced := silenced } :=
    ⟨_, _, rfl⟩
  obtain ⟨merged, silenced, hview⟩ := hview
  have hcalls : ∃ due staffRepeat, s.startView.startStandingCalls =
      s.startView.withCalls { s.calls with staffDue := due, staffRepeat := staffRepeat } := by
    unfold State.startStandingCalls
    split
    · next h =>
      obtain ⟨-, hstage⟩ := Bool.and_eq_true_iff.mp h
      rw [hview] at hstage ⊢
      exact staffBecomesDue_of_empty hcurrent (by rw [beq_iff_eq.mp hstage]; decide) hbays
    · exact ⟨s.calls.staffDue, s.calls.staffRepeat, by rw [hview]; rfl⟩
  obtain ⟨due, staffRepeat, hcalls⟩ := hcalls
  rw [hcalls, hview]
  obtain ⟨bays, h⟩ := takeReadings_of_empty presence (bs := bayList) (by decide)
    (s := (s.withAlarm { s.alarm with merged := merged, silenced := silenced }).withCalls
      { s.calls with staffDue := due, staffRepeat := staffRepeat })
    (fun b _ => by
      change (s.bays.get b).state = .empty
      rw [hbays]
      cases b <;> rfl) hfaults
  exact ⟨merged, silenced, due, staffRepeat, bays, h⟩

/-! ### The completion (R180, R48) -/

/-- The counters of a line whose slot is empty are kept at a composition. -/
theorem place_counters {c : LineController} (h : c.slot = none) (p : Pending) :
    (c.place p).goodFrames = c.goodFrames ∧ (c.place p).crcFailures = c.crcFailures ∧
      (c.place p).superseded = c.superseded := by
  unfold LineController.place
  rw [h]
  dsimp only
  split
  · split <;> exact ⟨rfl, rfl, rfl⟩
  · exact ⟨rfl, rfl, rfl⟩

/-- What the completion of a start leaves of the station as its last step left it. -/
structure Completion (s t : State) : Prop where
  within : Within (composing ++ [.power, .station]) s t
  power : t.power = { s.power with running := true, start := none }
  station : t.station = { s.station with
    joiningUntil := s.clock.now + 3500, standing := if s.configured then .joining else .unconfigured }
  restartCount : t.composer.restartCount = s.composer.restartCount
  sequence : t.composer.sequence = s.composer.sequence + 1
  counters : ∀ l, (s.line l).slot = none →
    (t.line l).goodFrames = (s.line l).goodFrames ∧ (t.line l).crcFailures = (s.line l).crcFailures ∧
      (t.line l).superseded = (s.line l).superseded
  log : Logs 3 s t

theorem Marked.restartCount {c d : Composer} (h : Marked c d) : d.restartCount = c.restartCount := by
  rcases h with rfl | rfl <;> rfl

theorem Marked.sequence {c d : Composer} (h : Marked c d) : d.sequence = c.sequence := by
  rcases h with rfl | rfl <;> rfl

/-- The station out of reset, with its joining period begun. -/
def State.leaveReset (s : State) : State :=
  (s.withPower { s.power with running := true, start := none }).withStation
    { s.station with joiningUntil := s.clock.now + Config.joiningMs }

/-- The station with its proof judged and CONFIG INVALID raised, before the first composition. -/
def State.outOfReset (s : State) : State :=
  let s₁ := s.leaveReset.proofAges s.station.provenAtStop
  match s₁.station.config.failure with
  | some failure => s₁.raiseFault .configInvalid (.invalid failure)
  | none => s₁

theorem completeStart_eq (s : State) :
    s.completeStart = s.outOfReset.compose.withStation { s.outOfReset.compose.station with
      standing := if s.configured then .joining else .unconfigured } := rfl

theorem outOfReset_move (s : State) : Move [] s.leaveReset s.outOfReset := by
  unfold State.outOfReset
  dsimp only
  split
  · exact (proofAges_move _ _).trans (raiseFault_moved _ _ _)
  · exact proofAges_move _ _

theorem proofAges_logs (s : State) (wasProven : Bool) : Logs 1 s (s.proofAges wasProven) := by
  unfold State.proofAges
  split
  · exact log_logs s _
  · exact .of_log_eq rfl

theorem outOfReset_logs (s : State) : Logs 2 s s.outOfReset := by
  have hleave : Logs 0 s s.leaveReset := .of_log_eq rfl
  have hproof := hleave.trans (proofAges_logs s.leaveReset s.station.provenAtStop)
  unfold State.outOfReset
  dsimp only
  split
  · exact hproof.trans (n := 1) (raiseFault_logs _ _ _)
  · exact hproof.trans (n := 1) (.of_log_eq rfl)

theorem compose_logs (s : State) : Logs 1 s s.compose := by
  have hcheck (t : State) (ht : t.panel.log = s.panel.log) (b : Bool) : Logs 1 s (t.setFault .composerCheck .none b) :=
    Logs.trans (m := 0) (.of_log_eq ht) (setFault_logs t _ _ b)
  unfold State.compose State.composeAt
  dsimp only
  exact hcheck _ (by rfl) _

theorem compose_line (s : State) (l : Line) : s.compose.line l = s.placed none l := by
  obtain ⟨t, hfault, ht⟩ := composeAt_changes s none
  rw [State.line, compose_eq, hfault.move (ps := []) |>.lines (by decide), ht]
  cases l <;> rfl

/-- The counters of an empty line at a composition. -/
theorem compose_counters {s : State} {l : Line} (h : (s.line l).slot = none) :
    (s.compose.line l).goodFrames = (s.line l).goodFrames ∧ (s.compose.line l).crcFailures = (s.line l).crcFailures ∧
      (s.compose.line l).superseded = (s.line l).superseded := by
  rw [compose_line]
  exact place_counters (c := (s.line l).sense (none != some l && Config.carriesFrame s.draws l)) h s.composed

theorem completeStart_completion (s : State) : Completion s s.completeStart := by
  have hout := outOfReset_move s
  obtain ⟨t, hfault, ht⟩ := composeAt_changes s.outOfReset none
  have hcompose : Move [] t s.outOfReset.compose := hfault.move
  refine ⟨completeStart_within s, ?_, ?_, ?_, ?_, fun l hslot => ?_, (outOfReset_logs s).trans (n := 1) (compose_logs _)⟩
  · exact (hcompose.power (by decide)).trans ((congrArg State.power ht).trans (hout.power (by decide)))
  · have hstation := (hcompose.station (by decide)).trans ((congrArg State.station ht).trans (hout.station (by decide)))
    rw [completeStart_eq, State.withStation_station, hstation]
    rfl
  · exact hcompose.composer.restartCount.trans ((congrArg (·.composer.restartCount) ht).trans hout.composer.restartCount)
  · refine hcompose.composer.sequence.trans ((congrArg (·.composer.sequence) ht).trans ?_)
    exact congrArg (· + 1) hout.composer.sequence
  · have hline : s.outOfReset.line l = s.line l := congrArg (PerLine.get · l) (hout.lines (by decide))
    rw [← hline] at hslot ⊢
    exact compose_counters hslot

end Sys2Proof.Machine
end

section
/-!
COLD AND WARM (R182, R183, R185). A start as it stands after each of its steps and when it has completed.
-/
namespace Sys2Proof.Machine

section
variable (s : State) (kind : StartKind) (memory : ConfigMemory) (presence : PerBay Presence)

/-! ### After the last step -/

/-- The START entry has been made: the records are set, every bay is empty, no call plays and no fault stands. -/
def State.atStartEntry : State := s.start kind memory presence (some .startLogged)

theorem atStartEntry_calls : (s.atStartEntry kind memory presence).calls.current = .none := by cases kind <;> rfl

theorem atStartEntry_bays : (s.atStartEntry kind memory presence).bays = everyBay emptyBay := by cases kind <;> rfl

theorem atStartEntry_faults : (s.atStartEntry kind memory presence).panel.faults = [] := by cases kind <;> rfl

theorem start_valuesTaken_eq :
    ∃ merged silenced due staffRepeat bays, s.start kind memory presence (some .valuesTaken) =
      ((((s.atStartEntry kind memory presence).withAlarm
          { (s.atStartEntry kind memory presence).alarm with merged := merged, silenced := silenced }).withCalls
        { (s.atStartEntry kind memory presence).calls with staffDue := due, staffRepeat := staffRepeat }).withBays
          bays).withPower
        { (s.atStartEntry kind memory presence).power with start := some ⟨kind, memory, presence, .valuesTaken⟩ } := by
  obtain ⟨merged, silenced, due, staffRepeat, bays, h⟩ := takeValues_eq (atStartEntry_calls s kind memory presence)
    (atStartEntry_bays s kind memory presence) (atStartEntry_faults s kind memory presence) presence
  have hstep : s.start kind memory presence (some .valuesTaken) =
      State.makeStep ⟨kind, memory, presence, .kindDecided⟩ (s.atStartEntry kind memory presence) .valuesTaken := rfl
  refine ⟨merged, silenced, due, staffRepeat, bays, ?_⟩
  rw [hstep, State.makeStep, State.stepEffect, h]
  rfl

/-! ### In progress -/

/-- R182, R33: the power, the standing and the count of a start in progress, after each of its steps. -/
theorem start_inProgress (k : StartStep) :
    (s.start kind memory presence (some k)).power =
        ⟨true, false, false, decide (4 ≤ k.number) || s.power.storeGood, some ⟨kind, memory, presence, k⟩⟩ ∧
      (s.start kind memory presence (some k)).station.standing = .starting ∧
      (s.start kind memory presence (some k)).pending = s.pending ∧
      (s.start kind memory presence (some k)).clock.now = s.clock.now ∧
      (s.start kind memory presence (some k)).composer.restartCount =
        if 3 ≤ k.number then (if s.power.storeGood then s.composer.restartCount + 1 else 1)
        else s.composer.restartCount := by
  cases k with
  | valuesTaken =>
    obtain ⟨merged, silenced, due, staffRepeat, bays, h⟩ := start_valuesTaken_eq s kind memory presence
    rw [h]
    cases kind <;> refine ⟨?_, ?_, ?_, ?_, ?_⟩ <;> rfl
  | recordsSet => cases kind <;> refine ⟨?_, ?_, ?_, ?_, ?_⟩ <;> rfl
  | startLogged => cases kind <;> refine ⟨?_, ?_, ?_, ?_, ?_⟩ <;> rfl
  | _ => refine ⟨?_, ?_, ?_, ?_, ?_⟩ <;> rfl

/-- The steps before the records leave the store as reset left it. -/
theorem start_before_records {k : StartStep} (hk : k.number ≤ 3) : ∃ composer power,
    s.start kind memory presence (some k) = ((s.beginStart kind memory presence).withComposer composer).withPower power := by
  cases k with
  | kindDecided => exact ⟨_, _, rfl⟩
  | imageValidated => exact ⟨_, _, rfl⟩
  | countFixed => exact ⟨_, _, rfl⟩
  | _ => exact absurd hk (by decide)

theorem start_store_before_records {k : StartStep} (hk : k.number ≤ 3) :
    let u := s.start kind memory presence (some k)
    u.station.memory = s.station.memory ∧ u.station.config = s.station.config ∧
      u.station.nodeTime = s.station.nodeTime ∧ u.phase = s.phase ∧ u.alarm = s.alarm ∧
      u.detection = s.detection ∧ u.descent = s.descent ∧ u.lights = s.lights ∧ u.calls = s.calls ∧
      u.curtain.proof = s.curtain.proof ∧ u.curtain.descents = s.curtain.descents ∧
      u.panel.log = s.panel.log ∧ u.panel.nextEntry = s.panel.nextEntry := by
  obtain ⟨composer, power, h⟩ := start_before_records s kind memory presence hk
  dsimp only
  rw [h]
  exact ⟨rfl, rfl, rfl, rfl, rfl, rfl, rfl, rfl, rfl, rfl, rfl, rfl, rfl⟩

/-! ### ATTN (R176) -/

/-- The entry just made is unread. -/
theorem log_unread (event : LogEvent) : 1 ≤ (s.log event).unread := by
  have hmem := List.mem_of_getLast? (log_newest s event)
  exact List.length_pos_of_mem (List.mem_filter.mpr ⟨hmem, rfl⟩)

/-- The step that makes the START entry, on the records as they are set. -/
theorem atStartEntry_eq : s.atStartEntry kind memory presence =
    State.makeStep ⟨kind, memory, presence, .kindDecided⟩ (s.start kind memory presence (some .recordsSet))
      .startLogged := rfl

theorem makeStep_unread (p : StartProgress) (step : StartStep) :
    (State.makeStep p s step).unread = (s.stepEffect p step).unread := rfl

theorem atStartEntry_unread : 1 ≤ (s.atStartEntry kind memory presence).unread := by
  rw [atStartEntry_eq, makeStep_unread, State.stepEffect]
  exact log_unread _ _

theorem attn_of_unread {t : State} (h : t.power.drivesAttn = true) (hu : 1 ≤ t.unread) : t.attn = true := by
  simp [State.attn, h, hu]

theorem attn_released {t : State} (h : t.power.drivesAttn = false) : t.attn = false := by
  simp [State.attn, h]

/-- R176: ATTN is released until the START entry of a start in progress. -/
theorem start_attn (k : StartStep) : (s.start kind memory presence (some k)).attn = true ↔ 5 ≤ k.number := by
  have hdrives : (s.start kind memory presence (some k)).power.drivesAttn = decide (5 ≤ k.number) := by
    rw [(start_inProgress s kind memory presence k).1]
    rfl
  by_cases hk : 5 ≤ k.number
  · refine iff_of_true (attn_of_unread (by rw [hdrives]; exact decide_eq_true hk) ?_) hk
    have hentry := atStartEntry_unread s kind memory presence
    cases k with
    | startLogged => exact hentry
    | valuesTaken =>
      obtain ⟨merged, silenced, due, staffRepeat, bays, h⟩ := start_valuesTaken_eq s kind memory presence
      rw [h]
      exact hentry
    | _ => exact absurd hk (by decide)
  · rw [attn_released (by rw [hdrives]; exact decide_eq_false hk)]
    exact iff_of_false nofun hk

/-! ### Completed -/

/-- What a start that has completed leaves of the station as the START entry left it. -/
structure Started (v u : State) : Prop where
  within : Within (composing ++ [.power, .station, .alarm, .calls, .bays]) v u
  power : u.power = { v.power with running := true, start := none }
  station : u.station = { v.station with
    joiningUntil := v.clock.now + 3500, standing := if v.configured then .joining else .unconfigured }
  restartCount : u.composer.restartCount = v.composer.restartCount
  sequence : u.composer.sequence = v.composer.sequence + 1
  alarm : ∃ merged silenced, u.alarm = { v.alarm with merged := merged, silenced := silenced }
  calls : ∃ due staffRepeat, u.calls = { v.calls with staffDue := due, staffRepeat := staffRepeat }
  counters : ∀ l, (v.line l).slot = none →
    (u.line l).goodFrames = (v.line l).goodFrames ∧ (u.line l).crcFailures = (v.line l).crcFailures ∧
      (u.line l).superseded = (v.line l).superseded
  log : Logs 3 v u

theorem start_started : Started (s.atStartEntry kind memory presence) (s.start kind memory presence none) := by
  obtain ⟨merged, silenced, due, staffRepeat, bays, h⟩ := start_valuesTaken_eq s kind memory presence
  have hcomplete := completeStart_completion (s.start kind memory presence (some .valuesTaken))
  have hnone : s.start kind memory presence none = (s.start kind memory presence (some .valuesTaken)).completeStart := rfl
  rw [← hnone, h] at hcomplete
  obtain ⟨hwithin, hpower, hstation, hcount, hsequence, hcounters, hlog⟩ := hcomplete
  refine ⟨fun p hp => ?_, hpower, hstation, hcount, hsequence, ⟨merged, silenced, hwithin .alarm (by decide)⟩,
    ⟨due, staffRepeat, hwithin .calls (by decide)⟩, hcounters, hlog⟩
  have hlast : Within (composing ++ [.power, .station, .alarm, .calls, .bays]) (s.atStartEntry kind memory presence)
      (s.start kind memory presence (some .valuesTaken)) := by
    rw [h]
    exact fun p hp => by cases p <;> first | rfl | exact absurd (by decide) hp
  rw [h] at hlast
  exact (hlast.trans (hwithin.mono (by decide))) p hp

end

/-! ### The peers of a start (R34, R50) -/

theorem coldPeers_station_iff (own n : Nat) :
    (∃ r ∈ (coldPeers own).records, r.station = n) ↔ 1 ≤ n ∧ n ≤ 40 ∧ n ≠ own := by
  have hmem : n ∈ (coldPeers own).records.map (·.station) ↔ ∃ r ∈ (coldPeers own).records, r.station = n := List.mem_map
  rw [← hmem, coldPeers_stations, List.mem_filter, stationNumbers, List.mem_range'_1]
  simp only [decide_eq_true_eq]
  omega

theorem coldPeers_absent {own : Nat} {r : PeerRecord} (h : r ∈ (coldPeers own).records) :
    r.state = .absent ∧ r.lastReport = none := by
  obtain ⟨n, -, rfl⟩ := List.mem_map.mp h
  exact ⟨rfl, rfl⟩

/-! ### The records of a start (R70, R71, R92, R142, R143) -/

theorem startDetection_zone {isOwn : Nat → Bool} {map : PerBay (List (Option DetectorSetting))}
    {kept : Nat → Option ZoneRecord} {r : ZoneRecord} (h : r ∈ (startDetection isOwn map kept).zones) :
    r = warmZone (kept r.zone) r.zone := by
  obtain ⟨z, -, rfl⟩ := List.mem_map.mp h
  have hz : (warmZone (kept z) z).zone = z := by
    unfold warmZone
    split <;> rfl
  rw [hz]

theorem startLights_group {config : Configuration} {evacuate : Bool} {output : Nat → Nat} {i : Nat} {g : LightGroup}
    (h : (startLights config evacuate output).groups[i]? = some g) : g = startGroup evacuate (output (i + 1)) := by
  unfold startLights at h
  dsimp only at h
  split at h
  · rw [groupNumbers, List.getElem?_map, Option.map_eq_some_iff] at h
    obtain ⟨n, hn, rfl⟩ := h
    have hi : n = 1 + i := by
      obtain ⟨hlt, hn⟩ := List.getElem?_eq_some_iff.mp hn
      rw [← hn, List.getElem_range', Nat.one_mul]
    rw [hi, Nat.add_comm]
  · cases h

theorem startGroup_output (evacuate : Bool) (output : Nat) :
    (startGroup evacuate output).output = if evacuate then 255 else output := by
  cases evacuate <;> rfl

theorem openRealarm_eq (nodeTime : Nat) (e : Option Nat) :
    openRealarm nodeTime e = e.filter fun e => decide (nodeTime < e) := by
  cases e with
  | none => rfl
  | some e =>
    by_cases h : e ≤ nodeTime
    · simp [openRealarm, Option.filter, h, not_lt.mpr h]
    · simp [openRealarm, Option.filter, h, not_le.mp h]

/-! ### What every completed start has (R182, R185) -/

section
variable (s : State) (kind : StartKind) (memory : ConfigMemory) (presence : PerBay Presence)

/-- The image that a start of this kind puts in force: the one that is read, or the retained one. -/
def State.imageInForce : ConfigMemory :=
  match kind with
  | .cold => memory
  | .warm => s.station.memory

theorem start_station :
    let u := s.start kind memory presence none
    u.power = ⟨true, false, true, true, none⟩ ∧ u.station.config = validate (s.imageInForce kind memory) ∧
      u.station.joining = true ∧ u.station.joiningUntil = s.clock.now + 3500 ∧
      u.station.standing =
        if (validate (s.imageInForce kind memory)).failure = none then .joining else .unconfigured := by
  have h := start_started s kind memory presence
  dsimp only
  rw [h.power, h.station]
  cases kind <;> refine ⟨rfl, rfl, rfl, rfl, ?_⟩ <;>
    simp only [State.configured, Option.isNone_iff_eq_none] <;> rfl

theorem start_counts :
    let u := s.start kind memory presence none
    u.composer.restartCount = s.nextRestartCount ∧ u.composer.sequence = 1 ∧ u.pending = s.pending ∧
      u.clock.now = s.clock.now := by
  have h := start_started s kind memory presence
  have hpending : _ = (s.atStartEntry kind memory presence).pending := h.within .pending (by decide)
  have hclock : _ = (s.atStartEntry kind memory presence).clock := h.within .clock (by decide)
  dsimp only
  rw [h.restartCount, h.sequence, hpending, hclock]
  cases kind <;> exact ⟨rfl, rfl, rfl, rfl⟩

theorem start_peers :
    let u := s.start kind memory presence none
    (∀ n, (∃ r ∈ u.peers.records, r.station = n) ↔ 1 ≤ n ∧ n ≤ 40 ∧ n ≠ u.own) ∧
      ∀ r ∈ u.peers.records, r.state = .absent ∧ r.lastReport = none := by
  have h := start_started s kind memory presence
  have hpeers : _ = (s.atStartEntry kind memory presence).peers := h.within .peers (by decide)
  dsimp only
  rw [State.own, h.station, hpeers]
  cases kind <;> exact ⟨coldPeers_station_iff _, fun r hr => coldPeers_absent hr⟩

/-- A start has no call, window, copy, disablement, claim, demand, drive command or descent. -/
theorem start_emptied :
    let u := s.start kind memory presence none
    u.calls.queue = [] ∧ u.detection.windows = [] ∧ u.detection.copies = [] ∧ u.alarm.disablements = [] ∧
      u.lights.claims = [] ∧ u.curtain.demandKind = none ∧ u.curtain.output = none ∧ u.descent.motion = none := by
  have h := start_started s kind memory presence
  have hdetection : _ = (s.atStartEntry kind memory presence).detection := h.within .detection (by decide)
  have hlights : _ = (s.atStartEntry kind memory presence).lights := h.within .lights (by decide)
  have hcurtain : _ = (s.atStartEntry kind memory presence).curtain := h.within .curtain (by decide)
  have hdescent : _ = (s.atStartEntry kind memory presence).descent := h.within .descent (by decide)
  obtain ⟨merged, silenced, halarm⟩ := h.alarm
  obtain ⟨due, staffRepeat, hcalls⟩ := h.calls
  dsimp only
  rw [hcalls, hdetection, halarm, hlights, hcurtain, hdescent]
  cases kind <;> exact ⟨rfl, rfl, rfl, rfl, rfl, rfl, rfl, rfl⟩

end

/-! ### A cold start and a warm one -/

section
variable (s : State) (memory : ConfigMemory) (presence : PerBay Presence)

/-- R183: the records of a cold start, from the step that sets them on. -/
theorem coldStart_records {k : StartStep} (hk : 4 ≤ k.number) :
    let u := s.start .cold memory presence (some k)
    u.station.memory = memory ∧ u.station.config = validate memory ∧ u.station.nodeTime = 0 ∧ u.phase = coldPhase ∧
      u.alarm.generation = 0 ∧ u.curtain.proof.verdict = .none ∧ (k = .recordsSet → u.panel.log = []) ∧
      (k = .startLogged → u.panel.log = [⟨0, 0, .start .cold s.nextRestartCount, false⟩]) := by
  cases k with
  | recordsSet => exact ⟨rfl, rfl, rfl, rfl, rfl, rfl, fun _ => rfl, nofun⟩
  | startLogged => exact ⟨rfl, rfl, rfl, rfl, rfl, rfl, nofun, fun _ => rfl⟩
  | valuesTaken =>
    obtain ⟨merged, silenced, due, staffRepeat, bays, h⟩ := start_valuesTaken_eq s .cold memory presence
    rw [h]
    exact ⟨rfl, rfl, rfl, rfl, rfl, rfl, nofun, nofun⟩
  | _ => exact absurd hk (by decide)

/-- R183: the records of a warm start, from the step that restores them on. -/
theorem warmStart_records {k : StartStep} (hk : 4 ≤ k.number) :
    let u := s.start .warm memory presence (some k)
    u.station.memory = s.station.memory ∧ u.station.config = validate s.station.memory ∧
      u.station.nodeTime = s.station.nodeTime ∧ u.phase = s.phase ∧ u.alarm.generation = s.alarm.generation ∧
      u.alarm.stage = s.alarm.stage ∧ u.curtain.proof = s.curtain.proof ∧
      (k = .recordsSet → u.panel.log = s.panel.log) ∧
      (k = .startLogged → s.panel.log.length < 32 → u.panel.log = s.panel.log ++
        [⟨s.panel.nextEntry, s.station.nodeTime, .start .warm s.nextRestartCount, false⟩]) := by
  cases k with
  | recordsSet => exact ⟨rfl, rfl, rfl, rfl, rfl, rfl, rfl, fun _ => rfl, nofun⟩
  | startLogged =>
    refine ⟨rfl, rfl, rfl, rfl, rfl, rfl, rfl, nofun, fun _ hlen => ?_⟩
    exact congrArg (· ++ [_]) (if_pos hlen)
  | valuesTaken =>
    obtain ⟨merged, silenced, due, staffRepeat, bays, h⟩ := start_valuesTaken_eq s .warm memory presence
    rw [h]
    exact ⟨rfl, rfl, rfl, rfl, rfl, rfl, rfl, nofun, nofun⟩
  | _ => exact absurd hk (by decide)

/-- R183: the values of a cold start that has completed. -/
theorem coldStart_values :
    let u := s.start .cold memory presence none
    u.station.nodeTime = 0 ∧ u.phase = coldPhase ∧ u.alarm.generation = 0 ∧ u.alarm.stage = .quiet ∧
      u.alarm.order = [] ∧ u.alarm.snapshot = none ∧ u.curtain.proof.verdict = .none ∧
      u.curtain.descents = 0 ∧ u.descent.trace = none ∧ u.alarm.cause = none ∧ u.alarm.realarmEnd = none ∧
      u.calls.counters = ⟨0, 0, 0, 0, 0⟩ := by
  have h := start_started s .cold memory presence
  have hphase : _ = (s.atStartEntry .cold memory presence).phase := h.within .phase (by decide)
  have hcurtain : _ = (s.atStartEntry .cold memory presence).curtain := h.within .curtain (by decide)
  have hdescent : _ = (s.atStartEntry .cold memory presence).descent := h.within .descent (by decide)
  obtain ⟨merged, silenced, halarm⟩ := h.alarm
  obtain ⟨due, staffRepeat, hcalls⟩ := h.calls
  dsimp only
  rw [h.station, hphase, halarm, hcurtain, hdescent, hcalls]
  exact ⟨rfl, rfl, rfl, rfl, rfl, rfl, rfl, rfl, rfl, rfl, rfl, rfl⟩

theorem coldStart_zone {r : ZoneRecord} (hr : r ∈ (s.start .cold memory presence none).detection.zones) :
    r.latch = false ∧ r.manual = false ∧ r.onsets = 0 := by
  have h := start_started s .cold memory presence
  have hdetection : _ = (s.atStartEntry .cold memory presence).detection := h.within .detection (by decide)
  rw [hdetection] at hr
  have hnew : r = warmZone none r.zone := startDetection_zone hr
  rw [hnew]
  exact ⟨rfl, rfl, rfl⟩

theorem coldStart_output {g : LightGroup} (hg : g ∈ (s.start .cold memory presence none).lights.groups) :
    g.output = 0 := by
  have h := start_started s .cold memory presence
  have hlights : _ = (s.atStartEntry .cold memory presence).lights := h.within .lights (by decide)
  rw [hlights] at hg
  obtain ⟨i, hi⟩ := List.mem_iff_getElem?.mp hg
  have hnew : g = startGroup false 0 := startLights_group hi
  rw [hnew]
  rfl

theorem coldStart_counters (l : Line) :
    let u := s.start .cold memory presence none
    (u.line l).goodFrames = 0 ∧ (u.line l).crcFailures = 0 ∧ (u.line l).superseded = 0 := by
  have h := (start_started s .cold memory presence).counters l (by cases l <;> rfl)
  cases l <;> exact h

/-- R183: the values that a warm start that has completed restores. -/
theorem warmStart_values :
    let u := s.start .warm memory presence none
    u.station.nodeTime = s.station.nodeTime ∧ u.station.memory = s.station.memory ∧ u.phase = s.phase ∧
      u.alarm.generation = s.alarm.generation ∧ u.alarm.stage = s.alarm.stage ∧ u.alarm.order = s.alarm.order ∧
      u.alarm.snapshot = s.alarm.snapshot ∧ u.alarm.ack = s.alarm.ack ∧ u.alarm.silence = s.alarm.silence ∧
      u.curtain.proof = s.curtain.proof ∧ u.curtain.descents = s.curtain.descents ∧
      u.calls.counters = s.calls.counters ∧
      u.descent.trace = (s.descent.trace.map fun trace =>
        if trace.finish = .inProgress then { trace with finish := .restart } else trace) ∧
      u.alarm.cause = s.alarm.cause ∧
      u.alarm.realarmEnd = s.alarm.realarmEnd.filter fun e => decide (s.station.nodeTime < e) := by
  have h := start_started s .warm memory presence
  have hphase : _ = (s.atStartEntry .warm memory presence).phase := h.within .phase (by decide)
  have hcurtain : _ = (s.atStartEntry .warm memory presence).curtain := h.within .curtain (by decide)
  have hdescent : _ = (s.atStartEntry .warm memory presence).descent := h.within .descent (by decide)
  obtain ⟨merged, silenced, halarm⟩ := h.alarm
  obtain ⟨due, staffRepeat, hcalls⟩ := h.calls
  dsimp only
  rw [h.station, hphase, halarm, hcurtain, hdescent, hcalls]
  exact ⟨rfl, rfl, rfl, rfl, rfl, rfl, rfl, rfl, rfl, rfl, rfl, rfl, rfl, rfl, openRealarm_eq _ _⟩

theorem warmStart_counters (l : Line) :
    let u := s.start .warm memory presence none
    (u.line l).goodFrames = (s.line l).goodFrames ∧ (u.line l).crcFailures = (s.line l).crcFailures ∧
      (u.line l).superseded = (s.line l).superseded := by
  have h := (start_started s .warm memory presence).counters l (by cases l <;> rfl)
  cases l <;> exact h

/-- R175: the few entries that follow a cold START leave it the oldest of the ring. -/
theorem coldStart_log : (s.start .cold memory presence none).panel.log.head? =
    some ⟨0, 0, .start .cold (s.start .cold memory presence none).composer.restartCount, false⟩ := by
  have h := start_started s .cold memory presence
  obtain ⟨newer, hnewer, hlog⟩ := h.log
  have hentry : (s.atStartEntry .cold memory presence).panel.log =
      [⟨0, 0, .start .cold (s.atStartEntry .cold memory presence).composer.restartCount, false⟩] := rfl
  have hroom : 1 + newer.length - 32 = 0 := by omega
  rw [h.restartCount, hlog (by rw [hentry, List.length_singleton]; omega), hentry, List.length_singleton, hroom]
  rfl

/-- R176: a warm start adds START to the retained ring, and the entries that follow it. -/
theorem warmStart_log (hlen : s.panel.log.length ≤ 32) : ∃ newer, (s.start .warm memory presence none).panel.log =
    (s.panel.log ++ (⟨s.panel.nextEntry, s.station.nodeTime,
      .start .warm (s.start .warm memory presence none).composer.restartCount, false⟩ : LogEntry) :: newer).drop
        (s.panel.log.length + 1 + newer.length - 32) := by
  have h := start_started s .warm memory presence
  obtain ⟨newer, -, hlog⟩ := h.log
  have hentry : LoggedBy [⟨s.panel.nextEntry, s.station.nodeTime,
      .start .warm (s.atStartEntry .warm memory presence).composer.restartCount, false⟩]
      (s.start .warm memory presence (some .recordsSet)) (s.atStartEntry .warm memory presence) :=
    log_loggedBy (s.start .warm memory presence (some .recordsSet)) _
  have hrecords : (s.start .warm memory presence (some .recordsSet)).panel.log = s.panel.log := rfl
  have hall := hentry.trans hlog (hrecords ▸ hlen)
  rw [hrecords, ← h.restartCount, List.singleton_append, List.length_cons, ← Nat.add_assoc, Nat.add_right_comm] at hall
  exact ⟨newer, hall⟩

/-- R71: a warm start keeps latch, manual mark and onset tally of each own zone. -/
theorem warmStart_zone {r old : ZoneRecord} (hr : r ∈ (s.start .warm memory presence none).detection.zones)
    (hold : s.zone r.zone = some old) : r.latch = old.latch ∧ r.manual = old.manual ∧ r.onsets = old.onsets := by
  have h := start_started s .warm memory presence
  have hdetection : _ = (s.atStartEntry .warm memory presence).detection := h.within .detection (by decide)
  rw [hdetection] at hr
  have hkept : r = warmZone (s.zone r.zone) r.zone := startDetection_zone hr
  rw [hkept, hold]
  exact ⟨rfl, rfl, rfl⟩

/-- R143: a warm start keeps the output levels, but for a restored EVACUATE, which stands at full. -/
theorem warmStart_output {i : Nat} {g old : LightGroup}
    (hg : (s.start .warm memory presence none).lights.groups[i]? = some g) (hold : s.lights.groups[i]? = some old) :
    g.output = if s.alarm.stage = .evacuate then 255 else old.output := by
  have h := start_started s .warm memory presence
  have hlights : _ = (s.atStartEntry .warm memory presence).lights := h.within .lights (by decide)
  rw [hlights] at hg
  have hgroup : g = startGroup (s.alarm.stage == .evacuate) (s.lights.retained (i + 1)) := startLights_group hg
  have hretained : s.lights.retained (i + 1) = old.output := by simp [Lights.retained, hold]
  simp only [hgroup, startGroup_output, hretained, beq_iff_eq]

end

end Sys2Proof.Machine
end

section
/-!
O59. Every start is `State.start` on the power that its event leaves, so the laws of `State.start` settle it for each event.
-/
namespace Sys2Proof.Machine

/-- Settles O59: the kind that R182 decides selects the laws of a cold start or those of a warm one. -/
theorem startIsColdOrWarm : Obligations.StartIsColdOrWarm := by
  intro s memory presence good retain started cold warm inProgress byRetain
  have hstarted (p : Power) (kind : StartKind) :
      started ((s.withPower p).start kind memory presence none) (s.imageInForce kind memory) p.storeGood := by
    obtain ⟨hpower, hconfig, hjoining, huntil, hstanding⟩ := start_station (s.withPower p) kind memory presence
    obtain ⟨hcount, hsequence, hpending, hnow⟩ := start_counts (s.withPower p) kind memory presence
    obtain ⟨hstations, habsent⟩ := start_peers (s.withPower p) kind memory presence
    exact ⟨hpower, hconfig, hjoining, huntil, hstanding, hcount, hsequence, hpending, hnow, hstations, habsent,
      start_emptied (s.withPower p) kind memory presence⟩
  have hcold (p : Power) : cold ((s.withPower p).start .cold memory presence none) p.storeGood := by
    obtain ⟨htime, hphase, hgeneration, hstage, horder, hsnapshot, hproof, hdescents, htrace, hcause, hrealarm,
      hcounters⟩ := coldStart_values (s.withPower p) memory presence
    exact ⟨hstarted p .cold, htime, hphase, hgeneration, hstage, horder, hsnapshot, hproof, hdescents, htrace, hcause,
      hrealarm, hcounters, fun r hr => coldStart_zone (s.withPower p) memory presence hr,
      fun g hg => coldStart_output (s.withPower p) memory presence hg, fun l => coldStart_counters _ memory presence l,
      coldStart_log (s.withPower p) memory presence⟩
  have hwarm (p : Power) (hp : p.storeGood = true) : warm ((s.withPower p).start .warm memory presence none) := by
    obtain ⟨htime, hmemory, hphase, hgeneration, hstage, horder, hsnapshot, hack, hsilence, hproof, hdescents, hcounters,
      htrace, hcause, hrealarm⟩ := warmStart_values (s.withPower p) memory presence
    exact ⟨hp ▸ hstarted p .warm, htime, hmemory, hphase, hgeneration, hstage, horder, hsnapshot, hack, hsilence, hproof,
      hdescents, hcounters, htrace, hcause, hrealarm, fun r hr old hold => warmStart_zone (s.withPower p) memory presence hr hold,
      fun i g old hg hold => warmStart_output (s.withPower p) memory presence hg hold,
      fun l => warmStart_counters (s.withPower p) memory presence l, fun hlen => warmStart_log (s.withPower p) memory presence hlen⟩
  have hcoldSteps (p : Power) (k : StartStep) :
      inProgress ((s.withPower p).start .cold memory presence (some k)) .cold p.storeGood k := by
    obtain ⟨hpower, hstanding, hpending, hnow, hcount⟩ := start_inProgress (s.withPower p) .cold memory presence k
    exact ⟨hpower, hstanding, hpending, hnow, hcount, start_attn _ _ _ _ k,
      start_store_before_records (s.withPower p) .cold memory presence,
      fun hk _ => coldStart_records (s.withPower p) memory presence hk, nofun⟩
  have hwarmSteps (p : Power) (hp : p.storeGood = true) (k : StartStep) :
      inProgress ((s.withPower p).start .warm memory presence (some k)) .warm true k := by
    obtain ⟨hpower, hstanding, hpending, hnow, hcount⟩ := start_inProgress (s.withPower p) .warm memory presence k
    rw [← hp]
    exact ⟨hpower, hstanding, hpending, hnow, hcount, start_attn _ _ _ _ k,
      start_store_before_records (s.withPower p) .warm memory presence, nofun,
      fun hk _ => warmStart_records (s.withPower p) memory presence hk⟩
  have hretain (p : Power) (hp : p.storeGood = s.power.storeGood) (c : Option StartStep → Instr)
      (hc : ∀ reached, exec (c reached) s =
        .next ((s.withPower p).start ((s.withPower p).startKind retain) memory presence reached)) : byRetain c := by
    have hwarmKind (hr : retain = true) (hg : s.power.storeGood = true) : (s.withPower p).startKind retain = .warm := by
      simp [State.startKind, hr, hp, hg]
    have hcoldKind (h : retain = false ∨ s.power.storeGood = false) : (s.withPower p).startKind retain = .cold := by
      rcases h with h | h <;> simp [State.startKind, h, hp]
    refine ⟨⟨_, hc none, fun hr hg => ?_, fun h => ?_⟩, fun k => ⟨_, hc (some k), fun hr hg => ?_, fun h => ?_⟩⟩
    · rw [hwarmKind hr hg]
      exact hwarm p (hp.trans hg)
    · rw [hcoldKind h, ← hp]
      exact hcold p
    · rw [hwarmKind hr hg]
      exact hwarmSteps p (hp.trans hg) k
    · rw [hcoldKind h, ← hp]
      exact hcoldSteps p k
  refine ⟨fun hreset => ⟨⟨_, ?_, hcold { s.power with supply := true, storeGood := s.power.storeGood && good }⟩,
    fun k => ⟨_, ?_, hcoldSteps { s.power with supply := true, storeGood := s.power.storeGood && good } k⟩,
    hretain { s.power with supply := true } rfl
      (fun reached => .supplyDip retain memory ⟨presence, reached⟩) fun reached => ?_⟩,
    fun hsupply => hretain { s.power with resetAsserted := false } rfl
      (fun reached => .resetReleased retain memory ⟨presence, reached⟩) fun reached => ?_⟩
  · simp [exec, execPowerOn, hreset]
  · simp [exec, execPowerOn, hreset]
  · simp [exec, execSupplyDip, hreset]
  · simp [exec, execResetReleased, hsupply]

end Sys2Proof.Machine
end

section
/-!
LAYOUT (R17, R23). Each field of a report, as its bytes carry it, reads back as the value written, within the ranges of
R17.
-/
namespace Sys2Proof.Machine

/-! ### Bytes and bits -/

theorem toNat_byte {n : Nat} (h : n < 256) : (byte n).toNat = n := by
  rw [byte, BitVec.toNat_ofNat, Nat.mod_eq_of_lt h]

theorem readTwo_twoBytes {n : Nat} (h : n < 65536) : readTwo (byte (n % 256)) (byte (n / 256)) = n := by
  rw [readTwo, toNat_byte (Nat.mod_lt n (by decide)), toNat_byte (by omega), Nat.mod_add_div]

theorem bit_byte (n : Nat) {i : Nat} (h : i < 8) : bit (byte n) i = n.testBit i := by
  rw [bit, byte, BitVec.getLsbD_ofNat, decide_eq_true h, Bool.true_and]

/-- Each bit of a number written from a list of bits is the one at its place in the list. -/
theorem testBit_bitsToNat (bs : List Bool) (i : Nat) : (bitsToNat bs).testBit i = bs.getD i false := by
  induction bs generalizing i with
  | nil => simp [bitsToNat]
  | cons b bs ih =>
    cases i with
    | zero => cases b <;> simp [bitsToNat, Nat.testBit_zero, Nat.add_mod]
    | succ i =>
      have hhalf : bitsToNat (b :: bs) / 2 = bitsToNat bs := by
        have := b.toNat_lt
        rw [bitsToNat]
        omega
      rw [Nat.testBit_succ, hhalf, ih, List.getD_cons_succ]

theorem bit_bitsToNat (bs : List Bool) {i : Nat} (h : i < 8) : bit (byte (bitsToNat bs)) i = bs.getD i false := by
  rw [bit_byte _ h, testBit_bitsToNat]

theorem bitsToNat_lt (bs : List Bool) : bitsToNat bs < 2 ^ bs.length := by
  induction bs with
  | nil => decide
  | cons b bs ih =>
    have := b.toNat_lt
    rw [bitsToNat, List.length_cons, Nat.pow_succ]
    omega

/-! ### Sets of flags -/

theorem rolesOfByte_code (r : RoleSet) : rolesOfByte (byte (rolesCode r)) = r := by
  simp [rolesOfByte, rolesCode, bit_bitsToNat]

theorem authoritiesOfByte_code (a : AuthoritySet) : authoritiesOfByte (byte (authoritiesCode a)) = a := by
  simp [authoritiesOfByte, authoritiesCode, bit_bitsToNat]

theorem flagsOfByte_code (f : CurtainFlags) : flagsOfByte (byte (flagsCode f)) = f := by
  simp [flagsOfByte, flagsCode, bit_bitsToNat]

/-- The fault-summary word has its bits in the low byte. -/
theorem summaryOfByte_code (f : FaultSummary) : summaryOfByte (byte (summaryCode f % 256)) = f := by
  have hbits : summaryCode f < 64 := bitsToNat_lt _
  rw [Nat.mod_eq_of_lt (by omega)]
  simp [summaryOfByte, summaryCode, bit_bitsToNat]

theorem joining_bit (b : Bool) : bit (byte b.toNat) 0 = b := by cases b <;> rfl

/-- The FOH zones read from a word are the members that the word was written from, in ascending order. -/
theorem fohOfNat_fohCode (zones : List Nat) : fohOfNat (fohCode zones) = fohSet zones := by
  refine List.filter_congr fun z hz => ?_
  obtain ⟨hlow, hhigh⟩ := List.mem_range'_1.mp hz
  have hz' : 1 + (z - 1) = z := by omega
  rw [fohCode, testBit_bitsToNat, List.getD_eq_getElem?_getD, List.getElem?_map,
    List.getElem?_range' (by omega)]
  simp [hz']

theorem fohCode_lt (zones : List Nat) : fohCode zones < 65536 := (bitsToNat_lt _).trans_eq (by simp)

/-! ### Codes of kinds -/

theorem phaseOfCode_code (p : Phase) : phaseOfCode (phaseCode p) = some p := by cases p <;> rfl

theorem stageOfCode_code (s : Stage) : stageOfCode (stageCode s) = s := by cases s <;> rfl

theorem conditionOfCode_code {c : Condition} (h : c ≠ .normal) : conditionOfCode (conditionCode c) = some c := by
  cases c with
  | normal => exact absurd rfl h
  | _ => rfl

theorem curtainOfCode_code (c : CurtainState) : curtainOfCode (curtainCode c) = some c := by cases c <;> rfl

theorem demandOfCode_code (d : Option DemandKind) : demandOfCode (demandCode d) = some d := by
  rcases d with _ | d
  · rfl
  · cases d <;> rfl

theorem claimOfCode_code (c : ClaimKind) : claimOfCode (claimCode c) = some c := by cases c <;> rfl

theorem phaseCode_lt (p : Phase) : phaseCode p < 8 := by cases p <;> decide

theorem stageCode_lt (s : Stage) : stageCode s < 4 := by cases s <;> decide

theorem conditionCode_lt (c : Condition) : conditionCode c < 256 := by cases c <;> decide

theorem curtainCode_lt (c : CurtainState) : curtainCode c < 256 := by cases c <;> decide

theorem demandCode_lt (d : Option DemandKind) : demandCode d < 256 := by
  rcases d with _ | d
  · decide
  · cases d <;> decide

theorem claimCode_lt (c : ClaimKind) : claimCode c < 4 := by cases c <;> decide

/-- The phase byte: the phase in its low bits, the hold in bit 7. -/
theorem phaseByte_fields {n : Nat} (h : n < 8) (hold : Bool) :
    (byte (n + 128 * hold.toNat)).toNat % 8 = n ∧ bit (byte (n + 128 * hold.toNat)) 7 = hold := by
  revert n hold
  decide

/-- The stage byte: the stage in bits 0 and 1, the three flags in bits 4 to 6. -/
theorem stageByte_fields {n : Nat} (h : n < 4) (silenced ack silence : Bool) :
    let b := byte (n + 16 * silenced.toNat + 32 * ack.toNat + 64 * silence.toNat)
    b.toNat % 4 = n ∧ bit b 4 = silenced ∧ bit b 5 = ack ∧ bit b 6 = silence := by
  revert n silenced ack silence
  decide

theorem positionOfNat_code {p : Option Nat} (h : ∀ n, p = some n → n ≤ 12200) :
    positionOfNat (p.getD 65535) = some p := by
  rcases p with _ | n
  · rfl
  · have := h n rfl
    have hknown : n ≠ 65535 := by omega
    simp [positionOfNat, Config.positionMax, hknown, this]

theorem encodePosition_eq (p : Option Nat) : encodePosition p = twoBytes (p.getD 65535) := by cases p <;> rfl

/-! ### Lists of entries -/

theorem zoneInRange_byte {z : Nat} (hlow : 1 ≤ z) (hhigh : z ≤ 64) :
    (byte z).toNat = z ∧ zoneInRange z = true :=
  ⟨toNat_byte (by omega), by simp [zoneInRange, hlow, hhigh]⟩

theorem parseZones_encode {es : List ZoneEntry} (h : ∀ e ∈ es, e.carried) (rest : List Byte) :
    parseZones es.length (es.flatMap encodeZone ++ rest) = some (es, rest) := by
  induction es with
  | nil => rfl
  | cons e es ih =>
    obtain ⟨he, hes⟩ := List.forall_mem_cons.mp h
    obtain ⟨hlow, hhigh, hcondition⟩ := he
    obtain ⟨hz, hrange⟩ := zoneInRange_byte hlow hhigh
    simp [encodeZone, parseZones, toNat_byte (conditionCode_lt _), conditionOfCode_code hcondition, hz, hrange, ih hes]

theorem parseWindows_encode {es : List WindowEntry} (h : ∀ e ∈ es, e.carried) (rest : List Byte) :
    parseWindows es.length (es.flatMap encodeWindow ++ rest) = some (es, rest) := by
  induction es with
  | nil => rfl
  | cons e es ih =>
    obtain ⟨he, hes⟩ := List.forall_mem_cons.mp h
    obtain ⟨hlow, hhigh, hremaining⟩ := he
    obtain ⟨hz, hrange⟩ := zoneInRange_byte hlow hhigh
    simp [encodeWindow, twoBytes, parseWindows, readTwo_twoBytes (by omega : e.remaining < 65536), hz, hrange, hremaining,
      ih hes]

theorem parseDisablements_encode {zs : List Nat} (h : ∀ z ∈ zs, 1 ≤ z ∧ z ≤ 64) (rest : List Byte) :
    parseDisablements zs.length (zs.map byte ++ rest) = some (zs, rest) := by
  induction zs with
  | nil => rfl
  | cons z zs ih =>
    obtain ⟨⟨hlow, hhigh⟩, hzs⟩ := List.forall_mem_cons.mp h
    obtain ⟨hz, hrange⟩ := zoneInRange_byte hlow hhigh
    simp [parseDisablements, hz, hrange, ih hzs]

/-- The word of a claim entry holds fade, kind and slot apart. -/
theorem claimWord_fields {e : ClaimEntry} (h : e.carried) :
    let word := e.claim.fade + 1024 * claimCode e.claim.kind + 4096 * (e.slot - 1)
    word < 65536 ∧ word % 1024 = e.claim.fade ∧ word / 1024 % 4 = claimCode e.claim.kind ∧
      word / 4096 % 8 + 1 = e.slot := by
  obtain ⟨hslot, hslot', -, -, -, hfade⟩ := h
  have := claimCode_lt e.claim.kind
  dsimp only
  omega

theorem parseClaims_encode {es : List ClaimEntry} (h : ∀ e ∈ es, e.carried) (rest : List Byte) :
    parseClaims es.length (es.flatMap encodeClaim ++ rest) = some (es, rest) := by
  induction es with
  | nil => rfl
  | cons e es ih =>
    obtain ⟨he, hes⟩ := List.forall_mem_cons.mp h
    obtain ⟨hword, hfade, hkind, hslot⟩ := claimWord_fields he
    obtain ⟨-, -, hgroup, hgroup', hlevel, hfadeMax⟩ := he
    simp [encodeClaim, twoBytes, parseClaims, readTwo_twoBytes hword, hfade, hkind, hslot, claimOfCode_code,
      toNat_byte (by omega : e.claim.group < 256), toNat_byte (by omega : e.claim.level < 256), hgroup, hgroup', hfadeMax,
      ih hes]

/-- The first byte of a call entry holds slot and repeats apart. -/
theorem callHead_fields {e : CallEntry} (h : e.carried) :
    (byte (16 * e.slot + e.repeats)).toNat / 16 = e.slot ∧ (byte (16 * e.slot + e.repeats)).toNat % 16 = e.repeats := by
  obtain ⟨hslot, hslot', hrepeats, hrepeats', -⟩ := h
  rw [toNat_byte (by omega)]
  omega

theorem parseCalls_encode {es : List CallEntry} (h : ∀ e ∈ es, e.carried) (rest : List Byte) :
    parseCalls es.length (es.flatMap encodeCall ++ rest) = some (es, rest) := by
  induction es with
  | nil => rfl
  | cons e es ih =>
    obtain ⟨he, hes⟩ := List.forall_mem_cons.mp h
    obtain ⟨hhead, hhead'⟩ := callHead_fields he
    obtain ⟨hslot, hslot', hrepeats, hrepeats', hmessage, hmessage', hsome, hset⟩ := he
    have hzones : fohOfNat (readTwo (byte (fohCode e.zones % 256)) (byte (fohCode e.zones / 256))) = e.zones := by
      rw [readTwo_twoBytes (fohCode_lt _), fohOfNat_fohCode, ← hset]
    have hsome' : e.zones.isEmpty = false := by simpa using hsome
    simp [encodeCall, twoBytes, parseCalls, hhead, hhead', hzones, toNat_byte (by omega : e.message < 256), hslot, hslot',
      hrepeats, hrepeats', hmessage, hmessage', hsome', ih hes]

theorem parseCount_encode {n greatest : Nat} (h : n ≤ greatest) (hbyte : greatest < 256) (rest : List Byte) :
    parseCount greatest (byte n :: rest) = some (n, rest) := by
  rw [parseCount, toNat_byte (by omega), if_pos h]

/-! ### The report -/

/-- The 18 bytes before the zone list. -/
def headBytes (r : Report) : List Byte :=
  [byte r.station, r.sequence, r.restartCount, byte r.joining.toNat, byte (rolesCode r.roles),
    byte (authoritiesCode r.authorities)] ++ twoBytes r.signature.toNat ++
  [byte (phaseCode r.phase.phase + 128 * r.phase.hold.toNat), r.phase.epoch, byte r.phase.origin,
    byte r.phase.minutes, r.alarm.generation,
    byte (stageCode r.alarm.stage + 16 * r.alarm.silenced.toNat + 32 * r.alarm.ackPresent.toNat +
      64 * r.alarm.silencePresent.toNat),
    r.alarm.ackGeneration, r.alarm.silenceGeneration, byte r.alarm.silenceCount,
    byte r.alarm.zones.length]

/-- The curtain section and the desk section up to its window count. -/
def curtainBytes (r : Report) : List Byte :=
  [byte (curtainCode r.curtain.state), byte (flagsCode r.curtain.flags)] ++ encodePosition r.curtain.position ++
  [r.curtain.lastEpoch, byte (demandCode r.desk.demandKind), r.desk.demandEpoch, byte r.desk.windows.length]

/-- The four lists of the desk section with their counts, the window count apart. -/
def deskListBytes (d : DeskSection) : List Byte :=
  d.windows.flatMap encodeWindow ++ (byte d.disablements.length :: (d.disablements.map byte ++
    (byte d.claims.length :: (d.claims.flatMap encodeClaim ++ (byte d.calls.length :: d.calls.flatMap encodeCall)))))

theorem encodeReport_eq (r : Report) :
    encodeReport r = headBytes r ++ (r.alarm.zones.flatMap encodeZone ++ (curtainBytes r ++
      (deskListBytes r.desk ++ twoBytes (summaryCode r.health)))) := by
  simp [encodeReport, headBytes, curtainBytes, deskListBytes]

/-- The head reads as the report with its zone list, curtain, desk and health sections still to be filled in. -/
theorem parseHead_encode {r : Report} (h : r.carried) (rest : List Byte) :
    parseHead (headBytes r ++ rest) = some (fun zones curtain desk health =>
      { r with alarm := { r.alarm with zones := zones }, curtain := curtain, desk := desk, health := health },
      r.alarm.zones.length, rest) := by
  obtain ⟨hstation, ⟨horigin, hminutes⟩, ⟨hsilence, hzones, -⟩, -⟩ := h
  obtain ⟨hphase, hhold⟩ := phaseByte_fields (phaseCode_lt r.phase.phase) r.phase.hold
  obtain ⟨hstage, hsilenced, hack, hsilencePresent⟩ := stageByte_fields (stageCode_lt r.alarm.stage) r.alarm.silenced
    r.alarm.ackPresent r.alarm.silencePresent
  have hminutes' : minutesInRange r.phase.minutes = true := by simpa [minutesInRange] using hminutes
  have horigin' : originInRange r.phase.origin = true := by simpa [originInRange] using horigin
  simp [headBytes, twoBytes, parseHead, hphase, hhold, hstage, hsilenced, hack, hsilencePresent, phaseOfCode_code,
    stageOfCode_code, joining_bit, rolesOfByte_code, authoritiesOfByte_code, readTwo_twoBytes r.signature.isLt,
    toNat_byte (by omega : r.station < 256), toNat_byte (by omega : r.phase.origin < 256),
    toNat_byte (by omega : r.phase.minutes < 256), toNat_byte (by omega : r.alarm.silenceCount < 256),
    toNat_byte (by omega : r.alarm.zones.length < 256), hstation, horigin', hminutes', hsilence, hzones]

theorem parseCurtain_encode {r : Report} (h : r.carried) (rest : List Byte) :
    parseCurtain (curtainBytes r ++ rest) =
      some (r.curtain, r.desk.demandKind, r.desk.demandEpoch, r.desk.windows.length, rest) := by
  obtain ⟨-, -, -, hposition, hwindows, -⟩ := h
  have hword : r.curtain.position.getD 65535 < 65536 := by
    cases hp : r.curtain.position with
    | none => decide
    | some p => exact (hposition p hp).trans_lt (by decide)
  simp [curtainBytes, encodePosition_eq, twoBytes, parseCurtain, toNat_byte (curtainCode_lt _),
    toNat_byte (demandCode_lt _), toNat_byte (by omega : r.desk.windows.length < 256), curtainOfCode_code,
    demandOfCode_code, flagsOfByte_code, readTwo_twoBytes hword, positionOfNat_code hposition, hwindows]

/-- Settles O12: each section reads back and leaves the bytes of the sections after it. -/
theorem reportReadsBackFromItsBytes : Obligations.ReportReadsBackFromItsBytes := by
  intro r h
  have hhead := parseHead_encode h
  have hcurtain := parseCurtain_encode h
  obtain ⟨-, -, ⟨-, -, hzones⟩, -, -, hwindows, hdisabledMax, hdisabled, hclaimsMax, hclaims, hcallsMax, hcalls⟩ := h
  rw [encodeReport_eq]
  simp only [parseReport, hhead, parseZones_encode hzones, hcurtain, deskListBytes, List.append_assoc, List.cons_append,
    parseWindows_encode hwindows, parseCount_encode hdisabledMax (by decide), parseDisablements_encode hdisabled,
    parseCount_encode hclaimsMax (by decide), parseClaims_encode hclaims, parseCount_encode hcallsMax (by decide),
    parseCalls_encode hcalls, twoBytes, summaryOfByte_code, Option.bind_eq_bind, Option.bind_some]

end Sys2Proof.Machine
end

section
/-!
FRAMES (R19, R22). The check value of a frame tells a frame sent whole from one sent poisoned, and the precedence byte
names the station.
-/
namespace Sys2Proof.Machine

/-! ### The check value -/

theorem twoBytes_inj {m n : Nat} (hm : m < 65536) (hn : n < 65536) (h : twoBytes m = twoBytes n) : m = n := by
  simp only [twoBytes, List.cons.injEq, and_true] at h
  obtain ⟨hlow, hhigh⟩ := h
  rw [← readTwo_twoBytes hm, hlow, hhigh, readTwo_twoBytes hn]

/-- No check value is its own inverse: the two add up to an odd number. -/
theorem twoBytes_not_ne (crc : Half) : twoBytes (~~~crc).toNat ≠ twoBytes crc.toNat := by
  intro h
  have heq := twoBytes_inj (~~~crc).isLt crc.isLt h
  rw [BitVec.toNat_not] at heq
  omega

/-! ### The precedence byte -/

theorem classCode_lt (cls : ReportClass) : classCode cls < 3 := by cases cls <;> decide

theorem precedence_fields (cls : ReportClass) {station : Nat} (h : station ≤ 40) :
    (precedence cls station).toNat / 64 ≠ 3 ∧ (precedence cls station).toNat % 64 = station := by
  have := classCode_lt cls
  rw [precedence, toNat_byte (by omega)]
  omega

/-- R23: the form of a report sent under its own station number is good. -/
theorem checkForm_encode (cls : ReportClass) {r : Report} (h : r.carried) :
    checkForm (precedence cls r.station) (encodeReport r) = some r := by
  have hparse := reportReadsBackFromItsBytes r h
  obtain ⟨hstation, -⟩ := h
  obtain ⟨hclass, hnumber⟩ := precedence_fields cls hstation
  simp [checkForm, hclass, hnumber, hparse]

/-! ### Classification -/

theorem encodeReport_length (r : Report) : 31 ≤ (encodeReport r).length := by
  simp only [encodeReport_eq, headBytes, curtainBytes, deskListBytes, encodePosition_eq, twoBytes, List.length_append,
    List.length_cons, List.length_nil]
  omega

theorem classify_short {frame : List Byte} (h : frame.length < 34) : classify frame = .crcFailure := by
  cases frame with
  | nil => rfl
  | cons prec rest => exact if_pos h

section
variable {prec : Byte} {report : List Byte}

/-- A frame of full length is cut before its last two bytes. -/
theorem frame_cut (hlen : 31 ≤ report.length) (n : Nat) :
    let frame := prec :: (report ++ twoBytes n)
    ¬frame.length < 34 ∧ frame.take (frame.length - 2) = prec :: report ∧ frame.drop (frame.length - 2) = twoBytes n := by
  have hlength : (prec :: (report ++ twoBytes n)).length - 2 = (prec :: report).length := by simp [twoBytes]
  refine ⟨?_, ?_, ?_⟩
  · simp only [List.length_cons] at hlength ⊢
    omega
  · rw [hlength]
    exact List.take_left
  · rw [hlength]
    exact List.drop_left

theorem classify_whole (hlen : 31 ≤ report.length) {r : Report} (hform : checkForm prec report = some r) :
    classify (prec :: (report ++ twoBytes (crc16 (prec :: report)).toNat)) = .good r := by
  obtain ⟨hlong, htake, hdrop⟩ := frame_cut (prec := prec) hlen (crc16 (prec :: report)).toNat
  simp only [classify, if_neg hlong, htake, hdrop, if_true, List.drop_one, List.tail_cons, hform]

theorem classify_inverted (hlen : 31 ≤ report.length) :
    classify (prec :: (report ++ twoBytes (~~~crc16 (prec :: report)).toNat)) = .poisoned (prec.toNat % 64) := by
  obtain ⟨hlong, htake, hdrop⟩ := frame_cut (prec := prec) hlen (~~~crc16 (prec :: report)).toNat
  simp only [classify, if_neg hlong, htake, hdrop, if_neg (twoBytes_not_ne _), if_true]

end

/-- Settles O13: the two check values are told apart, and the form and the station are those sent. -/
theorem frameClassifiesAsItWasSent : Obligations.FrameClassifiesAsItWasSent := by
  refine ⟨fun cls r h => ⟨classify_whole (encodeReport_length r) (checkForm_encode cls h), ?_⟩, by decide +kernel,
    fun frame => classify_short⟩
  obtain ⟨hstation, -⟩ := h
  obtain ⟨-, hnumber⟩ := precedence_fields cls hstation
  exact (classify_inverted (encodeReport_length r)).trans (congrArg FrameVerdict.poisoned hnumber)

end Sys2Proof.Machine
end

section
/-!
LINE CONTROLLERS (R20 to R22, R25, R30). What placing, returning, sending and falling idle make of one controller, and
what the events of a line make of the station.
-/
namespace Sys2Proof.Machine

/-! ### The more urgent class (R30) -/

theorem moreUrgent_eq (c d : ReportClass) : moreUrgent c d = if classCode c ≤ classCode d then c else d := by
  cases c <;> cases d <;> rfl

/-! ### One controller -/

section
variable {c : LineController} {p : Pending}

theorem contend_of_slot (h : c.slot = some p) :
    c.contend = { c with slot := none, inFlight := some p, transmitter := .contending, busy := true } := by
  rw [LineController.contend, h]

theorem place_superseding (p : Pending) {held : Pending} (h : c.slot = some held) :
    c.place p = { c with slot := some { p with cls := moreUrgent held.cls p.cls }, superseded := c.superseded + 1 } := by
  rw [LineController.place, h]

theorem place_busy (p : Pending) (hslot : c.slot = none) (hidle : c.transmitter = .idle) (hbusy : c.busy = true) :
    c.place p = { c with slot := some p, transmitter := .waiting } := by
  simp [LineController.place, hslot, hidle, hbusy]

theorem place_idle (p : Pending) (hslot : c.slot = none) (hidle : c.transmitter = .idle) (hbusy : c.busy = false) :
    c.place p = { c with inFlight := some p, transmitter := .contending, busy := true } := by
  simp [LineController.place, LineController.contend, hslot, hidle, hbusy]

theorem place_beside_flight (p : Pending) (hslot : c.slot = none) (hactive : c.transmitter ≠ .idle) :
    c.place p = { c with slot := some p } := by
  rw [LineController.place, hslot]
  dsimp only
  split
  · exact absurd ‹_› hactive
  · rfl

theorem returnFlight_of_none (h : c.inFlight = none) : c.returnFlight = c := by
  rw [LineController.returnFlight, h]

theorem returnFlight_empty (h : c.inFlight = some p) (hslot : c.slot = none) :
    c.returnFlight = { c with slot := some p, inFlight := none, transmitter := .waiting } := by
  rw [LineController.returnFlight, h, hslot]

theorem returnFlight_superseded (h : c.inFlight = some p) {newest : Pending} (hslot : c.slot = some newest) :
    c.returnFlight = { c with
      slot := some { newest with cls := moreUrgent p.cls newest.cls }, inFlight := none, transmitter := .waiting
      superseded := c.superseded + 1 } := by
  rw [LineController.returnFlight, h, hslot]

theorem frameSent_of_flight (h : c.inFlight = some p) :
    c.frameSent = { c with
      inFlight := none, lastSent := some (p.report.sequence, p.report.restartCount)
      ownFrame := some (encodeFrame p.cls p.poisoned p.report)
      transmitter := if c.slot = none then .idle else .waiting } := by
  rw [LineController.frameSent, h]
  cases c.slot <;> rfl

theorem fallIdle_idle (h : c.inFlight = none) (hidle : c.transmitter = .idle) :
    c.fallIdle = { c with busy := false, ownFrame := none } := by
  simp [LineController.fallIdle, returnFlight_of_none h, hidle]

theorem fallIdle_waiting (h : c.inFlight = none) (hslot : c.slot = some p) (hwaiting : c.transmitter = .waiting) :
    c.fallIdle = { c with
      slot := none, inFlight := some p, transmitter := .contending, busy := true, ownFrame := none } := by
  simp [LineController.fallIdle, returnFlight_of_none h, hwaiting, LineController.contend, hslot]

end

/-! ### Events at one controller (R20, R21) -/

theorem withLine_withLine (s : State) (l : Line) (c d : LineController) :
    (s.withLine l c).withLine l d = s.withLine l d := by cases l <;> rfl

theorem completes_arbitrationLost {s : State} (h : s.power.running = true) (l : Line) :
    completes (.arbitrationLost l) s (s.withLine l (s.line l).returnFlight) := if_pos h

theorem completes_frameSent {s : State} (h : s.power.running = true) (l : Line) :
    completes (.frameSent l) s (s.withLine l (s.line l).frameSent) := if_pos h

/-- Settles O15: the controller's flight ends by R21, and the event touches that controller alone. -/
theorem frameSentEndsTheFlight : Obligations.FrameSentEndsTheFlight := by
  intro l s p hs hflight _
  rw [← frameSent_of_flight hflight]
  exact completes_frameSent hs l

/-- Settles O16: each form of returning and of placing by the slot that it meets. -/
theorem slotsKeepTheNewestReport : Obligations.SlotsKeepTheNewestReport := by
  refine ⟨fun l s p hs hflight => ⟨fun hslot => ?_, fun newest hslot => ?_⟩, fun c p =>
    ⟨fun held hslot => ?_, place_busy p, place_idle p, place_beside_flight p⟩⟩
  · rw [← returnFlight_empty hflight hslot]
    exact completes_arbitrationLost hs l
  · rw [← moreUrgent_eq, ← returnFlight_superseded hflight hslot]
    exact completes_arbitrationLost hs l
  · rw [← moreUrgent_eq]
    exact place_superseding p hslot

/-! ### A CRC failure (R22) -/

/-- R22: the frame is counted on the line that has fallen idle, and hands nothing on. -/
theorem frameEnds_crcFailure (s : State) (l : Line) {frame : List Byte} (h : classify frame = .crcFailure) :
    s.frameEnds l frame =
      s.withLine l { (s.line l).fallIdle with crcFailures := (s.line l).fallIdle.crcFailures + 1 } := by
  rw [State.frameEnds, h]
  change State.countCrc _ l = _
  rw [State.countCrc, line_withLine, withLine_withLine]

/-- Settles O17: the count falls on the line that has fallen idle, empty or with its report contending. -/
theorem crcFailureIsCountedAlone : Obligations.CrcFailureIsCountedAlone := by
  intro l s frame hs hcrc hflight
  have hends : completes (.frameReceived l frame) s (s.frameEnds l frame) := completes_frameReceived hs
  rw [frameEnds_crcFailure s l hcrc] at hends
  refine ⟨fun _ hidle => ?_, fun p hslot hwaiting => ?_⟩
  · rwa [fallIdle_idle hflight hidle] at hends
  · rwa [fallIdle_waiting hflight hslot hwaiting] at hends

/-! ### A silent line (R25) -/

theorem Line.other_of_ne {l other : Line} (h : other ≠ l) : l.other = other := by
  revert h
  cases l <;> cases other <;> decide

theorem afterPrecedence_eq (c : LineController) : c.afterPrecedence = { c with
    transmitter := if c.transmitter = .contending then .sending else c.transmitter } := by
  rcases c with ⟨slot, inFlight, transmitter⟩
  cases transmitter <;> rfl

/-- R20: a contention not yet lost is won as the clock moves; nothing else changes at a line. -/
theorem advanceTo_line (s : State) (t : Nat) (l : Line) : (s.advanceTo t).line l = { s.line l with
    transmitter := if s.clock.now < t ∧ (s.line l).transmitter = .contending then .sending
      else (s.line l).transmitter } := by
  unfold State.advanceTo
  split
  · rename_i h
    simp only [h, true_and]
    cases l <;> exact afterPrecedence_eq _
  · rename_i h
    simp only [h, false_and, if_false]

theorem advanceTo_eq (s : State) (t : Nat) :
    s.advanceTo t = (s.withClock (s.advanceTo t).clock).withLines (s.advanceTo t).lines := by
  unfold State.advanceTo
  split <;> rfl

theorem advanceTo_panel (s : State) (t : Nat) : (s.advanceTo t).panel = s.panel := by
  rw [advanceTo_eq]
  rfl

/-- R25: the fault of a line that stood, or was silent while the other was not. -/
theorem judgeSilence_stands (s : State) (l : Line) : (s.judgeSilence l).stands (.lineFault l) =
    (s.stands (.lineFault l) ||
      decide (Config.lineSilentMs ≤ s.silenceOf l ∧ s.silenceOf l.other < Config.lineSilentMs)) := by
  unfold State.judgeSilence
  split
  · rename_i h
    rw [raiseFault_stands, decide_eq_true h, Bool.or_true]
  · rename_i h
    rw [decide_eq_false h, Bool.or_false]

theorem judgeSilence_eq (s : State) (l : Line) :
    s.judgeSilence l = (s.withPanel (s.judgeSilence l).panel).withComposer (s.judgeSilence l).composer := by
  unfold State.judgeSilence
  split
  · exact (raiseFault_move s _ _).frame
  · rfl

/-- Settles O21: at the moment of the expiry the line is silent, so that its fault hangs on the other line alone. -/
theorem silentLineIsFaultedBesideALiveOne : Obligations.SilentLineIsFaultedBesideALiveOne := by
  intro l other s hs hother
  let t := s.advanceTo ((s.line l).silenceSince + 3000)
  have hclock : t.clock = { s.clock with now := max s.clock.now ((s.line l).silenceSince + 3000) } := advanceTo_clock s _
  have hstands : t.stands (.lineFault l) = s.stands (.lineFault l) := by rw [State.stands, advanceTo_panel, State.stands]
  have hsilence (x : Line) : t.silenceOf x = t.clock.now - (s.line x).silenceSince := by
    rw [State.silenceOf, advanceTo_line]
  have hsilent : Config.lineSilentMs ≤ t.silenceOf l := by
    rw [hsilence, hclock, Config.lineSilentMs]
    dsimp only
    omega
  have hmove : Move [] t (t.judgeSilence l) := judgeSilence_move t l
  have hclock' := hmove.clock (by decide)
  have hlines' := hmove.lines (by decide)
  have hfault : (Config.lineSilentMs ≤ t.silenceOf l ∧ t.silenceOf l.other < Config.lineSilentMs) ↔
      (t.judgeSilence l).clock.now - (s.line other).silenceSince < 3000 := by
    rw [and_iff_right hsilent, Line.other_of_ne hother, hsilence, hclock', Config.lineSilentMs]
  refine ⟨t.judgeSilence l, if_pos hs, hclock'.trans hclock, ?_, ?_⟩
  · rw [judgeSilence_stands, hstands, decide_eq_decide.mpr hfault]
  · rw [hclock', hlines', ← advanceTo_eq s _]
    exact judgeSilence_eq t l

end Sys2Proof.Machine
end

section
/-!
COMPOSITION (R26 to R31). The class of a report, what one composition makes of the station, and when the commands of the
Report Composer make it.
-/
namespace Sys2Proof.Machine

/-! ### The class (R28) -/

section
variable {previous report : Report}

theorem classOf_urgent (h : report.alarm ≠ previous.alarm ∨ report.curtain ≠ previous.curtain) :
    classOf (some previous) report = .urgent := if_pos h

/-- The sequence numbers apart, two reports agree whichever of the two lends its number. -/
theorem sequence_lent_iff :
    { report with sequence := previous.sequence } = previous ↔ report = { previous with sequence := report.sequence } := by
  constructor
  · intro h
    rw [← h]
  · intro h
    rw [h]

theorem classOf_below_urgent (halarm : report.alarm = previous.alarm) (hcurtain : report.curtain = previous.curtain) :
    classOf (some previous) report =
      if report = { previous with sequence := report.sequence } then .routine else .prompt := by
  have hsame : ¬(report.alarm ≠ previous.alarm ∨ report.curtain ≠ previous.curtain) := by simp [halarm, hcurtain]
  rw [classOf, if_neg hsame, ite_not]
  simp only [sequence_lent_iff]

end

/-! ### The check (R31) -/

theorem setFault_of_stands {s : State} {key : FaultKey} {standing : Bool} (h : s.stands key = standing)
    (detail : FaultDetail) : s.setFault key detail standing = s := by
  subst h
  cases hk : s.stands key with
  | true => exact if_pos hk
  | false => exact if_neg (Bool.eq_false_iff.mp hk)

/-- A check leaves the composer, its pending change apart. -/
theorem Marked.eq_pending {c d : Composer} (h : Marked c d) : d = { c with changePending := d.changePending } := by
  rcases h with rfl | rfl <;> rfl

/-! ### One composition (R26, R29, R30) -/

/-- A composition before COMPOSER CHECK follows its check: the report is taken and both slots hold it. -/
def State.slotsFilled (s : State) (idle : Option Line) : State :=
  ((s.withComposer { s.composer with
    sequence := s.composer.sequence + 1, changePending := false, image := some s.composed.report
    composedAt := s.clock.now }).withLines ⟨s.placed idle .a, s.placed idle .b⟩).withDraws (s.draws + 1)

section
variable (s : State) (idle : Option Line)

theorem composeAt_eq :
    s.composeAt idle = (s.slotsFilled idle).setFault .composerCheck .none s.composed.poisoned := rfl

theorem composeAt_fault : FaultMove .composerCheck (s.slotsFilled idle) (s.composeAt idle) := setFault_move _ _ _ _

theorem composeAt_move : Move [] (s.slotsFilled idle) (s.composeAt idle) := (composeAt_fault s idle).move

theorem composeAt_stands : (s.composeAt idle).stands .composerCheck = s.composed.poisoned := setFault_stands _ _ _ _

theorem composeAt_clock : (s.composeAt idle).clock = s.clock := (composeAt_move s idle).clock (by decide)

theorem composeAt_composer : (s.composeAt idle).composer = { s.composer with
    sequence := s.composer.sequence + 1, image := some s.composed.report, composedAt := s.clock.now
    changePending := (s.composeAt idle).composer.changePending } :=
  (composeAt_fault s idle).composer.eq_pending

theorem composeAt_line (l : Line) : (s.composeAt idle).line l = s.placed idle l := by
  rw [State.line, (composeAt_move s idle).lines (by decide)]
  cases l <;> rfl

/-- Composer, lines, panel and the counter of draws are all that a composition touches. -/
theorem composeAt_frame : s.composeAt idle =
    (((s.withComposer (s.composeAt idle).composer).withLines (s.composeAt idle).lines).withPanel
      (s.composeAt idle).panel).withDraws (s.draws + 1) := by
  rw [(composeAt_move s idle).lines (by decide)]
  exact (composeAt_fault s idle).frame

/-- A composition whose check changes nothing leaves no change pending and no entry. -/
theorem composeAt_unchanged (h : s.stands .composerCheck = s.composed.poisoned) :
    (s.composeAt idle).composer.changePending = false ∧ (s.composeAt idle).panel = s.panel := by
  have hfilled : (s.slotsFilled idle).stands .composerCheck = s.composed.poisoned := h
  rw [composeAt_eq, setFault_of_stands hfilled]
  exact ⟨rfl, rfl⟩

/-- R20: a line that falls idle at the composition carries no other station's frame. -/
theorem composeAt_idleLine (l : Line) : (s.composeAt (some l)).line l = (s.line l).place s.composed := by
  rw [composeAt_line, State.placed, LineController.sense]
  simp

/-- The 50 ms count anew from a composition, so none follows it at its own moment. -/
theorem settle_composeAt : (s.composeAt idle).settle = s.composeAt idle := by
  have hcomposed : (s.composeAt idle).composer.composedAt = s.clock.now := by rw [composeAt_composer]
  have hspacing : ¬(s.composeAt idle).composer.composedAt + Config.spacingMs ≤ (s.composeAt idle).clock.now := by
    rw [hcomposed, composeAt_clock, Config.spacingMs]
    omega
  rw [settle_eq, State.settleAt, decide_eq_false hspacing, Bool.and_false, if_neg Bool.false_ne_true]

end

/-! ### The commands of the Report Composer (R26) -/

theorem advanceTo_composer (s : State) (t : Nat) : (s.advanceTo t).composer = s.composer := by
  rw [advanceTo_eq]
  rfl

/-- A report is gathered and checked alike at whatever running time. -/
theorem advanceTo_composed (s : State) (t : Nat) : (s.advanceTo t).composed = s.composed := by
  unfold State.advanceTo
  split <;> rfl

theorem exec_routineComposition {s : State} (h : s.power.running = true) :
    exec .routineComposition s = .next ((s.advanceTo (s.composer.composedAt + 1000)).composeAt none) := by
  rw [← settle_composeAt]
  exact if_pos h

theorem exec_composeSpacingExpiry {s : State} (h : s.power.running = true) (hpending : s.composer.changePending = true) :
    exec .composeSpacingExpiry s = .next ((s.advanceTo (s.composer.composedAt + 50)).composeAt none) := by
  let t := s.advanceTo (s.composer.composedAt + 50)
  have hcomposer : t.composer = s.composer := advanceTo_composer s _
  have hclock : t.clock = { s.clock with now := max s.clock.now (s.composer.composedAt + 50) } := advanceTo_clock s _
  have hdue : t.composer.composedAt + Config.spacingMs ≤ t.clock.now := by
    rw [hcomposer, hclock, Config.spacingMs]
    exact Nat.le_max_right _ _
  have hsettle : t.settle = t.composeAt none := by
    rw [settle_eq, State.settleAt, decide_eq_true hdue, hcomposer, hpending, Bool.and_true, if_pos rfl]
  have hexec : exec .composeSpacingExpiry s = .next t.settle := by
    change whenRunning s _ = _
    simp only [whenRunning, h, hpending, if_true]
    rfl
  rw [hexec, hsettle]

/-- R26: either composition command composes once its time has passed. -/
theorem exec_composition {c : Instr} {s : State} {wait : Nat} (hs : s.power.running = true)
    (hc : c = .routineComposition ∧ wait = 1000 ∨
      c = .composeSpacingExpiry ∧ wait = 50 ∧ s.composer.changePending = true) :
    exec c s = .next ((s.advanceTo (s.composer.composedAt + wait)).composeAt none) := by
  rcases hc with ⟨rfl, rfl⟩ | ⟨rfl, rfl, hpending⟩
  · exact exec_routineComposition hs
  · exact exec_composeSpacingExpiry hs hpending

/-! ### A composition once its time has passed -/

theorem composed_sequence (s : State) : s.composed.report.sequence = s.composer.sequence := by
  unfold State.composed
  dsimp only
  split <;> rfl

section
variable (s : State) (t : Nat)

/-- R20: a contention not yet lost is won as the clock moves, and the line is then read for another station's frame. -/
theorem advanceTo_placed (l : Line) : (s.advanceTo t).placed none l = ({ s.line l with
    transmitter := if s.clock.now < max s.clock.now t ∧ (s.line l).transmitter = .contending then .sending
      else (s.line l).transmitter
    busy := (s.line l).busy || Config.carriesFrame s.draws l } : LineController).place s.composed := by
  have hmoves : s.clock.now < max s.clock.now t ↔ s.clock.now < t := by simp
  have hdraws : (s.advanceTo t).draws = s.draws := (advanceTo_moved s t).draws (by decide)
  rw [State.placed, advanceTo_composed, advanceTo_line, LineController.sense, hdraws]
  simp only [hmoves]
  rfl

/-- The frame of the clock's move and of the composition together. -/
theorem advanceTo_composeAt_frame (idle : Option Line) :
    let u := (s.advanceTo t).composeAt idle
    u = ((((s.withComposer u.composer).withClock u.clock).withLines u.lines).withPanel u.panel).withDraws
      (s.draws + 1) := by
  dsimp only
  have hdraws : (s.advanceTo t).draws = s.draws := (advanceTo_moved s t).draws (by decide)
  have hframe := composeAt_frame (s.advanceTo t) idle
  generalize (s.advanceTo t).composeAt idle = u at hframe ⊢
  rw [hdraws, advanceTo_eq s t] at hframe
  rw [hframe]
  rfl

end

/-- Settles O22: the class by R28, the line that falls idle, and the composition that both commands come to. -/
theorem compositionFillsBothSlots : Obligations.CompositionFillsBothSlots := by
  refine ⟨fun previous report => ⟨classOf_urgent, classOf_below_urgent, rfl⟩, fun s l => composeAt_idleLine s l,
    fun c s wait hs hc => ?_⟩
  let t := s.advanceTo (s.composer.composedAt + wait)
  have hcomposer : t.composer = s.composer := advanceTo_composer s _
  have hcomposed : t.composed = s.composed := advanceTo_composed s _
  have hclock : t.clock = { s.clock with now := max s.clock.now (s.composer.composedAt + wait) } := advanceTo_clock s _
  have hpanel : t.panel = s.panel := advanceTo_panel s _
  have htaken := composeAt_composer t none
  rw [hcomposer, hcomposed, hclock] at htaken
  refine ⟨t.composeAt none, exec_composition hs hc, composed_sequence s, htaken, (composeAt_clock t none).trans hclock,
    fun l => (composeAt_line t none l).trans (advanceTo_placed s _ l),
    (composeAt_stands t none).trans (congrArg Pending.poisoned hcomposed), fun hchecked => ?_,
    advanceTo_composeAt_frame s _ none⟩
  rw [← hpanel]
  refine composeAt_unchanged t none ?_
  rw [State.stands, hpanel, hcomposed]
  exact hchecked

end Sys2Proof.Machine
end

section
/-!
PEER RECORDS (R34, R50). A step rewrites a record in its place, or sets the records anew for the number that its start
takes: either way one record stands for each station number but the own.
-/
namespace Sys2Proof.Machine

/-! ### Records kept -/

/-- From `s` to `t` the records stay those of R34, and a station number never comes to have two. -/
structure KeepsPeers (s t : State) : Prop where
  complete : s.peersComplete → t.peersComplete
  oneEach : s.peers.oneEach → t.peers.oneEach

namespace KeepsPeers

variable {s t u : State}

theorem refl (s : State) : KeepsPeers s s := ⟨id, id⟩

theorem trans (h : KeepsPeers s t) (h' : KeepsPeers t u) : KeepsPeers s u :=
  ⟨h'.complete ∘ h.complete, h'.oneEach ∘ h.oneEach⟩

theorem ite {c : Prop} [Decidable c] (h : KeepsPeers s t) (h' : KeepsPeers s u) :
    KeepsPeers s (if c then t else u) := by
  split <;> assumption

theorem foldl {α : Type} {f : State → α → State} (h : ∀ t x, KeepsPeers t (f t x)) (xs : List α) (s : State) :
    KeepsPeers s (xs.foldl f s) := by
  induction xs generalizing s with
  | nil => exact refl s
  | cons x xs ih => exact (h s x).trans (ih _)

/-- The own number and the numbers of the records decide both laws. -/
theorem of_stations (hown : t.own = s.own)
    (h : t.peers.records.map (·.station) = s.peers.records.map (·.station)) : KeepsPeers s t := by
  constructor
  · unfold State.peersComplete
    rw [h, hown]
    exact id
  · unfold PeerTable.oneEach
    rw [h]
    exact id

theorem of_peers_eq (hown : t.own = s.own) (h : t.peers = s.peers) : KeepsPeers s t := of_stations hown (by rw [h])

/-- R50: records set anew owe nothing to the ones before. -/
theorem of_complete (h : t.peersComplete) : KeepsPeers s t := ⟨fun _ => h, fun _ => oneEach_of_peersComplete h⟩

end KeepsPeers

theorem Within.keepsPeers {ps : List Part} {s t : State} (h : Within ps s t) (hs : .station ∉ ps) (hp : .peers ∉ ps) :
    KeepsPeers s t :=
  .of_peers_eq (congrArg (·.config.number) (h .station hs)) (h .peers hp)

theorem Move.keepsPeers {ps : List Part} {s t : State} (h : Move ps s t) (hs : .station ∉ ps) (hp : .peers ∉ ps) :
    KeepsPeers s t :=
  h.within.keepsPeers hs hp

theorem FaultMove.keepsPeers {key : FaultKey} {s t : State} (h : FaultMove key s t) : KeepsPeers s t :=
  (h.move (ps := [])).keepsPeers (by decide) (by decide)

/-! ### The Peer Table -/

section
variable (s : State)

/-- A record is replaced under its own number. -/
theorem withPeer_keepsPeers (r : PeerRecord) : KeepsPeers s (s.withPeer r) := by
  refine .of_stations rfl ?_
  change (s.peers.records.map fun x => if x.station = r.station then r else x).map (·.station) = _
  rw [List.map_map]
  refine List.map_congr_left fun x _ => ?_
  by_cases hx : x.station = r.station <;> simp [hx]

theorem withDuplicateTimer_keepsPeers (timer : Option Nat) :
    KeepsPeers s (s.withPeers { s.peers with duplicateTimer := timer }) := .of_stations rfl rfl

theorem setMismatchWarning_keepsPeers (r : PeerRecord) (mismatch : Bool) :
    KeepsPeers s (s.setMismatchWarning r mismatch) :=
  .ite (.refl s) ((withPeer_keepsPeers s _).trans (.of_stations rfl rfl))

theorem acceptRecord_keepsPeers (r : PeerRecord) (report : Report) (missed : Nat) :
    KeepsPeers s (s.acceptRecord r report missed) :=
  (withPeer_keepsPeers s _).trans <| (judgeDegraded_fault _ _ _).keepsPeers.trans <|
    (judgeUnauthorised_fault _ report).keepsPeers.trans <| (setMismatchWarning_keepsPeers _ _ _).trans <|
    (clearFault_move _ _).keepsPeers.trans (judgeConflict_fault _).keepsPeers

theorem accept_keepsPeers (r : PeerRecord) (report : Report) (missed : Nat) (resync : Bool) :
    KeepsPeers s (s.accept r report missed resync) :=
  (acceptRecord_keepsPeers s r report missed).trans
    ((acceptNotices_move _ _ _ _).keepsPeers (by decide) (by decide))

theorem judgeSequence_keepsPeers (r : PeerRecord) (report : Report) : KeepsPeers s (s.judgeSequence r report) :=
  .ite (withPeer_keepsPeers s _) (.ite (accept_keepsPeers s _ _ _ _) (.refl s))

theorem duplicateSeen_keepsPeers : KeepsPeers s s.duplicateSeen :=
  (raiseFault_move s _ _).keepsPeers.trans (withDuplicateTimer_keepsPeers _ _)

theorem takeReport_keepsPeers (note : Option (Byte × Byte)) (report : Report) :
    KeepsPeers s (s.takeReport note report) := by
  unfold State.takeReport
  refine .ite (.ite (.refl s) (duplicateSeen_keepsPeers s)) ?_
  split
  · exact .refl s
  · exact .ite (accept_keepsPeers s _ _ _ _) (judgeSequence_keepsPeers s _ _)

theorem poisonedNotice_keepsPeers (n : Nat) : KeepsPeers s (s.poisonedNotice n) := by
  unfold State.poisonedNotice
  refine .ite (duplicateSeen_keepsPeers s) ?_
  split
  · exact withPeer_keepsPeers s _
  · exact .refl s

theorem silenceRecord_keepsPeers (r : PeerRecord) : KeepsPeers s (s.silenceRecord r) :=
  (withPeer_keepsPeers s _).trans <| (raiseFault_move _ _ _).keepsPeers.trans <|
    (setMismatchWarning_keepsPeers _ _ _).trans (judgeConflict_fault _).keepsPeers

theorem endJoining_keepsPeers : KeepsPeers s s.endJoining :=
  .of_peers_eq (congrArg (·.config.number) (endJoining_station s)) ((endJoining_move s).peers (by decide))

/-! ### A frame (R22) -/

theorem handReport_keepsPeers (l : Line) (report : Report) : KeepsPeers s (s.handReport l report) :=
  .ite (takeReport_keepsPeers s _ _) (.refl s)

theorem handPoisoned_keepsPeers (n : Nat) : KeepsPeers s (s.handPoisoned n) :=
  .ite (poisonedNotice_keepsPeers s n) (.refl s)

theorem lineMove_keepsPeers {s t : State} (h : Move [.lines] s t) : KeepsPeers s t :=
  h.keepsPeers (by decide) (by decide)

theorem classified_keepsPeers (l : Line) (own : Bool) (verdict : FrameVerdict) :
    KeepsPeers s (s.classified l own verdict) := by
  have hcrc : KeepsPeers s (s.countCrc l) := lineMove_keepsPeers (withLine_move s (by decide) l _)
  have hpoisoned (n : Nat) : KeepsPeers s ((s.credit l).handPoisoned n) :=
    (lineMove_keepsPeers (credit_move s l)).trans (handPoisoned_keepsPeers _ n)
  cases verdict with
  | crcFailure => exact hcrc
  | formatFailure n => exact .ite (hpoisoned n) hcrc
  | poisoned n => exact .ite (.refl s) (hpoisoned n)
  | good report =>
    exact .ite (handReport_keepsPeers s l report)
      ((lineMove_keepsPeers (goodLine_move s l)).trans (handReport_keepsPeers _ l report))

theorem frameEnds_keepsPeers (l : Line) (frame : List Byte) : KeepsPeers s (s.frameEnds l frame) :=
  (lineMove_keepsPeers (withLine_move s (by decide) l _)).trans (classified_keepsPeers _ l _ _)

/-! ### Node time (R41, R184) -/

theorem second_keepsPeers : KeepsPeers s s.second := by
  have hclock (t : Nat) (x : Clock) : KeepsPeers s ((s.advanceTo t).withClock x) :=
    ((advanceTo_moved s t).trans (withClock_move _ (by decide) x)).keepsPeers (by decide) (by decide)
  have hcount (t : State) : KeepsPeers t t.advanceNodeTime := .ite (.of_stations rfl rfl) (.of_stations rfl rfl)
  exact (hclock _ _).trans (hcount _)

theorem leakRecord_keepsPeers (r : PeerRecord) : KeepsPeers s (s.leakRecord r) :=
  .ite ((withPeer_keepsPeers s _).trans (judgeDegraded_fault _ _ _).keepsPeers) (.refl s)

theorem leak_keepsPeers : KeepsPeers s s.leak := .ite (.foldl leakRecord_keepsPeers _ s) (.refl s)

theorem blocksCount_keepsPeers (wasProven : Bool) : KeepsPeers s (s.blocksCount wasProven) := by
  have hbefore : Move phaseParts s ((s.proofAges wasProven).intervalSecond.countDownWindows).react :=
    (((proofAges_move s _).trans ((intervalSecond_move _).mono (by decide))).trans
      ((countDownWindows_move _).mono (by decide))).trans ((react_move _).mono (by decide))
  unfold State.blocksCount
  exact (hbefore.keepsPeers (by decide) (by decide)).trans <| (leak_keepsPeers _).trans <|
    (realarmReached_move _).keepsPeers (by decide) (by decide)

theorem increment_keepsPeers : KeepsPeers s s.increment :=
  (second_keepsPeers s).trans (blocksCount_keepsPeers _ _)

/-! ### Starts (R34, R50) -/

theorem halt_keepsPeers (power : Power) : KeepsPeers s (s.halt power) := .of_stations rfl rfl

/-- R50: the step that sets the records takes the number with them. -/
theorem setRecords_complete (kind : StartKind) (memory : ConfigMemory) : (s.setRecords kind memory).peersComplete := by
  cases kind <;> exact coldPeers_stations _

theorem stepEffect_keepsPeers (p : StartProgress) (step : StartStep) : KeepsPeers s (s.stepEffect p step) := by
  cases step with
  | recordsSet => exact .of_complete (setRecords_complete s p.kind p.memory)
  | valuesTaken => exact (takeValues_move s p.presence).keepsPeers (by decide) (by decide)
  | kindDecided => exact .refl s
  | imageValidated => exact .refl s
  | countFixed => exact .of_stations rfl rfl
  | startLogged => exact .of_stations rfl rfl

theorem makeStep_keepsPeers (p : StartProgress) (s : State) (step : StartStep) :
    KeepsPeers s (State.makeStep p s step) := by
  have hnote (t : State) (power : Power) : KeepsPeers t (t.withPower power) := .of_stations rfl rfl
  exact (stepEffect_keepsPeers s p step).trans (hnote _ _)

theorem makeSteps_keepsPeers (p : StartProgress) (steps : List StartStep) : KeepsPeers s (s.makeSteps p steps) :=
  .foldl (makeStep_keepsPeers p) steps s

theorem completeStart_keepsPeers : KeepsPeers s s.completeStart :=
  have h := completeStart_completion s
  .of_peers_eq (congrArg (·.config.number) h.station) (h.within .peers (by decide))

theorem finishStart_keepsPeers : KeepsPeers s s.finishStart := by
  unfold State.finishStart
  split
  · exact (makeSteps_keepsPeers s _ _).trans (completeStart_keepsPeers _)
  · exact .refl s

theorem start_keepsPeers (kind : StartKind) (memory : ConfigMemory) (presence : PerBay Presence)
    (reached : Option StartStep) : KeepsPeers s (s.start kind memory presence reached) := by
  have hbegin : KeepsPeers s (s.beginStart kind memory presence) := halt_keepsPeers s _
  cases reached with
  | none => exact (hbegin.trans (makeSteps_keepsPeers _ _ _)).trans (completeStart_keepsPeers _)
  | some step => exact hbegin.trans (makeSteps_keepsPeers _ _ _)

end

/-! ### Every command -/

section
variable {s t : State}

theorem keepsPeers_of_next {u : State} (h : KeepsPeers s u) (ht : (Host.Outcome.next u : Result) = .next t) :
    KeepsPeers s t :=
  Host.Outcome.next.inj ht ▸ h

theorem settleAt_keepsPeers (u : State) (idle : Option Line) : KeepsPeers u (u.settleAt idle) :=
  (settleAt_within u idle).keepsPeers (by decide) (by decide)

theorem whenRunning_keepsPeers {effect : State → State} (h : KeepsPeers s (effect s))
    (ht : whenRunning s effect = .next t) : KeepsPeers s t := by
  rcases whenRunning_cases s effect with ⟨-, e⟩ | ⟨-, e⟩ <;> rw [e] at ht
  · exact keepsPeers_of_next (h.trans (settleAt_keepsPeers _ none)) ht
  · exact keepsPeers_of_next (.refl s) ht

theorem whenDue_keepsPeers {due : Bool} (ht : whenDue s due = .next t) : KeepsPeers s t := by
  refine whenRunning_keepsPeers ?_ ht
  exact .ite (increment_keepsPeers s) (.refl s)

theorem frameReceived_keepsPeers {l : Line} {frame : List Byte} (ht : execFrameReceived l frame s = .next t) :
    KeepsPeers s t := by
  rcases execFrameReceived_cases s l frame with ⟨-, e⟩ | ⟨-, e⟩ <;> rw [e] at ht
  · exact keepsPeers_of_next ((frameEnds_keepsPeers s l frame).trans (settleAt_keepsPeers _ _)) ht
  · exact keepsPeers_of_next (.refl s) ht

theorem advanceTo_keepsPeers (u : State) (time : Nat) : KeepsPeers u (u.advanceTo time) :=
  (advanceTo_moved u time).keepsPeers (by decide) (by decide)

theorem duplicateCleared_keepsPeers (ht : execDuplicateStationCleared s = .next t) : KeepsPeers s t := by
  refine whenRunning_keepsPeers ?_ ht
  dsimp only
  split
  · exact ((advanceTo_keepsPeers s _).trans (withDuplicateTimer_keepsPeers _ _)).trans
      (clearFault_move _ _).keepsPeers
  · exact .refl s

theorem peerSilent_keepsPeers {n : Nat} (ht : execPeerSilent n s = .next t) : KeepsPeers s t := by
  refine whenRunning_keepsPeers ?_ ht
  split
  · exact .ite (((advanceTo_keepsPeers s _).trans (silenceRecord_keepsPeers _ _)).trans
      ((silenceNotices_move _ _).keepsPeers (by decide) (by decide))) (.refl s)
  · exact .refl s

theorem endOfJoining_keepsPeers (ht : execEndOfJoining s = .next t) : KeepsPeers s t := by
  refine whenRunning_keepsPeers ?_ ht
  exact .ite ((advanceTo_keepsPeers s _).trans (endJoining_keepsPeers _)) (.refl s)

theorem nodeTimeIncrement_keepsPeers (ht : execNodeTimeIncrement s = .next t) : KeepsPeers s t := by
  unfold execNodeTimeIncrement at ht
  split at ht
  · exact keepsPeers_of_next ((increment_keepsPeers s).trans (settleAt_keepsPeers _ none)) ht
  · split at ht
    · exact keepsPeers_of_next (second_keepsPeers s) ht
    · exact keepsPeers_of_next (.refl s) ht

/-- The beginnings of a start: with RESET asserted or supply away no start runs. -/
theorem beginsStart_keepsPeers {c : Instr} (h : beginsStart c = true) (ht : exec c s = .next t) : KeepsPeers s t := by
  have hpower (power : Power) : KeepsPeers s (s.withPower power) := .of_stations rfl rfl
  cases c with
  | powerOn good memory course =>
    simp only [exec, execPowerOn] at ht
    split at ht
    · exact keepsPeers_of_next (hpower _) ht
    · exact keepsPeers_of_next ((hpower _).trans (start_keepsPeers _ _ _ _ _)) ht
  | supplyDip retain memory course =>
    simp only [exec, execSupplyDip] at ht
    split at ht
    · exact keepsPeers_of_next (hpower _) ht
    · exact keepsPeers_of_next ((hpower _).trans (start_keepsPeers _ _ _ _ _)) ht
  | resetReleased retain memory course =>
    simp only [exec, execResetReleased] at ht
    split at ht
    · exact keepsPeers_of_next ((hpower _).trans (start_keepsPeers _ _ _ _ _)) ht
    · exact keepsPeers_of_next (hpower _) ht
  | _ => exact Bool.noConfusion h

/-- Each command keeps away from the records and the own number, or rewrites records in their place, or begins a start. -/
theorem exec_keepsPeers {c : Instr} (ht : exec c s = .next t) : KeepsPeers s t := by
  by_cases hstart : beginsStart c = true
  · exact beginsStart_keepsPeers hstart ht
  have hstart := Bool.eq_false_iff.mpr hstart
  by_cases hparts : .station ∉ composing ++ touches c ∧ .peers ∉ composing ++ touches c
  · obtain ⟨hstation, hpeers⟩ := hparts
    exact (exec_within c hstart s t ht).keepsPeers hstation hpeers
  cases c with
  | frameReceived l frame => exact frameReceived_keepsPeers ht
  | duplicateStationCleared => exact duplicateCleared_keepsPeers ht
  | peerSilent n => exact peerSilent_keepsPeers ht
  | endOfJoining => exact endOfJoining_keepsPeers ht
  | nodeTimeIncrement => exact nodeTimeIncrement_keepsPeers ht
  | intervalMark mark => exact whenDue_keepsPeers ht
  | intervalTimerExpiry => exact whenDue_keepsPeers ht
  | effectsWindowExpiry z => exact whenDue_keepsPeers ht
  | windowCopyExpiry desk z => exact whenDue_keepsPeers ht
  | realarmWindowEnd => exact whenDue_keepsPeers ht
  | proofExpired => exact whenDue_keepsPeers ht
  | resetAsserted => exact keepsPeers_of_next (halt_keepsPeers s _) ht
  | supplyFall intact => exact keepsPeers_of_next (halt_keepsPeers s _) ht
  | _ => exact absurd (by simp [touches]) hparts

/-- A step is a command, or an idle millisecond in which a start in progress may complete. -/
theorem step_keepsPeers (ht : step s = .next t) : KeepsPeers s t := by
  unfold step at ht
  split at ht
  · exact keepsPeers_of_next ((advanceTo_keepsPeers s _).trans (finishStart_keepsPeers _)) ht
  · next c rest _ =>
    have hrest : KeepsPeers s (s.withPending rest) := .of_stations rfl rfl
    exact hrest.trans (exec_keepsPeers ht)

end

/-- Settles O4: the records of R34 stay, and they hold a number once. -/
theorem everyStepKeepsOneRecordPerPeer : Obligations.EveryStepKeepsOneRecordPerPeer := by
  intro s t ht
  have hkeeps := step_keepsPeers ht
  exact ⟨fun h => ⟨hkeeps.complete h, oneEach_of_peersComplete (hkeeps.complete h)⟩, hkeeps.oneEach⟩

end Sys2Proof.Machine
end

section
/-!
WHAT A FRAME OR A TIMER LEAVES AT THE PEER TABLE (R36, R38, R40, R42). Reports that are accepted nowhere, poisoned
notices, the expiry of the clearing timer, and a peer that falls SILENT.
-/
namespace Sys2Proof.Machine

/-! ### Frames of a state -/

/-- What differs after a change of the clock, the lines and the Peer Table is there, at the panel and in the mark. -/
theorem Move.peerView {s t : State} (h : Move [.clock, .lines, .peers] s t) :
    t = ((((s.withClock t.clock).withLines t.lines).withPeers t.peers).withPanel t.panel).withComposer t.composer := by
  have hpending := h.pending (by decide)
  have hpower := h.power (by decide)
  have hstation := h.station (by decide)
  have hphase := h.phase (by decide)
  have hdetection := h.detection (by decide)
  have halarm := h.alarm (by decide)
  have hcurtain := h.curtain (by decide)
  have hdescent := h.descent (by decide)
  have hlights := h.lights (by decide)
  have hcalls := h.calls (by decide)
  have hbays := h.bays (by decide)
  have hdraws := h.draws (by decide)
  cases t
  subst_vars
  rfl

/-- The same of a change at one line, under a clock that stands. -/
theorem Move.lineView {s t : State} {l : Line} {c : LineController} (h : Move [.lines, .peers] s t)
    (hline : t.lines = s.lines.set l c) :
    t.line l = c ∧
      t = (((s.withLine l (t.line l)).withPeers t.peers).withPanel t.panel).withComposer t.composer := by
  have hc : t.line l = c := by
    rw [State.line, hline]
    exact line_withLine s l c
  refine ⟨hc, ?_⟩
  have hview := (h.mono (qs := [.clock, .lines, .peers]) (by decide)).peerView
  rwa [h.clock (by decide), hline, ← hc] at hview

/-! ### The line that brings the frame (R22, R25) -/

theorem fallIdle_keeps (c : LineController) :
    c.fallIdle.crcFailures = c.crcFailures ∧ c.fallIdle.lastSent = c.lastSent := by
  have hcontend (d : LineController) : d.contend.crcFailures = d.crcFailures ∧ d.contend.lastSent = d.lastSent := by
    unfold LineController.contend
    split <;> exact ⟨rfl, rfl⟩
  have hreturn : c.returnFlight.crcFailures = c.crcFailures ∧ c.returnFlight.lastSent = c.lastSent := by
    unfold LineController.returnFlight
    split <;> exact ⟨rfl, rfl⟩
  obtain ⟨hcrc, hsent⟩ := hreturn
  unfold LineController.fallIdle
  dsimp only
  split
  · obtain ⟨hcrc', hsent'⟩ := hcontend { c.returnFlight with busy := false, ownFrame := none }
    exact ⟨hcrc'.trans hcrc, hsent'.trans hsent⟩
  · exact ⟨hcrc, hsent⟩

theorem credit_lines (s : State) (l : Line) :
    (s.credit l).lines = s.lines.set l { s.line l with silenceSince := s.clock.now } :=
  (judgeSilence_move (ps := []) (s.withLine l { s.line l with silenceSince := s.clock.now }) l.other).lines (by decide)

theorem lines_set_set (s : State) (l : Line) (c d : LineController) :
    (s.withLine l c).lines.set l d = s.lines.set l d := by cases l <;> rfl

/-- The line after a poisoned notice, before its station number is handed on. -/
def State.noticedLine (s : State) (l : Line) : State := (s.withLine l (s.line l).fallIdle).credit l

section
variable (s : State) (l : Line)

theorem noticedLine_move : Move [.lines] s (s.noticedLine l) :=
  (withLine_move s (by decide) _ _).trans (credit_move _ l)

theorem noticedLine_lines :
    (s.noticedLine l).lines = s.lines.set l { (s.line l).fallIdle with silenceSince := s.clock.now } := by
  rw [State.noticedLine, credit_lines, lines_set_set, line_withLine]
  rfl

theorem creditedLine_lines :
    (s.creditedLine l).lines = s.lines.set l { (s.line l).fallIdle with
      goodFrames := (s.line l).fallIdle.goodFrames + 1, silenceSince := s.clock.now } := by
  rw [State.creditedLine, (clearFault_moved (ps := []) _ _).lines (by decide), credit_lines, State.countGood,
    lines_set_set, lines_set_set, line_withLine, line_withLine]
  rfl

variable {s l} {frame : List Byte} {n : Nat}

/-- R22: a poisoned frame of another station and a frame whose form fails both hand on the number that they name. -/
theorem frameEnds_notice (hlow : 1 ≤ n) (hhigh : n ≤ 40)
    (h : classify frame = .poisoned n ∧ (s.line l).ownFrame ≠ some frame ∨ classify frame = .formatFailure n) :
    s.frameEnds l frame = (s.noticedLine l).poisonedNotice n := by
  have hstation : isStation n = true := by simp [isStation, hlow, hhigh]
  have hhand : (s.noticedLine l).handPoisoned n = (s.noticedLine l).poisonedNotice n := if_pos hstation
  rw [← hhand, State.frameEnds]
  rcases h with ⟨hframe, hother⟩ | hframe
  · rw [hframe, beq_eq_false_iff_ne.mpr hother]
    rfl
  · rw [hframe]
    exact if_pos hstation

end

/-! ### What the Peer Table makes of it (R36, R38, R40) -/

section
variable (s : State)

theorem duplicateSeen_peers :
    s.duplicateSeen.peers = { s.peers with duplicateTimer := some (s.clock.now + 10000) } := by
  have hraise := raiseFault_moved (ps := []) s .duplicateStation .none
  unfold State.duplicateSeen
  dsimp only
  rw [hraise.peers (by decide), hraise.clock (by decide)]
  rfl

theorem duplicateSeen_stands : s.duplicateSeen.stands .duplicateStation = true := raiseFault_stands s _ _

variable {s} {n : Nat} {r : PeerRecord}

theorem poisonedNotice_own (h : n = s.own) : s.poisonedNotice n = s.duplicateSeen := if_pos h

theorem poisonedNotice_peer (h : n ≠ s.own) (hpeer : s.peer n = some r) :
    s.poisonedNotice n = s.withPeer { r with poisoned := r.poisoned + 1 } := by
  rw [State.poisonedNotice, if_neg h, hpeer]

theorem withPeer_peers (record : PeerRecord) (h : record.station = n) :
    (s.withPeer record).peers = { s.peers with records := s.peers.records.map fun x =>
      if x.station = n then record else x } := by
  rw [← h]
  rfl

theorem peer_station (hpeer : s.peer n = some r) : r.station = n := by simpa using List.find?_some hpeer

variable {note : Option (Byte × Byte)} {report last : Report}

/-- R38: a heard peer's report of the same restart count is judged by its sequence. -/
theorem takeReport_judged (hown : report.station ≠ s.own) (hpeer : s.peer report.station = some r)
    (hstate : r.state = .joining ∨ r.state = .live) (hlast : r.lastReport = some last)
    (hrestart : report.restartCount = last.restartCount) :
    s.takeReport note report = s.judgeSequence r report ∧
      distance r report = (report.sequence - last.sequence).toNat := by
  have hresync : isResync r report = false := by
    rcases hstate with h | h <;> simp [isResync, h, PeerState.heard, hlast, hrestart]
  exact ⟨by simp [State.takeReport, hown, hpeer, hresync], by simp [distance, hlast]⟩

theorem judgeSequence_duplicate (h : distance r report = 0) :
    s.judgeSequence r report = s.withPeer { r with duplicates := r.duplicates + 1 } := if_pos h

theorem judgeSequence_stale (h : 128 ≤ distance r report) : s.judgeSequence r report = s := by
  rw [State.judgeSequence, if_neg (by omega), if_neg (by omega)]

theorem takeReport_echo (hown : report.station = s.own) (hnote : note = some (report.sequence, report.restartCount)) :
    s.takeReport note report = s := by
  rw [State.takeReport, if_pos hown, if_pos hnote]

theorem takeReport_ownNumber (hown : report.station = s.own)
    (hnote : note ≠ some (report.sequence, report.restartCount)) : s.takeReport note report = s.duplicateSeen := by
  rw [State.takeReport, if_pos hown, if_neg hnote]

end

/-- Settles O18: the notice restarts the silence time of its line, and is taken by the record or by the own number. -/
theorem poisonedNoticeIsCounted : Obligations.PoisonedNoticeIsCounted := by
  intro l s frame n hs hlow hhigh hframe
  have hline := noticedLine_move s l
  have hpeers := hline.peers (by decide)
  have hown : (s.noticedLine l).own = s.own := congrArg (·.config.number) (hline.station (by decide))
  have hnotice := poisonedNotice_move (s.noticedLine l) n
  have hlines := (hnotice.lines (by decide)).trans (noticedLine_lines s l)
  obtain ⟨hl, hview⟩ := ((hline.mono (by decide)).trans (hnotice.mono (by decide))).lineView hlines
  obtain ⟨hcrc, -⟩ := fallIdle_keeps (s.line l)
  refine ⟨_, frameEnds_notice hlow hhigh hframe ▸ completes_frameReceived hs, hview, by rw [hl],
    by rw [hl]; exact fallIdle_goodFrames _, by rw [hl]; exact hcrc, fun hother r hpeer => ?_, fun hsame => ?_⟩
  · have hpeer' : (s.noticedLine l).peer n = some r := by rwa [State.peer, hpeers]
    have hn := peer_station hpeer
    rw [poisonedNotice_peer (hown ▸ hother) hpeer', withPeer_peers { r with poisoned := r.poisoned + 1 } hn, hpeers]
  · rw [poisonedNotice_own (hsame.trans hown.symm), duplicateSeen_peers, hpeers, hline.clock (by decide)]
    exact ⟨rfl, duplicateSeen_stands _⟩

/-! ### Reports that are accepted nowhere (R36, R38) -/

/-- The line has taken the frame: what a report meets when it is handed on. -/
structure Handed (l : Line) (s t : State) : Prop where
  move : Move [.lines] s t
  lines : ∃ c, t.lines = s.lines.set l c
  stands : t.stands .duplicateStation = s.stands .duplicateStation

/-- R22: a good frame, the own one or not, comes to its report with the last-sent note of its line. -/
theorem frameEnds_report {s : State} {l : Line} {frame : List Byte} {report : Report}
    (hframe : classify frame = .good report) (hlow : 1 ≤ report.station) (hhigh : report.station ≤ 40) :
    ∃ t, Handed l s t ∧ s.frameEnds l frame = t.takeReport (s.line l).lastSent report := by
  have hstation : isStation report.station = true := by simp [isStation, hlow, hhigh]
  obtain ⟨-, hsent⟩ := fallIdle_keeps (s.line l)
  by_cases hother : (s.line l).ownFrame = some frame
  · refine ⟨s.withLine l (s.line l).fallIdle, ⟨withLine_move s (by decide) _ _, ⟨_, rfl⟩, rfl⟩, ?_⟩
    rw [State.frameEnds, hframe, beq_iff_eq.mpr hother, ← hsent]
    change State.handReport _ _ _ = _
    rw [State.handReport, if_pos hstation, line_withLine]
  · refine ⟨s.creditedLine l, ⟨creditedLine_move s l, ⟨_, creditedLine_lines s l⟩, creditedLine_stands s l nofun⟩, ?_⟩
    obtain ⟨hl, -⟩ := ((creditedLine_move s l).mono (by decide)).lineView (creditedLine_lines s l)
    rw [frameEnds_good hframe hother hlow hhigh, hl, ← hsent]

/-- A report whose taking touches the Peer Table alone leaves all but the line, the records, the panel and the mark. -/
theorem Handed.completes {l : Line} {s t u : State} {frame : List Byte} (h : Handed l s t)
    (hs : s.power.running = true) (hends : s.frameEnds l frame = u) (hu : Move [.peers] t u) :
    completes (.frameReceived l frame) s u ∧
      u = (((s.withLine l (u.line l)).withPeers u.peers).withPanel u.panel).withComposer u.composer := by
  obtain ⟨c, hc⟩ := h.lines
  obtain ⟨-, hview⟩ := ((h.move.mono (by decide)).trans (hu.mono (by decide))).lineView
    ((hu.lines (by decide)).trans hc)
  exact ⟨hends ▸ completes_frameReceived hs, hview⟩

/-- Settles O19: what the line hands on is a duplicate, stale, the own echo, or a report under the own number. -/
theorem discardedReportLeavesTheRecord : Obligations.DiscardedReportLeavesTheRecord := by
  intro l s frame report hs hframe hlow hhigh discarded
  obtain ⟨t, hhanded, hends⟩ := frameEnds_report (s := s) (l := l) hframe hlow hhigh
  have hpeers := hhanded.move.peers (by decide)
  have hown : t.own = s.own := congrArg (·.config.number) (hhanded.move.station (by decide))
  have hleft (h : t.takeReport (s.line l).lastSent report = t) :
      discarded s.peers (s.stands .duplicateStation) := by
    obtain ⟨hcompletes, hview⟩ := hhanded.completes hs (hends.trans h) (.refl _ t)
    exact ⟨t, hcompletes, hpeers, hhanded.stands, hview⟩
  refine ⟨fun r last hother hpeer hstate hlast hrestart => ?_, fun hsame hnote => ?_, fun hsame hnote => ?_⟩
  · have hpeer' : t.peer report.station = some r := by rwa [State.peer, hpeers]
    obtain ⟨htake, hdistance⟩ :=
      takeReport_judged (s := t) (note := (s.line l).lastSent) (hown ▸ hother) hpeer' hstate hlast hrestart
    refine ⟨fun hsequence => ?_, fun hfar => hleft (htake.trans (judgeSequence_stale (hdistance ▸ hfar)))⟩
    have hduplicate := htake.trans (judgeSequence_duplicate (by rw [hdistance, hsequence]; simp))
    obtain ⟨hcompletes, hview⟩ := hhanded.completes hs (hends.trans hduplicate) (withPeer_move t (by decide) _)
    refine ⟨_, hcompletes, ?_, hhanded.stands, hview⟩
    have hn := station_of_peer s hpeer
    rw [withPeer_peers { r with duplicates := r.duplicates + 1 } hn, hpeers]
  · exact hleft (takeReport_echo (hsame.trans hown.symm) hnote)
  · have hseen := takeReport_ownNumber (hsame.trans hown.symm) hnote
    obtain ⟨hcompletes, hview⟩ := hhanded.completes hs (hends.trans hseen) (duplicateSeen_move t)
    refine ⟨_, hcompletes, ?_, duplicateSeen_stands t, hview⟩
    rw [duplicateSeen_peers, hpeers, hhanded.move.clock (by decide)]

/-! ### The clearing timer (R36) -/

theorem completes_duplicateStationCleared {s : State} {expiry : Nat} (hs : s.power.running = true)
    (htimer : s.peers.duplicateTimer = some expiry) :
    completes .duplicateStationCleared s
      (((s.advanceTo expiry).withPeers { (s.advanceTo expiry).peers with duplicateTimer := none }).clearFault
        .duplicateStation) := by
  rw [completes_iff s rfl]
  change execDuplicateStationCleared s = _
  rw [execDuplicateStationCleared, whenRunning, if_pos hs, htimer]

/-- Settles O23: the clock comes to the expiry, and the timer and the fault go. -/
theorem duplicateStationClearsAfterTenSeconds : Obligations.DuplicateStationClearsAfterTenSeconds := by
  intro s expiry hs htimer
  have hclock := advanceTo_moved s expiry
  have hclear (t : State) : Move [] t (t.clearFault .duplicateStation) := clearFault_moved t _
  refine ⟨_, completes_duplicateStationCleared hs htimer, ?_, clearFault_stands _ _, ?_, ?_⟩
  · rw [(hclear _).peers (by decide), State.withPeers_peers, hclock.peers (by decide)]
  · rw [(hclear _).clock (by decide), State.withPeers_clock, advanceTo_clock]
  · exact (((hclock.mono (by decide)).trans (withPeers_move _ (by decide) _)).trans
      ((hclear _).mono (by decide))).peerView

/-! ### Silence (R42) -/

section
variable (s : State)

theorem lightsSilence_reacts (station : Nat) : Reacts s (s.lightsSilence station) :=
  .ite ((withLights_reacts s _).trans (recomputeTargets_reacts _ _)) (.refl s)

theorem silenceNotices_reacts (station : Nat) : Reacts s (s.silenceNotices station) :=
  ((review_reacts s).trans (detectionPeer_reacts _ _)).trans (lightsSilence_reacts _ _)

theorem silenceRecord_peers (r : PeerRecord) :
    (s.silenceRecord r).peers = { s.peers with records := s.peers.records.map fun x =>
      if x.station = r.station then { r with state := .silent, mismatch := false } else x } := by
  have hraised : ((s.withPeer { r with state := .silent }).raiseFault (.peerSilent r.station) .none).peers =
      (s.withPeer { r with state := .silent }).peers := (raiseFault_moved (ps := []) _ _ _).peers (by decide)
  rw [State.silenceRecord, (judgeConflict_move (ps := []) _).peers (by decide),
    setMismatchWarning_peers (r := { r with state := .silent }) (records := s.peers.records) (by rw [hraised]; rfl),
    hraised]
  rfl

theorem silenceRecord_stands (r : PeerRecord) : (s.silenceRecord r).stands (.peerSilent r.station) = true := by
  rw [State.silenceRecord, (judgeConflict_fault _).stands_other (other := .peerSilent r.station) nofun,
    setMismatchWarning_stands, raiseFault_stands]

end

theorem completes_peerSilent {s : State} {n : Nat} {r : PeerRecord} (hs : s.power.running = true)
    (hpeer : s.peer n = some r) (hstate : r.state = .joining ∨ r.state = .live) :
    completes (.peerSilent n) s (((s.advanceTo (r.acceptedMs + 3500)).silenceRecord r).silenceNotices n) := by
  have hheard : r.state.heard = true := by rcases hstate with h | h <;> rw [h] <;> rfl
  rw [completes_iff s rfl]
  change execPeerSilent n s = _
  rw [execPeerSilent, whenRunning, if_pos hs, hpeer]
  dsimp only
  rw [if_pos hheard]
  rfl

/-- Settles O24: the record is silenced with its fault, and the readers of the silence leave both. -/
theorem peerFallsSilent : Obligations.PeerFallsSilent := by
  intro n s r hs hpeer hstate
  have hn := peer_station hpeer
  have hclock := advanceTo_moved s (r.acceptedMs + 3500)
  have hrecord := silenceRecord_move (s.advanceTo (r.acceptedMs + 3500)) r
  have hnotices (t : State) := silenceNotices_move t n
  have hbefore := (hclock.mono (qs := [.clock, .lines, .peers]) (by decide)).trans (hrecord.mono (by decide))
  have hmove : Move ([.clock, .lines, .peers] ++ alarmParts) s _ :=
    (hbefore.mono (by decide)).trans ((hnotices _).mono (by decide))
  refine ⟨_, completes_peerSilent hs hpeer hstate, ?_, ?_, ?_, hmove.pending (by decide), hmove.power (by decide),
    hmove.station (by decide), hmove.phase (by decide), ?_⟩
  · rw [(hnotices _).peers (by decide), silenceRecord_peers, hclock.peers (by decide), hn]
  · rw [(silenceNotices_reacts _ n).stands _ rfl, ← hn]
    exact silenceRecord_stands _ r
  · rw [(hnotices _).clock (by decide), hrecord.clock (by decide), advanceTo_clock]
  · rw [(silenceNotices_reacts _ n).generation, hbefore.alarm (by decide)]

end Sys2Proof.Machine
end

section
/-!
ZONE RECORDS AND THEIR EVALUATION (R52, R56 to R58, R61). How the record of a zone is found and replaced, and what one
evaluation makes of it, of the other zones and of ZONE FAULT.
-/
namespace Sys2Proof.Machine

/-! ### Records -/

section
variable {s : State} {z : Nat} {r record : ZoneRecord}

theorem zone_number (h : s.zone z = some r) : r.zone = z := by simpa using List.find?_some h

theorem zone_mem (h : s.zone z = some r) : r ∈ s.detection.zones := List.mem_of_find?_eq_some h

/-- The records that stand under a number; a station has one for each own zone. -/
def State.recordsOf (s : State) (z : Nat) : List ZoneRecord := s.detection.zones.filter (·.zone == z)

theorem zone_eq_head? (s : State) (z : Nat) : s.zone z = (s.recordsOf z).head? := (List.head?_filter ..).symm

theorem mem_recordsOf : r ∈ s.recordsOf z ↔ r ∈ s.detection.zones ∧ r.zone = z := by simp [State.recordsOf]

theorem recordsOf_withZone_of_ne (h : record.zone ≠ z) : (s.withZone record).recordsOf z = s.recordsOf z := by
  change (s.detection.zones.map fun x => if x.zone = record.zone then record else x).filter (·.zone == z) = _
  rw [State.recordsOf]
  induction s.detection.zones with
  | nil => rfl
  | cons x xs ih =>
    by_cases hx : x.zone = record.zone
    · have hxz : x.zone ≠ z := hx ▸ h
      simp [hx, h, ih]
    · simp [hx, List.filter_cons, ih]

theorem eq_of_mem_recordsOf_withZone (hz : record.zone = z) (h : r ∈ (s.withZone record).recordsOf z) : r = record := by
  obtain ⟨hr, hrz⟩ := mem_recordsOf.mp h
  obtain ⟨x, -, rfl⟩ := List.mem_map.mp hr
  by_cases hx : x.zone = record.zone
  · rw [if_pos hx]
  · rw [if_neg hx] at hrz
    exact absurd (hrz.trans hz.symm) hx

theorem zone_withZone (h : s.zone record.zone = some r) : (s.withZone record).zone record.zone = some record := by
  have hsame : ((fun x : ZoneRecord => x.zone == record.zone) ∘ fun x => if x.zone = record.zone then record else x) =
      fun x => x.zone == record.zone := by
    funext x
    by_cases hx : x.zone = record.zone <;> simp [hx]
  have hr : r.zone = record.zone := zone_number h
  change (s.detection.zones.map fun x => if x.zone = record.zone then record else x).find? (·.zone == record.zone) = _
  rw [State.zone] at h
  rw [List.find?_map, hsame, h, Option.map_some, if_pos hr]

end

/-! ### The evaluation (R56 to R58, R61) -/

section
variable (s : State) (z : Nat) (r : ZoneRecord)

/-- The VALID detectors of a zone. -/
def State.validOf : List Detector := (s.detectorsOf z).filter fun d => d.status == .valid

/-- ALARM_ACTIVE applies to the zone, with the window field of its record. -/
def State.zoneActive : Bool := activeBy s.image.thresholds r.window (s.validOf z)

/-- R56, R61: a detector of the zone is FAULTED, or it is held FAULT by configuration. -/
def State.zoneFaulted : Bool := (s.detectorsOf z).any (fun d => d.status == .faulted) || s.heldByConfiguration z

/-- The record of an enabled zone after its evaluation. -/
def State.evaluated : ZoneRecord :=
  { r with
    condition := conditionOf (s.zoneActive z r) (r.latch || s.zoneActive z r) (holdAfter r.hold (s.validOf z))
      (s.zoneFaulted z)
    latch := r.latch || s.zoneActive z r
    manual := r.manual ||
      (s.zoneActive z r && (s.validOf z).any fun d => d.type == .manual && decide (1 ≤ d.alarmCount))
    hold := holdAfter r.hold (s.validOf z) }

variable {s z r}

theorem evalZone_none (h : s.zone z = none) : s.evalZone z = s := by
  rw [State.evalZone, h]

theorem evalZone_disabled (h : s.zone z = some r) (hd : r.disabled = true) :
    s.evalZone z = s.withZone { r with condition := .disabled } := by
  rw [State.evalZone, h]
  exact if_pos hd

theorem evalZone_enabled (h : s.zone z = some r) (hd : r.disabled = false) :
    s.evalZone z = ((s.withZone (s.evaluated z r)).logIf (s.zoneActive z r && !r.latch)
      (.zoneAlarm z (firstActive s.image.thresholds r.window (s.validOf z)))).setFault (.zoneFault z)
        (faultDetail (s.detectorsOf z)) (s.zoneFaulted z) := by
  rw [State.evalZone, h]
  exact if_neg (by rw [hd]; decide)

theorem evalZone_enabled_detection (h : s.zone z = some r) (hd : r.disabled = false) :
    (s.evalZone z).detection = (s.withZone (s.evaluated z r)).detection := by
  rw [evalZone_enabled h hd, (setFault_moved (ps := []) _ _ _ _).detection (by decide),
    (logIf_move (ps := []) _ _ _).detection (by decide)]

/-- Of the Detection Unit an evaluation changes the records of its zone alone. -/
theorem evalZone_detection (s : State) (z : Nat) :
    s.evalZone z = s ∨
      ∃ record : ZoneRecord, record.zone = z ∧ (s.evalZone z).detection = (s.withZone record).detection := by
  cases h : s.zone z with
  | none => exact .inl (evalZone_none h)
  | some r =>
    have hz := zone_number h
    cases hd : r.disabled with
    | true => exact .inr ⟨{ r with condition := .disabled }, hz, by rw [evalZone_disabled h hd]⟩
    | false => exact .inr ⟨s.evaluated z r, hz, evalZone_enabled_detection h hd⟩

theorem evalZone_stands (h : s.zone z = some r) (hd : r.disabled = false) :
    (s.evalZone z).stands (.zoneFault z) = s.zoneFaulted z := by
  rw [evalZone_enabled h hd, setFault_stands]

theorem evalZone_stands_other {key : FaultKey} (hk : key ≠ .zoneFault z) :
    (s.evalZone z).stands key = s.stands key := by
  cases h : s.zone z with
  | none => rw [evalZone_none h]
  | some r =>
    cases hd : r.disabled with
    | true => rw [evalZone_disabled h hd]; rfl
    | false =>
      rw [evalZone_enabled h hd, (setFault_move _ _ _ _).stands_other hk, State.logIf]
      split <;> rfl

end

end Sys2Proof.Machine
end

section
/-!
THE STEPS OF A REACTION (R59, R75, R78). What the blocks hand one another when own zones change is made of a few kinds of
step. They are listed once, and what a reaction keeps is an induction over them.
-/
namespace Sys2Proof.Machine

/-! ### The steps -/

/-- ZONE FAULT, the one key that an evaluation raises and clears. -/
def FaultKey.ofZone : FaultKey → Bool
  | .zoneFault _ => true
  | _ => false

theorem reasonKey_ofZone (reason : DescentReason) : (reasonKey reason).ofZone = false := by cases reason <;> rfl

/-- From one state to another by the steps of a reaction. -/
inductive Reaction : State → State → Prop
  | refl (s : State) : Reaction s s
  | trans {s t u : State} : Reaction s t → Reaction t u → Reaction s u
  | log (s : State) (e : LogEvent) : Reaction s (s.log e)
  | mark (s : State) : Reaction s s.mark
  | calls (s : State) (x : Calls) : Reaction s (s.withCalls x)
  | curtain (s : State) (x : Curtain) : Reaction s (s.withCurtain x)
  | descent (s : State) (x : Supervisor) : Reaction s (s.withDescent x)
  | lights (s : State) (x : Lights) : Reaction s (s.withLights x)
  | command (s : State) (b : Bay) (play : Byte) (commands : List CallCommand) :
      Reaction s (s.withBay b { s.bay b with play := play, commands := commands })
  | fault {s t : State} {key : FaultKey} (h : FaultMove key s t) (hk : key.ofZone = false) : Reaction s t
  | alarm (s : State) (f : Alarm → Alarm) (hd : (f s.alarm).disablements = s.alarm.disablements)
      (hg : (f s.alarm).generation = s.alarm.generation)
      (hq : s.alarm.stage ≠ .quiet → (f s.alarm).stage ≠ .quiet) : Reaction s (s.setAlarm f)
  | hand (s : State) {r : ZoneRecord} (h : r ∈ s.detection.zones) : Reaction s (s.withZone r.hand)
  | window (s : State) {r : ZoneRecord} (h : r ∈ s.detection.zones) (window : Bool) :
      Reaction s (s.withZone { r with window := window })
  | eval (s : State) (z : Nat) : Reaction s (s.evalZone z)
  | close (s : State) (h : s.alarm.stage ≠ .quiet) : Reaction s (s.withWindows [])

namespace Reaction

variable {s t u : State}

theorem ite {c : Prop} [Decidable c] (h : Reaction s t) (h' : Reaction s u) : Reaction s (if c then t else u) := by
  split <;> assumption

theorem foldl {α : Type} {f : State → α → State} (h : ∀ t x, Reaction t (f t x)) (xs : List α) (s : State) :
    Reaction s (xs.foldl f s) := by
  induction xs generalizing s with
  | nil => exact refl s
  | cons x xs ih => exact (h s x).trans (ih _)

theorem markIf (s : State) (b : Bool) : Reaction s (s.markIf b) := .ite (.mark s) (.refl s)

theorem logIf (s : State) (b : Bool) (e : LogEvent) : Reaction s (s.logIf b e) := .ite (.log s e) (.refl s)

theorem raiseFault (s : State) {key : FaultKey} (hk : key.ofZone = false) (detail : FaultDetail) :
    Reaction s (s.raiseFault key detail) := .fault (raiseFault_move s key detail) hk

theorem clearFault (s : State) {key : FaultKey} (hk : key.ofZone = false) : Reaction s (s.clearFault key) :=
  .fault (clearFault_move s key) hk

end Reaction

section
variable (s : State)

/-! ### The Call Sequencer -/

theorem playOn_reaction (set : PerBay Bool) (message : Nat) (zones : List Nat) :
    Reaction s (s.playOn set message zones) :=
  .foldl (fun t _ => .ite (.command t _ _ _) (.refl t)) _ _

theorem stopCurrent_reaction : Reaction s s.stopCurrent :=
  .trans (.foldl (fun t _ => .ite (.command t _ _ _) (.refl t)) _ _) (.calls _ _)

theorem play_reaction (set : PerBay Bool) (message : Nat) (zones : List Nat) (call : CurrentCall)
    (outstanding : PerBay Bool) : Reaction s ((s.playOn set message zones).setCurrent call outstanding) :=
  (playOn_reaction s _ _ _).trans (.calls _ _)

theorem drainOnJoin_reaction : Reaction s s.drainOnJoin := .ite (.trans (.calls _ _) (.log _ _)) (.refl s)

theorem drainOnLeave_reaction : Reaction s s.drainOnLeave := .ite (.trans (.calls _ _) (.log _ _)) (.refl s)

theorem startTestUpTo_reaction (n : Nat) : Reaction s (startTestUpTo n s) := by
  induction n generalizing s with
  | zero => exact .refl s
  | succ n ih =>
    unfold startTestUpTo
    refine .ite ?_ (.refl s)
    split
    · exact .refl s
    · next e rest _ =>
      have hleft : Reaction s (s.withQueue rest).drainOnLeave := .trans (.calls _ _) (drainOnLeave_reaction _)
      refine .ite (hleft.trans (.trans (.calls _ _) (.trans (.log _ _) (ih _)))) (.ite ?_ ?_)
      · exact hleft.trans (play_reaction _ _ _ _ _ _)
      · exact hleft.trans (.trans (.log _ _) (ih _))

theorem startTest_reaction : Reaction s s.startTest := startTestUpTo_reaction s _

theorem startStaff_reaction : Reaction s s.startStaff := by
  have htimer : Reaction s (s.withCalls { s.calls with staffRepeat := some (s.clock.now + Config.staffMs) }) := .calls _ _
  exact .ite (htimer.trans ((play_reaction _ _ _ _ _ _).trans (.calls _ _))) htimer

theorem startStanding_reaction : Reaction s s.startStanding := by
  have hevacuation : Reaction s s.startEvacuation := .ite (play_reaction s _ _ _ _ _) (.refl s)
  exact .ite (.ite (.ite (.refl s) hevacuation) (.ite (startStaff_reaction s) (.refl s))) (.refl s)

/-- R148: at a full queue the preempted entry drops the tail. -/
theorem dropTail_reaction : Reaction s
    (match s.calls.queue.getLast?, decide (Config.queueSize ≤ s.calls.queue.length) with
      | some tail, true =>
        (((s.withQueue s.calls.queue.dropLast).countDroppedFull).log (.queueFull tail.message tail.source)).drainOnLeave
      | _, _ => s) := by
  split
  · exact .trans (.calls _ _) (.trans (.calls _ _) (.trans (.log _ _) (drainOnLeave_reaction _)))
  · exact .refl s

theorem returnToHead_reaction (e : QueueEntry) : Reaction s (s.returnToHead e) := by
  refine .trans (.log s (.callPreempted e.message)) ?_
  unfold State.returnToHead
  dsimp only
  generalize s.log (.callPreempted e.message) = t
  split
  · exact .trans (.calls _ _) (.trans (.calls _ _) (.logIf _ _ _))
  · exact (dropTail_reaction t).trans (.trans (.calls _ _) (drainOnJoin_reaction _))

theorem preempt_reaction : Reaction s s.preempt := by
  unfold State.preempt
  split
  · refine .ite ?_ ((stopCurrent_reaction s).trans (returnToHead_reaction _ _))
    exact (stopCurrent_reaction s).trans (.trans (.calls _ _) (.log _ _))
  · exact .refl s

theorem standingDue_reaction : Reaction s s.standingDue := (preempt_reaction s).trans (startStanding_reaction _)

theorem staffBecomesDue_reaction : Reaction s s.staffBecomesDue :=
  .ite (.refl s) (.trans (.calls _ _) (standingDue_reaction _))

theorem discardStale_reaction : Reaction s s.discardStale := by
  have hout : Reaction s ((s.calls.queue.filter s.isStale).foldl (fun t e => t.countStale.log (.callStale e.message))
      (s.withQueue (s.calls.queue.filter fun e => !s.isStale e))) :=
    .trans (.calls _ _) (.foldl (fun _ _ => .trans (.calls _ _) (.log _ _)) _ _)
  exact .ite hout (hout.trans (drainOnLeave_reaction _))

theorem stopIf_reaction (call : CurrentCall) : Reaction s (if s.calls.current = call then s.stopCurrent else s) :=
  .ite (stopCurrent_reaction s) (.refl s)

theorem endStaff_reaction : Reaction s s.endStaff := (stopIf_reaction s .staff).trans (.calls _ _)

theorem callsStage_reaction (old new : Stage) : Reaction s (s.callsStage old new) := by
  have hevacuated := (stopIf_reaction s .evacuation).trans (discardStale_reaction _)
  have hleft := (hevacuated.trans (.ite (c := new = .alert) (staffBecomesDue_reaction _) (.refl _))).trans
    (startTest_reaction _)
  unfold State.callsStage
  exact .ite (.refl s) (.ite ((endStaff_reaction s).trans (standingDue_reaction _)) (.ite hleft
    (.ite (staffBecomesDue_reaction s) (.ite ((endStaff_reaction s).trans (startTest_reaction _)) (.refl s)))))

theorem callsSilence_reaction : Reaction s s.callsSilence :=
  .ite (.ite (stopIf_reaction s .evacuation) (startStanding_reaction s)) (.refl s)

/-! ### The drive -/

theorem setMismatch_reaction (own supervisor : Bool) : Reaction s (s.setMismatch own supervisor) :=
  .trans (.curtain _ _) (.trans (.markIf _ _) (.fault (setFault_move _ _ _ _) rfl))

theorem settleMismatch_reaction : Reaction s s.settleMismatch := .ite (.refl s) (setMismatch_reaction s _ _)

theorem motionEnd_reaction (reason : EndReason) : Reaction s (s.motionEnd reason) := by
  unfold State.motionEnd
  split
  · exact .refl s
  · next motion _ =>
    have hverdict : Reaction s (if motion = .testing then s.writeVerdict reason else s) :=
      .ite (.trans (.curtain _ _) (.trans (.mark _) (.log _ _))) (.refl s)
    have hfinish := hverdict.trans (.descent _
      ((if motion = .testing then s.writeVerdict reason else s).descent.finish reason))
    exact .ite (hfinish.trans (settleMismatch_reaction _)) hfinish

theorem enterState_reaction (state : CurtainState) (detail : CurtainDetail) : Reaction s (s.enterState state detail) := by
  have hentry : Reaction s (((s.withCurtain (s.curtain.enter state s.clock.now)).command.mark).log
      (.curtain state detail)) := .trans (.curtain _ _) (.trans (.curtain _ _) (.trans (.mark _) (.log _ _)))
  exact .ite (hentry.trans (.clearFault _ rfl)) hentry

theorem arrive_reaction : Reaction s s.arrive := by
  unfold State.arrive
  exact (motionEnd_reaction s .arrived).trans (.trans (.curtain _ _) (enterState_reaction _ _ _))

theorem takeRaised_reaction (reason : DescentReason) (k : Nat) (p : Option Nat) (v : Option Int) :
    Reaction s (s.takeRaised reason k p v) :=
  .ite (.trans (.mark s) (.log _ _)) (.trans (.mark s) (.raiseFault _ (reasonKey_ofZone reason) _))

theorem takeNotice_reaction (n : Notice) : Reaction s (s.takeNotice n) := by
  unfold State.takeNotice
  split
  · exact (takeRaised_reaction s _ _ _ _).trans (.trans (.descent _ _) (.curtain _ _))
  · exact takeRaised_reaction s _ _ _ _
  · exact .trans (.mark s) (.clearFault _ (reasonKey_ofZone _))
  · exact .curtain _ _
  · exact setMismatch_reaction s _ _
  · exact .ite (arrive_reaction s) (.refl s)
  · exact .refl s

theorem motionStart_reaction (motion : Motion) : Reaction s (s.motionStart motion) := by
  have hbegin : Reaction s (s.withDescent (s.descent.begin motion s.curtain.cause s.nodeTime)).settleMismatch :=
    .trans (.descent _ _) (settleMismatch_reaction _)
  have hcleared := hbegin.trans (.foldl takeNotice_reaction s.descent.clearings _)
  unfold State.motionStart
  exact hcleared.trans (.trans (.curtain _ _) (.trans (.descent _ _) (.foldl takeNotice_reaction _ _)))

theorem fall_reaction (cause : DescentCause) : Reaction s (s.fall cause) :=
  .ite ((motionEnd_reaction s _).trans (.trans (.curtain _ _)
    ((enterState_reaction _ _ _).trans (motionStart_reaction _ _)))) (.refl s)

theorem testTriggers_reaction : Reaction s s.testTriggers := by
  unfold State.testTriggers
  split
  · exact fall_reaction s _
  · exact .refl s

/-! ### The Detection Unit and the Light Mixer -/

theorem evalZones_reaction (zones : List Nat) : Reaction s (s.evalZones zones) := .foldl .eval zones s

theorem recomputeWindowZone_reaction (z : Nat) : Reaction s (s.recomputeWindowZone z) := by
  unfold State.recomputeWindowZone
  split
  · exact .refl s
  · next hr => exact .ite (.refl s) (.trans (.window s (zone_mem hr) _) (.eval _ z))

theorem recomputeWindows_reaction : Reaction s s.recomputeWindows := .foldl recomputeWindowZone_reaction _ s

theorem detectionStage_reaction {new : Stage} (h : s.alarm.stage = new) (old : Stage) :
    Reaction s (s.detectionStage old new) := by
  refine .trans (t := if old = .quiet ∧ new ≠ .quiet then s.windowsLeaveQuiet else s) ?_ (recomputeWindows_reaction _)
  split
  · next hleaves => exact .trans (.close s (h ▸ hleaves.2)) (.markIf _ _)
  · exact .refl s

theorem lightsStage_reaction (old new : Stage) : Reaction s (s.lightsStage old new) :=
  .ite (.lights _ _) (.ite (.refl s) (.lights _ _))

/-! ### The Alarm Stage Unit (R75) -/

theorem rebuildMerged_reaction : Reaction s s.rebuildMerged := .alarm s _ rfl rfl id

theorem zoneUp_reaction (z : Nat) : Reaction s (s.zoneUp z) := .trans (.alarm s _ rfl rfl id) (.log _ _)

theorem takeSnapshot_reaction (cause : StageCause) : Reaction s (s.takeSnapshot cause) := by
  unfold State.takeSnapshot
  split
  · exact .log s _
  · exact .trans (.alarm s _ rfl rfl id) (.log _ _)

/-- The entry to a stage above QUIET. -/
theorem enterStage_reaction {f : Alarm → Alarm} (hd : (f s.alarm).disablements = s.alarm.disablements)
    (hg : (f s.alarm).generation = s.alarm.generation) (hq : (f s.alarm).stage ≠ .quiet) (e : LogEvent) :
    Reaction s (((s.setAlarm f).log e).mark) :=
  .trans (.alarm s f hd hg fun _ => hq) (.trans (.log _ _) (.mark _))

theorem enterEvacuate_reaction (cause : StageCause) : Reaction s (s.enterEvacuate cause) :=
  (enterStage_reaction s rfl rfl (by simp) _).trans (takeSnapshot_reaction _ cause)

theorem evalStage_reaction : Reaction s s.evalStage := by
  have halert : Reaction s s.enterAlert := enterStage_reaction s rfl rfl (by simp) _
  have hinvestigate : Reaction s s.enterInvestigate := enterStage_reaction s rfl rfl (by simp) _
  unfold State.evalStage
  split
  · exact .refl s
  · exact enterEvacuate_reaction s _
  · exact .ite (.ite hinvestigate halert) (.refl s)
  · exact .ite hinvestigate (.refl s)
  · exact .refl s

theorem evalSilenced_reaction : Reaction s s.evalSilenced :=
  .ite (.refl s) (.trans (.alarm s _ rfl rfl id) (.trans (.log _ _) (.mark _)))

theorem evaluateBy_reaction : Reaction s (s.evaluateBy State.evalStage) :=
  (rebuildMerged_reaction s).trans <| .trans (.foldl zoneUp_reaction _ _) <|
    (evalStage_reaction _).trans (evalSilenced_reaction _)

theorem mergedNotice_reaction (before : Alarm) : Reaction s (s.mergedNotice before) :=
  .ite (.refl s) (testTriggers_reaction s)

theorem silenceNotice_reaction (before : Alarm) : Reaction s (s.silenceNotice before) :=
  .ite (.refl s) (callsSilence_reaction s)

theorem stageNotice_reaction {new : Stage} (h : s.alarm.stage = new) (old : Stage) :
    Reaction s (s.stageNotice old new) :=
  (detectionStage_reaction s h old).trans <| (lightsStage_reaction _ _ _).trans <|
    (callsStage_reaction _ _ _).trans (testTriggers_reaction _)

theorem mergedNotice_alarm (before : Alarm) : (s.mergedNotice before).alarm = s.alarm :=
  (mergedNotice_move s before).alarm (by decide)

/-- The stage notice names the stage that the alarm has come to. -/
theorem handNotices_reaction (before : Alarm) : Reaction s (s.handNotices before) := by
  have hmerged := mergedNotice_reaction s before
  have hstage := stageNotice_reaction (s.mergedNotice before) (congrArg (·.stage) (mergedNotice_alarm s before)) before.stage
  exact .trans (.ite hmerged (hmerged.trans hstage)) (silenceNotice_reaction _ before)

theorem reevaluate_reaction : Reaction s s.reevaluate := (evaluateBy_reaction s).trans (handNotices_reaction _ _)

theorem reactUpTo_reaction (n : Nat) : Reaction s (reactUpTo n s) := by
  induction n generalizing s with
  | zero => exact .refl s
  | succ n ih =>
    unfold reactUpTo
    split
    · exact .refl s
    · next r hr =>
      have hand : Reaction s (s.withZone r.hand).mark :=
        .trans (.hand s (List.mem_of_find?_eq_some hr)) (.mark _)
      exact hand.trans ((reevaluate_reaction _).trans (ih _))

theorem react_reaction : Reaction s s.react := reactUpTo_reaction s 256

theorem review_reaction : Reaction s s.review := (reevaluate_reaction s).trans (react_reaction _)

end

/-! ### What a reaction keeps -/

namespace Reaction

variable {s t : State}

theorem disablements (h : Reaction s t) : t.alarm.disablements = s.alarm.disablements := by
  induction h with
  | trans _ _ ih ih' => exact ih'.trans ih
  | alarm s f hd _ _ => exact hd
  | fault h _ => rw [(h.move (ps := [])).alarm (by decide)]
  | eval s z => rw [(evalZone_move s z).alarm (by decide)]
  | _ => rfl

theorem generation (h : Reaction s t) : t.alarm.generation = s.alarm.generation := by
  induction h with
  | trans _ _ ih ih' => exact ih'.trans ih
  | alarm s f _ hg _ => exact hg
  | fault h _ => rw [(h.move (ps := [])).alarm (by decide)]
  | eval s z => rw [(evalZone_move s z).alarm (by decide)]
  | _ => rfl

theorem missed (h : Reaction s t) (b : Bay) : (t.bay b).missed = (s.bay b).missed := by
  induction h with
  | trans _ _ ih ih' => exact ih'.trans ih
  | command s c play commands =>
    by_cases hb : b = c
    · subst hb
      rw [bay_withBay]
    · rw [bay_withBay_of_ne s hb]
  | fault h _ => rw [State.bay, (h.move (ps := [])).bays (by decide)]; rfl
  | eval s z => rw [State.bay, (evalZone_move s z).bays (by decide)]; rfl
  | _ => rfl

end Reaction

/-- What a reaction leaves of the Detection Unit beside its zone records, while the stage, once above QUIET, stays so:
the own windows go when it rises (R64). -/
structure KeepsLists (s t : State) : Prop where
  detectors : t.detection.detectors = s.detection.detectors
  copies : t.detection.copies = s.detection.copies
  windows : t.detection.windows = s.detection.windows ∨ t.alarm.stage ≠ .quiet ∧ t.detection.windows = []
  raised : s.alarm.stage ≠ .quiet → t.alarm.stage ≠ .quiet

namespace KeepsLists

variable {s t u : State}

theorem of_eq (hd : t.detection = s.detection) (ha : s.alarm.stage ≠ .quiet → t.alarm.stage ≠ .quiet) : KeepsLists s t :=
  ⟨by rw [hd], by rw [hd], .inl (by rw [hd]), ha⟩

theorem trans (h : KeepsLists s t) (h' : KeepsLists t u) : KeepsLists s u := by
  refine ⟨h'.detectors.trans h.detectors, h'.copies.trans h.copies, ?_, h'.raised ∘ h.raised⟩
  rcases h'.windows with e' | hgone
  · rcases h.windows with e | ⟨hstage, e⟩
    · exact .inl (e'.trans e)
    · exact .inr ⟨h'.raised hstage, e'.trans e⟩
  · exact .inr hgone

end KeepsLists

theorem evalZone_keepsLists (s : State) (z : Nat) : KeepsLists s (s.evalZone z) := by
  have halarm : (s.evalZone z).alarm = s.alarm := (evalZone_move s z).alarm (by decide)
  rcases evalZone_detection s z with e | ⟨record, -, e⟩
  · rw [e]
    exact .of_eq rfl id
  · exact ⟨by rw [e]; rfl, by rw [e]; rfl, .inl (by rw [e]; rfl), by rw [halarm]; exact id⟩

theorem Reaction.keepsLists {s t : State} (h : Reaction s t) : KeepsLists s t := by
  induction h with
  | trans _ _ ih ih' => exact ih.trans ih'
  | fault h _ =>
    have hmove := h.move (ps := [])
    exact .of_eq (hmove.detection (by decide)) (by rw [hmove.alarm (by decide)]; exact id)
  | alarm s f _ _ hq => exact .of_eq rfl hq
  | eval s z => exact evalZone_keepsLists s z
  | close s hstage => exact ⟨rfl, rfl, .inr ⟨hstage, rfl⟩, id⟩
  | hand s _ => exact ⟨rfl, rfl, .inl rfl, id⟩
  | window s _ _ => exact ⟨rfl, rfl, .inl rfl, id⟩
  | _ => exact .of_eq rfl id

end Sys2Proof.Machine
end

section
/-!
DETECTORS AND ZONE CONDITIONS (R53 to R58, R63). What a sample makes of a detector by its reading, and the tests by which
an evaluation sets a zone's latch, hold and condition.
-/
namespace Sys2Proof.Machine

/-! ### A sample (R53 to R55, R63) -/

section
variable (t : Thresholds) (zone : ZoneRecord) (r : Nat) (d : Detector)

theorem alarmThreshold_eq (type : DetectorType) (window : Bool) : alarmThreshold t type window =
    if type = .smoke ∧ window = true then min 250 (t.alarm + t.effectsOffset) else t.alarm := by
  cases type <;> cases window <;> simp [alarmThreshold, Config.windowThresholdMax, min_comm]

theorem dwellInForce_eq (type : DetectorType) (window : Bool) : dwellInForce t type window =
    if type = .manual then 1 else if type = .smoke ∧ window = true then 4 * t.dwell else t.dwell := by
  cases type <;> cases window <;> simp [dwellInForce, Config.effectsDwellFactor, mul_comm]

/-- R53: what a reading makes of the status. -/
theorem take_zero : d.take 0 = { d with
    reading := 0, status := .faulted, fault := some .missing, alarmCount := 0, prealarmCount := 0, clearRun := 0 } := rfl

theorem take_short : d.take 255 = { d with
    reading := 255, status := .faulted, fault := some .short, alarmCount := 0, prealarmCount := 0, clearRun := 0 } := rfl

variable {r} in
theorem take_valid (hpos : 0 < r) (hlt : r < 255) :
    d.take r = { d with reading := r, status := .valid, fault := none } := by
  simp [Detector.take, hpos.ne', hlt.ne]

/-- The statuses and counts after a sample, by its reading and by the zone's disabled field. -/
theorem sample_zero : d.sample t zone 0 = { d with
    reading := 0, status := .faulted, fault := some .missing, alarmCount := 0, prealarmCount := 0, clearRun := 0 } := by
  rw [Detector.sample, take_zero]
  cases zone.disabled <;> rfl

theorem sample_short : d.sample t zone 255 = { d with
    reading := 255, status := .faulted, fault := some .short, alarmCount := 0, prealarmCount := 0, clearRun := 0 } := by
  rw [Detector.sample, take_short]
  cases zone.disabled <;> rfl

variable {zone r}

theorem sample_disabled (hpos : 0 < r) (hlt : r < 255) (hd : zone.disabled = true) : d.sample t zone r = { d with
    reading := r, status := .valid, fault := none, alarmCount := 0, prealarmCount := 0, clearRun := 0 } := by
  simp [Detector.sample, take_valid d hpos hlt, hd, Detector.clearCounts]

theorem sample_counted (hpos : 0 < r) (hlt : r < 255) (hd : zone.disabled = false) : d.sample t zone r = { d with
    reading := r, status := .valid, fault := none
    alarmCount := if alarmThreshold t d.type zone.window ≤ r then min 255 (d.alarmCount + 1) else 0
    prealarmCount := if t.prealarm ≤ r then min 255 (d.prealarmCount + 1) else 0
    clearRun := if r < t.prealarm - 10 then min 10 (d.clearRun + 1) else 0 } := by
  simp [Detector.sample, take_valid d hpos hlt, hd, Detector.count, countUp, clearLevel, Config.hysteresis]

theorem take_kept : (d.take r).reading = r ∧ (d.take r).zone = d.zone ∧ (d.take r).type = d.type := by
  unfold Detector.take
  dsimp only
  split
  · exact ⟨rfl, rfl, rfl⟩
  · split <;> exact ⟨rfl, rfl, rfl⟩

theorem sample_kept : (d.sample t zone r).reading = r ∧ (d.sample t zone r).zone = d.zone ∧
    (d.sample t zone r).type = d.type := by
  unfold Detector.sample
  dsimp only
  split
  · exact take_kept d
  · split <;> exact take_kept d

/-- R53: the status of a sampled detector, and where its counts are at 0. -/
theorem sample_status :
    (r = 0 → (d.sample t zone r).status = .faulted ∧ (d.sample t zone r).fault = some .missing) ∧
    (r = 255 → (d.sample t zone r).status = .faulted ∧ (d.sample t zone r).fault = some .short) ∧
    (0 < r → r < 255 → (d.sample t zone r).status = .valid ∧ (d.sample t zone r).fault = none) ∧
    (r = 0 ∨ r = 255 ∨ zone.disabled = true → r < 256 → (d.sample t zone r).alarmCount = 0 ∧
      (d.sample t zone r).prealarmCount = 0 ∧ (d.sample t zone r).clearRun = 0) := by
  refine ⟨?_, ?_, fun hpos hlt => ?_, fun h hrange => ?_⟩
  · rintro rfl
    rw [sample_zero]
    exact ⟨rfl, rfl⟩
  · rintro rfl
    rw [sample_short]
    exact ⟨rfl, rfl⟩
  · cases hd : zone.disabled with
    | true => rw [sample_disabled t d hpos hlt hd]; exact ⟨rfl, rfl⟩
    | false => rw [sample_counted t d hpos hlt hd]; exact ⟨rfl, rfl⟩
  · by_cases hzero : r = 0
    · subst hzero
      rw [sample_zero]
      exact ⟨rfl, rfl, rfl⟩
    · by_cases hshort : r = 255
      · subst hshort
        rw [sample_short]
        exact ⟨rfl, rfl, rfl⟩
      · rw [sample_disabled t d (by omega) (by omega) (by simpa [hzero, hshort] using h)]
        exact ⟨rfl, rfl, rfl⟩

end

section
variable {s : State} {b : Bay} {readings : Vector Byte 32}

theorem readingOf_lt (readings : Vector Byte 32) (position : Nat) : readingOf readings position < 256 := BitVec.isLt _

/-- R53: the evaluations that follow the readings leave every detector. -/
theorem sampleBay_detectors :
    (s.sampleBay b readings).detection.detectors = s.detection.detectors.map (s.sampledDetector b readings) :=
  (evalZones_reaction _ _).keepsLists.detectors

theorem sampledDetector_other {d : Detector} (h : d.bay ≠ b) : s.sampledDetector b readings d = d := if_neg h

theorem sampledDetector_own {d : Detector} {z : ZoneRecord} (h : d.bay = b) (hz : s.zone d.zone = some z) :
    s.sampledDetector b readings d = d.sample s.image.thresholds z (readingOf readings d.position) := by
  rw [State.sampledDetector, if_pos h, hz]

theorem completes_loopSample (hs : s.power.running = true) (hstate : (s.bay b).state = .online)
    (hsensed : (s.bay b).sensed = some .loop) :
    completes (.loopSample b readings) s ((s.answered b).sampleBay b readings).react := by
  rw [completes_iff s rfl]
  change execLoopSample b readings s = _
  simp [execLoopSample, whenRunning, hs, State.online, hstate, hsensed]

theorem answered_missed : ((s.answered b).bay b).missed = 0 := by rw [State.answered, bay_withBay]

/-- The detectors after a sample and the reaction to it. -/
theorem sampled_detectors : ((s.answered b).sampleBay b readings).react.detection.detectors =
    s.detection.detectors.map (s.sampledDetector b readings) := by
  rw [(react_reaction _).keepsLists.detectors, sampleBay_detectors]
  rfl

/-- A detector after a sample: of the sampled bay by its reading, of another bay as it was. -/
theorem loopSample_reads (b : Bay) (readings : Vector Byte 32) {s : State} {i : Nat} {d : Detector} {z : ZoneRecord}
    (hd : s.detection.detectors[i]? = some d) (hz : s.zone d.zone = some z) :
    ((s.answered b).sampleBay b readings).react.detection.detectors[i]? =
      some (if d.bay = b then d.sample s.image.thresholds z (readingOf readings d.position) else d) := by
  rw [sampled_detectors, List.getElem?_map, hd, Option.map_some]
  split
  · next h => rw [sampledDetector_own h hz]
  · next h => rw [sampledDetector_other h]

theorem sampled_missed : (((s.answered b).sampleBay b readings).react.bay b).missed = 0 := by
  rw [(react_reaction _).missed, State.bay, (sampleBay_move _ b readings).bays (by decide)]
  exact answered_missed

theorem sampled_move : Move alarmParts s ((s.answered b).sampleBay b readings).react :=
  (answered_move s (by decide) b).trans (((sampleBay_move _ b readings).mono (by decide)).trans (react_move _))

end

/-! ### The condition of a zone (R56 to R58) -/

section
variable {s : State} {z : Nat} {r : ZoneRecord}

/-- R56: the conditions in their order; an active zone is latched. -/
theorem conditionOf_order {active latch hold faulted : Bool} (hlatch : active = true → latch = true) :
    (active = true → conditionOf active latch hold faulted = .alarmActive) ∧
    (¬active = true → latch = true → conditionOf active latch hold faulted = .alarmLatched) ∧
    (¬latch = true → hold = true → conditionOf active latch hold faulted = .prealarm) ∧
    (¬latch = true → ¬hold = true → faulted = true → conditionOf active latch hold faulted = .fault) ∧
    (¬latch = true → ¬hold = true → ¬faulted = true → conditionOf active latch hold faulted = .normal) := by
  have hquiet (h : ¬latch = true) : ¬active = true := h ∘ hlatch
  unfold conditionOf
  refine ⟨fun h => if_pos h, fun h h' => ?_, fun h h' => ?_, fun h h' h'' => ?_, fun h h' h'' => ?_⟩
  · rw [if_neg h, if_pos h']
  · rw [if_neg (hquiet h), if_neg h, if_pos h']
  · rw [if_neg (hquiet h), if_neg h, if_neg h', if_pos h'']
  · rw [if_neg (hquiet h), if_neg h, if_neg h', if_neg h'']

/-- R56: a VALID detector at its dwell, or two at theirs on the prealarm count. -/
theorem activeBy_iff (t : Thresholds) (window : Bool) (valid : List Detector) :
    activeBy t window valid = true ↔ (∃ d ∈ valid, dwellInForce t d.type window ≤ d.alarmCount) ∨
      2 ≤ (valid.filter fun d => dwellInForce t d.type window ≤ d.prealarmCount).length := by
  rw [activeBy, Bool.or_eq_true]
  exact or_congr (by simp [Detector.inAlarm]) ⟨of_decide_eq_true, decide_eq_true⟩

/-- R58: the hold is set by a second prealarm sample, and kept until every VALID detector has run clear. -/
theorem holdAfter_iff (hold : Bool) (valid : List Detector) :
    holdAfter hold valid = true ↔
      (∃ d ∈ valid, 2 ≤ d.prealarmCount) ∨ hold = true ∧ ∃ d ∈ valid, d.clearRun ≠ 10 := by
  have hset : (valid.any fun d => 2 ≤ d.prealarmCount) = true ↔ ∃ d ∈ valid, 2 ≤ d.prealarmCount := by simp
  have hclear : (valid.all fun d => d.clearRun == 10) = true ↔ ¬∃ d ∈ valid, d.clearRun ≠ 10 := by simp
  unfold holdAfter
  rw [← hset]
  split
  · next h => simp [h]
  · next h =>
    split
    · next h' => simp [h, hclear.mp h']
    · next h' => simp [h, not_not.mp (mt hclear.mpr h')]

theorem zoneFaulted_iff : s.zoneFaulted z = true ↔ (∃ d ∈ s.detectorsOf z, d.status = .faulted) ∨
    s.station.joining = false ∧ (s.roles.detect = false ∨ s.detectorsOf z = []) := by
  simp [State.zoneFaulted, State.heldByConfiguration]

theorem evalZone_zone (h : s.zone z = some r) (hd : r.disabled = false) :
    (s.evalZone z).zone z = some (s.evaluated z r) := by
  obtain rfl := zone_number h
  rw [State.zone, evalZone_enabled_detection h hd]
  exact zone_withZone (record := s.evaluated r.zone r) h

theorem evaluated_manual_iff : (s.evaluated z r).manual = true ↔
    r.manual = true ∨ s.zoneActive z r = true ∧ ∃ d ∈ s.validOf z, d.type = .manual ∧ 1 ≤ d.alarmCount := by
  simp [State.evaluated]

theorem evaluated_latch_iff : (s.evaluated z r).latch = true ↔ r.latch = true ∨ s.zoneActive z r = true := by
  simp [State.evaluated]

end

end Sys2Proof.Machine
end

section
/-!
THE MERGED VIEW AND THE ENTRY TO ALERT (R73, R74, R78). The worst of the contributions to a zone, what each of them is
sure to weigh, and the re-evaluation that leaves QUIET with no evacuation condition.
-/
namespace Sys2Proof.Machine

/-! ### The merged view (R73, R74) -/

section
variable {s : State} {z : Nat}

/-- The first of the worst stands before it with lesser codes and after it with none greater. -/
theorem worst_split {cs : List Contribution} (h : cs ≠ []) : ∃ before c after, cs = before ++ c :: after ∧
    worst cs = some c ∧ (∀ x ∈ before, conditionCode x.condition < conditionCode c.condition) ∧
    ∀ x ∈ after, conditionCode x.condition ≤ conditionCode c.condition := by
  induction cs with
  | nil => exact absurd rfl h
  | cons c cs ih =>
    by_cases hcs : cs = []
    · subst hcs
      exact ⟨[], c, [], rfl, rfl, nofun, nofun⟩
    obtain ⟨before, d, after, rfl, hworst, hbefore, hafter⟩ := ih hcs
    by_cases hlt : conditionCode c.condition < conditionCode d.condition
    · refine ⟨c :: before, d, after, rfl, by rw [worst, hworst]; exact if_pos hlt, ?_, hafter⟩
      exact List.forall_mem_cons.mpr ⟨hlt, hbefore⟩
    · refine ⟨[], c, before ++ d :: after, rfl, by rw [worst, hworst]; exact if_neg hlt, nofun, fun x hx => ?_⟩
      rcases List.mem_append.mp hx with hx | hx
      · exact (hbefore x hx).le.trans (not_lt.mp hlt)
      · rcases List.mem_cons.mp hx with rfl | hx
        · exact not_lt.mp hlt
        · exact (hafter x hx).trans (not_lt.mp hlt)

theorem mergedZone_of_worst {c : Contribution} (h : worst (s.contributions z) = some c) :
    (s.mergedZone z).condition = c.condition ∧ (s.mergedZone z).source = some c.source := by
  rw [State.mergedZone, h]
  exact ⟨rfl, rfl⟩

/-- R73: no contribution is worse than the view. -/
theorem contribution_le_merged {c : Contribution} (h : c ∈ s.contributions z) :
    conditionCode c.condition ≤ conditionCode (s.mergedZone z).condition := by
  obtain ⟨before, d, after, hsplit, hworst, hbefore, hafter⟩ := worst_split (List.ne_nil_of_mem h)
  rw [(mergedZone_of_worst hworst).1]
  rw [hsplit] at h
  rcases List.mem_append.mp h with hc | hc
  · exact (hbefore c hc).le
  · rcases List.mem_cons.mp hc with rfl | hc
    · exact le_rfl
    · exact hafter c hc

theorem own_le_merged {r : ZoneRecord} (h : s.zone z = some r) :
    conditionCode r.handed ≤ conditionCode (s.mergedZone z).condition :=
  contribution_le_merged (c := ⟨r.handed, .own⟩) (by simp [State.contributions, State.ownContribution, h])

/-- An entry of a last report, by the condition that R73 and R74 make of it. -/
theorem entry_le_merged {r : PeerRecord} {report : Report} {e : ZoneEntry} {c : Condition}
    (hr : r ∈ s.peers.records) (hlast : r.lastReport = some report) (he : e ∈ report.alarm.zones) (hz : e.zone = z)
    (hc : entryCondition r.state (report.alarm.generation == s.alarm.generation) report.notJoining e.condition = some c) :
    conditionCode c ≤ conditionCode (s.mergedZone z).condition := by
  refine contribution_le_merged (c := ⟨c, if r.state = .silent then .heldFrom r.station else .peer r.station⟩) ?_
  have hpeer : ⟨c, if r.state = .silent then .heldFrom r.station else .peer r.station⟩ ∈ s.peerContributions z r := by
    simp only [State.peerContributions, hlast, List.mem_filterMap, List.mem_filter]
    exact ⟨e, ⟨he, beq_iff_eq.mpr hz⟩, by rw [hc]; rfl⟩
  exact List.mem_append_left _ (List.mem_append_right _ (List.mem_flatMap.mpr ⟨r, hr, hpeer⟩))

/-- R74: a lost supervisor is a contribution of FAULT. -/
theorem loss_le_merged {row : ZoneRow} {r : PeerRecord} (hrow : s.zoneRow z = some row)
    (hpeer : s.peer row.station = some r) (hgone : s.supervisorGone r = true) :
    conditionCode .fault ≤ conditionCode (s.mergedZone z).condition :=
  contribution_le_merged (c := ⟨.fault, .supervisorLost⟩)
    (by simp [State.contributions, State.lossContribution, hrow, hpeer, hgone])

/-- ALARM_ACTIVE has the greatest code. -/
theorem eq_alarmActive_of_le {c : Condition} (h : conditionCode .alarmActive ≤ conditionCode c) : c = .alarmActive := by
  cases c with
  | alarmActive => rfl
  | _ => exact absurd h (by decide)

section
variable {r : PeerRecord} {report : Report} {e : ZoneEntry} (hr : r ∈ s.peers.records)
  (hlast : r.lastReport = some report) (he : e ∈ report.alarm.zones) (hz : e.zone = z)
include hr hlast he hz

theorem live_le_merged (hlive : r.state = .live)
    (h : report.alarm.generation = s.alarm.generation ∨ e.condition = .alarmActive) :
    conditionCode e.condition ≤ conditionCode (s.mergedZone z).condition :=
  entry_le_merged hr hlast he hz (by simp [entryCondition, hlive, h])

theorem joining_active_merged (hjoining : r.state = .joining) (h : e.condition = .alarmActive) :
    (s.mergedZone z).condition = .alarmActive :=
  eq_alarmActive_of_le (entry_le_merged hr hlast he hz (by simp [entryCondition, hjoining, h]))

theorem silent_latched_le_merged (hsilent : r.state = .silent)
    (hsame : report.alarm.generation = s.alarm.generation) (hnot : report.notJoining = true)
    (h : e.condition.inAlarm = true) :
    conditionCode .alarmLatched ≤ conditionCode (s.mergedZone z).condition :=
  entry_le_merged hr hlast he hz (by simp [entryCondition, hsilent, hsame, hnot, h])

end

theorem inAlarm_iff (c : Condition) : c.inAlarm = true ↔ c = .alarmActive ∨ c = .alarmLatched := by
  cases c <;> decide

theorem supervisorGone_of {r : PeerRecord} (h : r.state = .silent ∨ r.state = .absent ∧ s.station.joining = false ∨
    r.state = .joining ∧ ∃ report, r.lastReport = some report ∧ report.roles = {}) : s.supervisorGone r = true := by
  rcases h with h | ⟨h, hjoined⟩ | ⟨h, report, hlast, hroles⟩
  · simp [State.supervisorGone, h]
  · simp [State.supervisorGone, h, hjoined]
  · simp [State.supervisorGone, h, hlast, hroles]

theorem mergedZone_of_empty (h : s.contributions z = []) : s.mergedZone z = normalZone := by
  rw [State.mergedZone, h]
  rfl

end

/-! ### The entry to ALERT (R78) -/

section
variable (s : State)

theorem zoneUps_alarm (zs : List Nat) : (zs.foldl State.zoneUp s).alarm = { s.alarm with order := s.alarm.order ++ zs } := by
  induction zs generalizing s with
  | nil => simp
  | cons z zs ih =>
    rw [List.foldl_cons, ih]
    simp [State.zoneUp, State.log, State.setAlarm]

/-- What the steps of R75 before the stage step leave differs from the state in the alarm and the panel. -/
theorem appendOrder_frame : s.appendOrder = (s.withAlarm s.appendOrder.alarm).withPanel s.appendOrder.panel := by
  have h (zs : List Nat) (t : State) : zs.foldl State.zoneUp t =
      (t.withAlarm (zs.foldl State.zoneUp t).alarm).withPanel (zs.foldl State.zoneUp t).panel := by
    induction zs generalizing t with
    | nil => rfl
    | cons z zs ih => 
      rw [List.foldl_cons, ih]
      rfl
  exact h _ s

/-- The order of the list bears on none of the tests of the stage step. -/
theorem appendOrder_eq : ∃ panel, s.appendOrder = (s.withAlarm { s.alarm with
    order := s.alarm.order ++ s.alarm.zonesInAlarm.filter fun z => !s.alarm.order.contains z }).withPanel panel :=
  ⟨s.appendOrder.panel, by rw [← zoneUps_alarm]; exact appendOrder_frame s⟩

theorem evalSilenced_alarm : s.evalSilenced.alarm =
    { s.alarm with silenced := s.alarm.stage == .evacuate && s.silenceSource } := by
  unfold State.evalSilenced State.setSilenced
  split
  · next h => rw [h]
  · rfl

theorem handNotices_alarm (before : Alarm) : (s.handNotices before).alarm = s.alarm := by
  have hstage (t : State) (old new : Stage) : (t.stageNotice old new).alarm = t.alarm := by
    rw [State.stageNotice, (testTriggers_move _).alarm (by decide), (callsStage_move _ _ _).alarm (by decide),
      (lightsStage_move _ _ _).alarm (by decide), (detectionStage_move _ _ _).alarm (by decide)]
  unfold State.handNotices
  dsimp only
  rw [(silenceNotice_move _ _).alarm (by decide)]
  split
  · exact mergedNotice_alarm s before
  · rw [hstage, mergedNotice_alarm]

variable {s} {z : Nat}

/-- R78: the stage step of QUIET for one TWO_STAGE zone with the audience present. -/
theorem evalStage_quiet (hquiet : s.alarm.stage = .quiet) (hzone : s.alarm.zonesInAlarm = [z])
    (hmode : s.zoneDirect z = false) (haudience : s.phase.phase.audiencePresent = true)
    (hcause : s.evacuationCause = none) :
    s.evalStage = if s.acknowledged then s.enterInvestigate else s.enterAlert := by
  have halert : s.alertCondition = true := by simp [State.alertCondition, hzone, hmode, haudience]
  simp [State.evalStage, hquiet, hcause, halert]

/-- The alarm after the re-evaluation that leaves QUIET with no evacuation condition. -/
theorem reevaluate_leavesQuiet (hquiet : s.alarm.stage = .quiet) (hzone : s.rebuildMerged.alarm.zonesInAlarm = [z])
    (hmode : s.zoneDirect z = false) (haudience : s.phase.phase.audiencePresent = true)
    (hcause : s.rebuildMerged.evacuationCause = none) :
    (s.acknowledged = false → s.reevaluate.alarm.stage = .alert ∧
      s.reevaluate.alarm.ackWindow = some (s.clock.now + s.image.ackTime * 1000)) ∧
    (s.acknowledged = true → s.reevaluate.alarm.stage = .investigate ∧
      s.reevaluate.alarm.investigation = some (s.clock.now + s.image.investigationTime * 1000)) ∧
    s.reevaluate.alarm.order = s.alarm.order ++ [z].filter fun z => !s.alarm.order.contains z := by
  obtain ⟨panel, hup⟩ := appendOrder_eq s.rebuildMerged
  have hstage := evalStage_quiet (s := s.rebuildMerged.appendOrder) (z := z) (by rw [hup]; exact hquiet)
    (by rw [hup]; exact hzone) (by rw [hup]; exact hmode) (by rw [hup]; exact haudience) (by rw [hup]; exact hcause)
  have hack : s.rebuildMerged.appendOrder.acknowledged = s.acknowledged := by rw [hup]; rfl
  have halarm : s.reevaluate.alarm = s.rebuildMerged.appendOrder.evalStage.evalSilenced.alarm :=
    handNotices_alarm _ _
  rw [halarm, evalSilenced_alarm, hstage, hack, hup, hzone]
  cases s.acknowledged with
  | false => exact ⟨fun _ => ⟨rfl, rfl⟩, nofun, rfl⟩
  | true => exact ⟨nofun, fun _ => ⟨rfl, rfl⟩, rfl⟩

end

/-- Settles O31: the reading of each detector, the evaluation, the worst contribution, and the stage step of QUIET. -/
theorem loopSampleReadsEveryDetector : Obligations.LoopSampleReadsEveryDetector := by
  refine ⟨fun b readings s i d z hs hstate hsensed hd hz _ _ => ?_, fun s z r hr hdis => ?_, fun s z => ?_,
    fun s z hquiet hzone hmode haudience hcause => ?_⟩
  · have hmove := sampled_move (s := s) (b := b) (readings := readings)
    refine ⟨_, _, completes_loopSample hs hstate hsensed, sampled_missed, hmove.peers (by decide),
      hmove.phase (by decide), hmove.station (by decide), hmove.clock (by decide),
      by rw [sampled_detectors, List.length_map], loopSample_reads b readings hd hz, fun hne => if_neg hne, fun hb => ?_⟩
    rw [if_pos hb, ← alarmThreshold_eq]
    obtain ⟨hreading, hzone, htype⟩ :=
      sample_kept s.image.thresholds (zone := z) (r := readingOf readings d.position) d
    obtain ⟨hzero, hshort, hvalid, hclear⟩ :=
      sample_status s.image.thresholds (zone := z) (r := readingOf readings d.position) d
    refine ⟨hreading, hzone, htype, hzero, hshort, hvalid, fun h => hclear h (readingOf_lt _ _), fun hpos hlt hdis => ?_⟩
    have hcounted := sample_counted s.image.thresholds d (r := readingOf readings d.position) hpos hlt hdis
    rw [hcounted]
    exact ⟨rfl, rfl, rfl⟩
  · have hactive := activeBy_iff s.image.thresholds r.window (s.validOf z)
    simp only [dwellInForce_eq] at hactive
    have hhold := holdAfter_iff r.hold (s.validOf z)
    have hfaulted := zoneFaulted_iff (s := s) (z := z)
    have hlatch := (evaluated_latch_iff (s := s) (z := z) (r := r)).trans (or_congr_right hactive)
    have hmanual := (evaluated_manual_iff (s := s) (z := z) (r := r)).trans (or_congr_right (and_congr_left' hactive))
    obtain ⟨ifActive, ifLatched, ifHeld, ifFaulted, ifNone⟩ := conditionOf_order
      (active := s.zoneActive z r) (latch := (s.evaluated z r).latch) (hold := holdAfter r.hold (s.validOf z))
      (faulted := s.zoneFaulted z) (fun h => evaluated_latch_iff.mpr (.inr h))
    exact ⟨s.evaluated z r, evalZone_zone hr hdis, hlatch, hhold, hmanual, fun h => ifActive (hactive.mpr h),
      fun h h' => ifLatched (h ∘ hactive.mp) (hlatch.mpr h'), fun h h' => ifHeld (h ∘ hlatch.mp) (hhold.mpr h'),
      fun h h' h'' => ifFaulted (h ∘ hlatch.mp) (h' ∘ hhold.mp) (hfaulted.mpr h''),
      fun h h' h'' => ifNone (h ∘ hlatch.mp) (h' ∘ hhold.mp) (h'' ∘ hfaulted.mp),
      by rw [evalZone_stands hr hdis]; exact hfaulted⟩
  · refine ⟨fun r hr => own_le_merged hr, fun r hr report hlast e he hz => ⟨live_le_merged hr hlast he hz,
      joining_active_merged hr hlast he hz, fun hsilent hsame hjoined hroles h => ?_⟩,
      fun row r hrow hpeer h => loss_le_merged hrow hpeer (supervisorGone_of h), mergedZone_of_empty, fun h => ?_⟩
    · exact silent_latched_le_merged hr hlast he hz hsilent hsame ((notJoining_iff report).mpr ⟨hjoined, hroles⟩)
        ((inAlarm_iff _).mpr h)
    · obtain ⟨before, c, after, hsplit, hworst, hbefore, hafter⟩ := worst_split h
      obtain ⟨hcondition, hsource⟩ := mergedZone_of_worst hworst
      exact ⟨before, c, after, hsplit, hcondition, hsource, hbefore, hafter⟩
  · obtain ⟨halert, hinvestigate, horder⟩ := reevaluate_leavesQuiet hquiet hzone hmode haudience hcause
    refine ⟨halert, hinvestigate, ?_, (reevaluate_reacts s).generation⟩
    rw [horder]
    by_cases hz : z ∈ s.alarm.order <;> simp [hz]

end Sys2Proof.Machine
end

section
/-!
EFFECTS WINDOWS (R64 to R67). The requests EFFECTS OPEN and EFFECTS CLOSE over one zone or all, and the increment of node
time that takes a window or a copy to 0.
-/
namespace Sys2Proof.Machine

/-! ### A changed window list (R64) -/

/-- What a change of the own list comes to: the list, or none where the stage has left QUIET, and the frame. -/
def Lists (s u : State) (windows : List WindowEntry) : Prop :=
  (u.detection.windows = windows ∨ u.alarm.stage ≠ .quiet ∧ u.detection.windows = []) ∧
    u.peers = s.peers ∧ u.phase = s.phase ∧ u.station = s.station ∧ u.clock = s.clock ∧
    u.alarm.generation = s.alarm.generation ∧ u.alarm.disablements = s.alarm.disablements

section
variable (s : State)

theorem changeWindows_reaction (windows : List WindowEntry) :
    Reaction (s.withWindows windows) (s.changeWindows windows) :=
  .trans (.mark _) ((recomputeWindows_reaction _).trans (react_reaction _))

theorem changeWindows_lists (windows : List WindowEntry) : Lists s (s.changeWindows windows) windows :=
  have hmove := changeWindows_move s windows
  have hreaction := changeWindows_reaction s windows
  ⟨hreaction.keepsLists.windows, hmove.peers (by decide), hmove.phase (by decide), hmove.station (by decide),
    hmove.clock (by decide), hreaction.generation, hreaction.disablements⟩

end

/-! ### The requests (R65, R66) -/

section
variable {s : State} {z : Nat}

theorem answers_effectsOpen (hs : s.attends) (zones : List Nat) (duration : Nat) :
    answers (.effectsOpen zones duration) s (requestOpen s zones duration).1 (requestOpen s zones duration).2 :=
  answers_of_owner (requestOpen · zones duration) hs rfl rfl ((requestOpen_move s zones duration).power (by decide))

theorem answers_effectsClose (hs : s.attends) (selection : WindowSelection) :
    answers (.effectsClose selection) s (requestClose s selection).1 (requestClose s selection).2 :=
  answers_of_owner (requestClose · selection) hs rfl rfl ((requestClose_move s selection).power (by decide))

theorem zonesGood_one (hlow : 1 ≤ z) (hhigh : z ≤ 64) : zonesGood [z] = true := by
  simp [zonesGood, zoneInRange, hlow, hhigh]

variable (hdesk : s.roles.desk = true) (heffects : s.authorities.effects = true)
include hdesk heffects

theorem requestOpen_opened (hlow : 1 ≤ z) (hhigh : z ≤ 64) {duration : Nat} (hduration : 0 < duration)
    (hquiet : s.alarm.stage = .quiet) (hinhibitable : s.zoneInhibitable z = true)
    (hclosed : ∀ w ∈ s.detection.windows, w.zone ≠ z) (hroom : s.detection.windows.length < 8) :
    requestOpen s [z] duration =
      (s.changeWindows (insertWindow s.detection.windows ⟨z, min duration Config.windowSeconds⟩),
        { code := if Config.windowSeconds < duration then .clamped else .accepted, results := [(z, .opened)] }) := by
  have hopen : openZone s.zoneInhibitable (min duration Config.windowSeconds) s.detection.windows z =
      (insertWindow s.detection.windows ⟨z, min duration Config.windowSeconds⟩, .opened) := by
    have hnone : (s.detection.windows.any fun w => w.zone == z) = false := by simpa using hclosed
    simp [openZone, hinhibitable, hnone, hroom]
  simp [requestOpen, hdesk, heffects, zonesGood_one hlow hhigh, hduration.ne', hquiet, takeZones, hopen]

theorem requestClose_all : requestClose s .all =
    (if s.detection.windows.isEmpty then s else s.changeWindows [], { code := .accepted }) := by
  simp [requestClose, hdesk, heffects]

theorem requestClose_closed (hlow : 1 ≤ z) (hhigh : z ≤ 64) (hlisted : ∃ w ∈ s.detection.windows, w.zone = z) :
    requestClose s (.zones [z]) =
      (s.changeWindows (s.detection.windows.filter (·.zone ≠ z)),
        { code := .accepted, results := [(z, .closed)] }) := by
  have hclose : closeZone s.detection.windows z = (s.detection.windows.filter (·.zone ≠ z), .closed) := by
    have hany : (s.detection.windows.any fun w => w.zone == z) = true := by simpa using hlisted
    rw [closeZone, if_pos hany]
    simp [bne, Bool.beq_eq_decide_eq]
  simp [requestClose, hdesk, heffects, zonesGood_one hlow hhigh, takeZones, hclose]

end

/-- Settles O32: each request changes the list at once, and what follows keeps it or empties it. -/
theorem effectsRequestsChangeTheWindowList : Obligations.EffectsRequestsChangeTheWindowList := by
  intro s hs hdesk heffects
  refine ⟨fun z duration hlow hhigh hduration hquiet hinhibitable hclosed hroom => ?_, ?_, fun z hlow hhigh hlisted => ?_⟩
  · have hanswers := answers_effectsOpen hs [z] duration
    rw [requestOpen_opened hdesk heffects hlow hhigh hduration hquiet hinhibitable hclosed hroom] at hanswers
    exact ⟨_, hanswers, changeWindows_lists s _⟩
  · have hanswers := answers_effectsClose hs .all
    rw [requestClose_all hdesk heffects] at hanswers
    refine ⟨_, hanswers, ?_⟩
    split
    · next hempty => exact ⟨.inl (List.isEmpty_iff.mp hempty), rfl, rfl, rfl, rfl, rfl, rfl⟩
    · exact changeWindows_lists s []
  · have hanswers := answers_effectsClose hs (.zones [z])
    rw [requestClose_closed hdesk heffects hlow hhigh hlisted] at hanswers
    exact ⟨_, hanswers, changeWindows_lists s _⟩

/-! ### An increment of node time (R64, R67, R184) -/

section
variable (s : State)

/-- The own windows a second later. -/
def Detection.windowsCounted (d : Detection) : List WindowEntry :=
  (d.windows.map fun w => { w with remaining := w.remaining - 1 }).filter (0 < ·.remaining)

/-- The copies of peers' windows a second later. -/
def Detection.copiesCounted (d : Detection) : List WindowCopy :=
  (d.copies.map fun x => { x with remaining := x.remaining - 1 }).filter (0 < ·.remaining)

/-- The lists counted down, before any zone is evaluated. -/
def State.listsCounted : State :=
  (s.withWindows s.detection.windowsCounted).withCopies s.detection.copiesCounted

theorem countDownWindows_reaction : Reaction s.listsCounted s.countDownWindows :=
  .trans (.markIf _ _) (recomputeWindows_reaction _)

theorem realarmReached_reaction : Reaction s s.realarmReached := .ite (review_reaction s) (.refl s)

/-- The blocks that count before the windows leave the Detection Unit and the alarm. -/
theorem beforeWindows_move (wasProven : Bool) :
    Move [.clock, .lines, .station, .draws, .phase, .calls, .bays] s (s.second.proofAges wasProven).intervalSecond :=
  ((second_move s).mono (by decide)).trans ((proofAges_move _ _).trans ((intervalSecond_move _).mono (by decide)))

/-- From the lists counted down to the end of the increment they are kept, unless the stage leaves QUIET. -/
theorem increment_keepsLists : KeepsLists s.listsCounted s.increment := by
  have hbefore := beforeWindows_move s s.proven
  unfold State.increment State.blocksCount
  generalize (s.second.proofAges s.proven).intervalSecond = t at hbefore ⊢
  have hdetection := hbefore.detection (by decide)
  have hcounted : KeepsLists s.listsCounted t.listsCounted := by
    refine .of_eq ?_ ?_
    · simp only [State.listsCounted, State.withCopies, State.withWindows, State.withDetection_detection, hdetection]
    · change s.alarm.stage ≠ _ → t.alarm.stage ≠ _
      rw [hbefore.alarm (by decide)]
      exact id
  have hwindows := ((countDownWindows_reaction t).trans (react_reaction _)).keepsLists
  have hleak := leak_move t.countDownWindows.react
  have hscores : KeepsLists t.countDownWindows.react t.countDownWindows.react.leak :=
    .of_eq (hleak.detection (by decide)) (by rw [hleak.alarm (by decide)]; exact id)
  exact hcounted.trans (hwindows.trans (hscores.trans (realarmReached_reaction _).keepsLists))

end

/-- The rows of R64 and R67 and the tests by which they fall due. -/
theorem exec_windowRow {s : State} {c : Instr} {due : Prop}
    (h : (∃ z, c = .effectsWindowExpiry z ∧ (due ↔ ∃ w ∈ s.detection.windows, w.zone = z ∧ w.remaining ≤ 1)) ∨
      ∃ desk z, c = .windowCopyExpiry desk z ∧
        (due ↔ ∃ x ∈ s.detection.copies, x.desk = desk ∧ x.zone = z ∧ x.remaining ≤ 1)) :
    idleLine c = none ∧ ∃ test : Bool, (test = true ↔ due) ∧ exec c s = whenDue s test := by
  rcases h with ⟨z, rfl, hdue⟩ | ⟨desk, z, rfl, hdue⟩
  · exact ⟨rfl, _, by simp [hdue], rfl⟩
  · exact ⟨rfl, _, by simp [hdue, and_assoc], rfl⟩

/-- Settles O33: a row is the increment that is due, and the increment counts both lists down. -/
theorem expiredWindowsLeaveTheirLists : Obligations.ExpiredWindowsLeaveTheirLists := by
  intro s c due hs htime hrow
  obtain ⟨hidle, test, htest, hexec⟩ := exec_windowRow hrow
  have hcompletes := completes_whenDue hidle hexec hs
  refine ⟨fun hdue => ?_, fun hdue => ?_⟩
  · rw [if_pos (htest.mpr hdue)] at hcompletes
    obtain ⟨hdetectors, hcopies, hwindows, -⟩ := increment_keepsLists s
    exact ⟨s.increment, hcompletes, completes_increment hs, increment_station htime, hdetectors,
      increment_generation s, hcopies, hwindows⟩
  · rwa [if_neg (mt htest.mp hdue)] at hcompletes

end Sys2Proof.Machine
end

section
/-!
DISABLEMENT (R62, R63, R87). What an operation on one zone leaves of another, what the recomputation of the disabled
fields makes of a zone, and what the reaction to it leaves.
-/
namespace Sys2Proof.Machine

/-! ### Away from a zone -/

/-- From `s` to `t` nothing came about at the zone: its records, its detectors and ZONE FAULT stand, and so does what
its evaluation reads of the station. -/
structure AwayFrom (z : Nat) (s t : State) : Prop where
  records : t.recordsOf z = s.recordsOf z
  detectors : t.detectorsOf z = s.detectorsOf z
  stands : t.stands (.zoneFault z) = s.stands (.zoneFault z)
  station : t.station = s.station

namespace AwayFrom

variable {z : Nat} {s t u : State}

theorem refl (s : State) : AwayFrom z s s := ⟨rfl, rfl, rfl, rfl⟩

theorem trans (h : AwayFrom z s t) (h' : AwayFrom z t u) : AwayFrom z s u :=
  ⟨h'.records.trans h.records, h'.detectors.trans h.detectors, h'.stands.trans h.stands, h'.station.trans h.station⟩

theorem zone (h : AwayFrom z s t) : t.zone z = s.zone z := by rw [zone_eq_head?, zone_eq_head?, h.records]

theorem zoneFaulted (h : AwayFrom z s t) : t.zoneFaulted z = s.zoneFaulted z := by
  simp only [State.zoneFaulted, State.heldByConfiguration, State.roles, h.detectors, h.station]

/-- A change beside the Detection Unit that leaves the key. -/
theorem of_detection (hd : t.detection = s.detection) (hf : t.stands (.zoneFault z) = s.stands (.zoneFault z))
    (hs : t.station = s.station) : AwayFrom z s t :=
  ⟨by rw [State.recordsOf, hd]; rfl, by rw [State.detectorsOf, hd]; rfl, hf, hs⟩

end AwayFrom

theorem withZone_away {s : State} {z : Nat} {record : ZoneRecord} (h : record.zone ≠ z) :
    AwayFrom z s (s.withZone record) :=
  ⟨recordsOf_withZone_of_ne h, rfl, rfl, rfl⟩

theorem FaultMove.away {z : Nat} {s t : State} {key : FaultKey} (h : FaultMove key s t) (hk : key ≠ .zoneFault z) :
    AwayFrom z s t :=
  have hmove := h.move (ps := [])
  .of_detection (hmove.detection (by decide)) (h.stands_other hk.symm) (hmove.station (by decide))

theorem log_away (z : Nat) (s : State) (e : LogEvent) : AwayFrom z s (s.log e) := .of_detection rfl rfl rfl

theorem evalZone_away {y z : Nat} (h : y ≠ z) (s : State) : AwayFrom z s (s.evalZone y) := by
  have hstands : (s.evalZone y).stands (.zoneFault z) = s.stands (.zoneFault z) :=
    evalZone_stands_other fun e => h (FaultKey.zoneFault.inj e).symm
  have hstation := (evalZone_move s y).station (by decide)
  rcases evalZone_detection s y with e | ⟨record, rfl, e⟩
  · rw [e]
    exact .of_detection rfl rfl rfl
  · have haway := withZone_away (s := s) h
    exact ⟨by rw [State.recordsOf, e]; exact haway.records, by rw [State.detectorsOf, e]; rfl, hstands, hstation⟩

/-- What holds at a zone and is kept where nothing comes about there, and by the handing, the window field and the
evaluation of the zone itself, is kept by a reaction. -/
theorem Reaction.keeps {z : Nat} {P : State → Prop} (haway : ∀ s t, AwayFrom z s t → P s → P t)
    (hzone : ∀ s r record, r ∈ s.recordsOf z → record = r.hand ∨ (∃ window, record = { r with window := window }) →
      P s → P (s.withZone record))
    (heval : ∀ s, P s → P (s.evalZone z)) {s t : State} (h : Reaction s t) : P s → P t := by
  have hrecord (s : State) (r record : ZoneRecord) (hr : r ∈ s.detection.zones) (hnumber : record.zone = r.zone)
      (hkind : record = r.hand ∨ ∃ window, record = { r with window := window }) (hs : P s) : P (s.withZone record) := by
    by_cases hz : r.zone = z
    · exact hzone s r record (mem_recordsOf.mpr ⟨hr, hz⟩) hkind hs
    · exact haway _ _ (withZone_away (hnumber ▸ hz)) hs
  induction h with
  | refl s => exact id
  | trans _ _ ih ih' => exact ih' ∘ ih
  | hand s hr => exact hrecord s _ _ hr rfl (.inl rfl)
  | window s hr window => exact hrecord s _ _ hr rfl (.inr ⟨window, rfl⟩)
  | eval s y =>
    by_cases hy : y = z
    · exact hy ▸ heval s
    · exact haway _ _ (evalZone_away hy s)
  | fault h hk => exact haway _ _ (h.away fun e => by rw [e] at hk; exact Bool.noConfusion hk)
  | close s _ => exact haway _ _ ⟨rfl, rfl, rfl, rfl⟩
  | _ => exact haway _ _ (.of_detection rfl rfl rfl)

/-! ### Every record of a zone -/

/-- The zone has a record, and a property holds of all that stand under its number. -/
structure AllAt (z : Nat) (Q : ZoneRecord → Prop) (s : State) : Prop where
  nonempty : s.recordsOf z ≠ []
  all : ∀ r ∈ s.recordsOf z, Q r

namespace AllAt

variable {z : Nat} {Q : ZoneRecord → Prop} {s t : State} {record : ZoneRecord}

theorem away (h : AwayFrom z s t) (hs : AllAt z Q s) : AllAt z Q t := ⟨h.records ▸ hs.nonempty, h.records ▸ hs.all⟩

theorem zone (h : AllAt z Q s) : ∃ r, s.zone z = some r ∧ Q r := by
  obtain ⟨r, hr⟩ := List.exists_mem_of_ne_nil _ h.nonempty
  cases hz : s.zone z with
  | none => exact absurd (List.head?_eq_none_iff.mp (zone_eq_head? s z ▸ hz)) h.nonempty
  | some r => exact ⟨r, rfl, h.all r (mem_recordsOf.mpr ⟨zone_mem hz, zone_number hz⟩)⟩

/-- A record put in place stands for all of its number. -/
theorem withZone (h : s.recordsOf z ≠ []) (hz : record.zone = z) (hQ : Q record) : AllAt z Q (s.withZone record) := by
  refine ⟨fun hnil => ?_, fun r hr => eq_of_mem_recordsOf_withZone hz hr ▸ hQ⟩
  subst hz
  obtain ⟨r, hr, -⟩ := AllAt.zone (Q := fun _ => True) ⟨h, fun _ _ => trivial⟩
  have hzone := zone_withZone hr
  rw [zone_eq_head?, hnil] at hzone
  exact nomatch hzone

end AllAt

/-! ### One zone's disabled field (R62, R63) -/

section
variable {s : State} {y z : Nat} {r : ZoneRecord}

/-- The record of R63 when the disabled field changes to yes. -/
def ZoneRecord.disable (r : ZoneRecord) : ZoneRecord :=
  { r with disabled := true, latch := false, manual := false, hold := false, condition := .disabled }

/-- The state with the counts of a zone's detectors at 0. -/
def State.withCountsCleared (s : State) (z : Nat) : State :=
  s.withDetectors (s.detection.detectors.map fun d => if d.zone = z then d.clearCounts else d)

theorem disableZone_eq (s : State) (r : ZoneRecord) : s.disableZone r =
    (((s.withZone r.disable).withCountsCleared r.zone).clearFault (.zoneFault r.zone)).log (.zoneDisabled r.zone) := rfl

theorem withCountsCleared_away (h : y ≠ z) (s : State) : AwayFrom z s (s.withCountsCleared y) := by
  refine ⟨rfl, ?_, rfl, rfl⟩
  change (s.detection.detectors.map _).filter _ = s.detection.detectors.filter _
  induction s.detection.detectors with
  | nil => rfl
  | cons d ds ih =>
    by_cases hd : d.zone = y
    · have hdz : d.zone ≠ z := hd ▸ h
      have hcleared : d.clearCounts.zone ≠ z := hdz
      rw [List.map_cons, if_pos hd, List.filter_cons_of_neg (by simpa using hcleared),
        List.filter_cons_of_neg (by simpa using hdz), ih]
    · simp [hd, List.filter_cons, ih]

theorem disableZone_away (h : r.zone ≠ z) : AwayFrom z s (s.disableZone r) := by
  have hkey : FaultKey.zoneFault r.zone ≠ .zoneFault z := fun e => h (FaultKey.zoneFault.inj e)
  rw [disableZone_eq]
  exact (withZone_away (record := r.disable) h).trans ((withCountsCleared_away h _).trans
    (((clearFault_move _ _).away hkey).trans (log_away z _ _)))

theorem enableZone_away (h : r.zone ≠ z) : AwayFrom z s (s.enableZone r) :=
  (withZone_away (record := { r with disabled := false }) h).trans ((log_away z _ _).trans (evalZone_away h _))

theorem recomputeDisabledZone_away (h : y ≠ z) (s : State) : AwayFrom z s (s.recomputeDisabledZone y) := by
  unfold State.recomputeDisabledZone
  split
  · exact .refl s
  · next r hr =>
    have hne : r.zone ≠ z := zone_number hr ▸ h
    split
    · exact .refl s
    · split
      · exact enableZone_away hne
      · exact disableZone_away hne

theorem recomputeDisabledZone_same (h : s.zone z = some r) (hd : s.listedDisabled z = r.disabled) :
    s.recomputeDisabledZone z = s := by
  rw [State.recomputeDisabledZone, h]
  exact if_pos hd

theorem recomputeDisabledZone_disable (h : s.zone z = some r) (hlisted : s.listedDisabled z = true)
    (hd : r.disabled = false) : s.recomputeDisabledZone z = s.disableZone r := by
  simp [State.recomputeDisabledZone, h, hlisted, hd]

theorem recomputeDisabledZone_enable (h : s.zone z = some r) (hlisted : s.listedDisabled z = false)
    (hd : r.disabled = true) : s.recomputeDisabledZone z = s.enableZone r := by
  simp [State.recomputeDisabledZone, h, hlisted, hd]

theorem recomputeDisabledZone_listed (s : State) (y z : Nat) :
    (s.recomputeDisabledZone y).listedDisabled z = s.listedDisabled z := by
  have hmove := recomputeDisabledZone_move s y
  rw [State.listedDisabled, State.roles, hmove.station (by decide), hmove.alarm (by decide), hmove.peers (by decide)]
  rfl

/-- What the recomputation of a zone's own field brings about, and what the recomputation of the others leaves, holds when
every field has been recomputed. -/
theorem recomputeDisabled_reaches {P : State → Prop} (hown : z ∈ s.ownZones)
    (haway : ∀ t u, AwayFrom z t u → P t → P u)
    (hreach : ∀ t, AwayFrom z s t → t.listedDisabled z = s.listedDisabled z → P (t.recomputeDisabledZone z))
    (hstay : ∀ t, t.listedDisabled z = s.listedDisabled z → P t → P (t.recomputeDisabledZone z)) :
    P s.recomputeDisabled := by
  have hlater (zones : List Nat) (t : State) (hlisted : t.listedDisabled z = s.listedDisabled z) (ht : P t) :
      P (zones.foldl State.recomputeDisabledZone t) := by
    induction zones generalizing t with
    | nil => exact ht
    | cons y ys ih =>
      refine ih _ ((recomputeDisabledZone_listed t y z).trans hlisted) ?_
      by_cases hy : y = z
      · exact hy ▸ hstay t hlisted ht
      · exact haway _ _ (recomputeDisabledZone_away hy t) ht
  have hfirst (zones : List Nat) (t : State) (hz : z ∈ zones) (hlisted : t.listedDisabled z = s.listedDisabled z)
      (ht : AwayFrom z s t) : P (zones.foldl State.recomputeDisabledZone t) := by
    induction zones generalizing t with
    | nil => exact absurd hz (List.not_mem_nil)
    | cons y ys ih =>
      have hnext := (recomputeDisabledZone_listed t y z).trans hlisted
      by_cases hy : y = z
      · exact hlater ys _ hnext (hy ▸ hreach t ht hlisted)
      · exact ih _ ((List.mem_cons.mp hz).resolve_left (Ne.symm hy)) hnext
          (ht.trans (recomputeDisabledZone_away hy t))
  exact hfirst _ s hown rfl (.refl s)

theorem mem_ownZones (h : s.zone z = some r) : z ∈ s.ownZones :=
  List.mem_map.mpr ⟨r, zone_mem h, zone_number h⟩

theorem recordsOf_ne_nil (h : s.zone z = some r) : s.recordsOf z ≠ [] :=
  List.ne_nil_of_mem (mem_recordsOf.mpr ⟨zone_mem h, zone_number h⟩)

end

/-! ### A zone that becomes DISABLED -/

section
variable {s t : State} {z : Nat} {r : ZoneRecord}

/-- The record of a zone that is DISABLED (R63). -/
def ZoneRecord.isDisabled (r : ZoneRecord) : Prop := r.disabled = true ∧ r.latch = false ∧ r.condition = .disabled

theorem disableZone_disabled (h : s.zone z = some r) : AllAt z ZoneRecord.isDisabled (s.disableZone r) := by
  obtain rfl := zone_number h
  have hzone : AllAt r.zone ZoneRecord.isDisabled (s.withZone r.disable) :=
    .withZone (recordsOf_ne_nil h) rfl ⟨rfl, rfl, rfl⟩
  have hrecords : (s.disableZone r).recordsOf r.zone = (s.withZone r.disable).recordsOf r.zone := by
    rw [disableZone_eq, State.recordsOf, (log_move (ps := []) _ _).detection (by decide),
      (clearFault_moved (ps := []) _ _).detection (by decide)]
    rfl
  exact ⟨hrecords ▸ hzone.nonempty, hrecords ▸ hzone.all⟩

theorem evalZone_isDisabled (h : AllAt z ZoneRecord.isDisabled s) : AllAt z ZoneRecord.isDisabled (s.evalZone z) := by
  obtain ⟨r, hr, hdisabled, hlatch, -⟩ := h.zone
  have hz := zone_number hr
  rw [evalZone_disabled hr hdisabled]
  exact .withZone h.nonempty hz ⟨hdisabled, hlatch, rfl⟩

/-- R62, R63: the zone that is listed and was not disabled is DISABLED once every field has been recomputed. -/
theorem recomputeDisabled_disables (h : s.zone z = some r) (hlisted : s.listedDisabled z = true)
    (hd : r.disabled = false) : AllAt z ZoneRecord.isDisabled s.recomputeDisabled := by
  refine recomputeDisabled_reaches (mem_ownZones h) (fun _ _ haway => .away haway) (fun t ht hsame => ?_)
    (fun t hsame ht => ?_)
  · have hr : t.zone z = some r := ht.zone.trans h
    rw [recomputeDisabledZone_disable hr (hsame.trans hlisted) hd]
    exact disableZone_disabled hr
  · obtain ⟨r', hr', hdisabled, -⟩ := ht.zone
    rwa [recomputeDisabledZone_same hr' (by rw [hsame, hlisted, hdisabled])]

theorem Reaction.isDisabled (h : Reaction s t) : AllAt z ZoneRecord.isDisabled s → AllAt z ZoneRecord.isDisabled t := by
  refine h.keeps (fun _ _ haway => .away haway) (fun s r record hr hkind hs => ?_) fun s => evalZone_isDisabled
  have hz := (mem_recordsOf.mp hr).2
  rcases hkind with rfl | ⟨window, rfl⟩
  · exact .withZone hs.nonempty hz (hs.all r hr)
  · exact .withZone hs.nonempty hz (hs.all r hr)

end

/-! ### A zone that is enabled -/

section
variable {s t : State} {z : Nat} {r : ZoneRecord} {fault : Bool}

/-- The detectors of the zone have their counts at 0, and the dwell is 1 or more. -/
structure CountsClear (z : Nat) (s : State) : Prop where
  counts : ∀ d ∈ s.detectorsOf z, d.alarmCount = 0 ∧ d.prealarmCount = 0
  dwell : 1 ≤ s.image.thresholds.dwell

theorem CountsClear.away (h : AwayFrom z s t) (hs : CountsClear z s) : CountsClear z t :=
  ⟨by rw [h.detectors]; exact hs.counts, by rw [State.image, h.station]; exact hs.dwell⟩

theorem dwellInForce_pos {t : Thresholds} (h : 1 ≤ t.dwell) (type : DetectorType) (window : Bool) :
    1 ≤ dwellInForce t type window := by
  rw [dwellInForce_eq]
  split
  · exact le_rfl
  · split <;> omega

theorem CountsClear.valid (h : CountsClear z s) {d : Detector} (hd : d ∈ s.validOf z) :
    d.alarmCount = 0 ∧ d.prealarmCount = 0 := h.counts d (List.mem_filter.mp hd).1

/-- R56: with every count at 0 no detector is at its dwell. -/
theorem CountsClear.not_active (h : CountsClear z s) (r : ZoneRecord) : s.zoneActive z r = false := by
  rw [← Bool.not_eq_true, State.zoneActive, activeBy_iff]
  rintro (⟨d, hd, hdwell⟩ | hcoincide)
  · have hpos := dwellInForce_pos h.dwell d.type r.window
    rw [(h.valid hd).1] at hdwell
    omega
  · obtain ⟨d, hd⟩ := List.exists_mem_of_length_pos (Nat.lt_of_lt_of_le Nat.zero_lt_two hcoincide)
    obtain ⟨hd, hdwell⟩ := List.mem_filter.mp hd
    have hpos := dwellInForce_pos h.dwell d.type r.window
    rw [(h.valid hd).2, decide_eq_true_iff] at hdwell
    omega

/-- R58: nor is the prealarm hold set. -/
theorem CountsClear.not_held (h : CountsClear z s) : holdAfter false (s.validOf z) = false := by
  rw [← Bool.not_eq_true, holdAfter_iff]
  rintro (⟨d, hd, hcount⟩ | ⟨hhold, -⟩)
  · rw [(h.valid hd).2] at hcount
    omega
  · exact Bool.noConfusion hhold

/-- The record of an enabled zone with neither alarm nor prealarm. -/
def ZoneRecord.rests (faulted : Bool) (r : ZoneRecord) : Prop :=
  r.disabled = false ∧ r.latch = false ∧ r.hold = false ∧ r.condition = if faulted then .fault else .normal

theorem CountsClear.evaluated_rests (h : CountsClear z s) (hd : r.disabled = false) (hlatch : r.latch = false)
    (hhold : r.hold = false) : (s.evaluated z r).rests (s.zoneFaulted z) := by
  have hactive := h.not_active r
  have hheld := h.not_held
  refine ⟨hd, ?_, ?_, ?_⟩ <;> simp [State.evaluated, conditionOf, hactive, hheld, hlatch, hhold]

/-- A zone at rest: its evaluation gives what stands. -/
structure Settled (z : Nat) (fault : Bool) (s : State) : Prop where
  records : AllAt z (ZoneRecord.rests fault) s
  clear : CountsClear z s
  faulted : s.zoneFaulted z = fault
  stands : s.stands (.zoneFault z) = fault

theorem Settled.away (h : AwayFrom z s t) (hs : Settled z fault s) : Settled z fault t :=
  ⟨hs.records.away h, hs.clear.away h, h.zoneFaulted.trans hs.faulted, h.stands.trans hs.stands⟩

/-- R63: the evaluation of an enabled zone with no latch, no hold and every count at 0 brings it to rest. -/
theorem evalZone_settled (hclear : CountsClear z s) (h : s.zone z = some r) (hd : r.disabled = false)
    (hlatch : r.latch = false) (hhold : r.hold = false) : Settled z (s.zoneFaulted z) (s.evalZone z) := by
  have hdetection := evalZone_enabled_detection h hd
  have hstation : (s.evalZone z).station = s.station := (evalZone_move s z).station (by decide)
  have hdetectors : (s.evalZone z).detectorsOf z = s.detectorsOf z := by rw [State.detectorsOf, hdetection]; rfl
  have hrecords : (s.evalZone z).recordsOf z = (s.withZone (s.evaluated z r)).recordsOf z := by
    rw [State.recordsOf, hdetection]; rfl
  have hz := zone_number h
  have hrests : AllAt z (ZoneRecord.rests (s.zoneFaulted z)) (s.withZone (s.evaluated z r)) :=
    .withZone (recordsOf_ne_nil h) hz (hclear.evaluated_rests hd hlatch hhold)
  refine ⟨⟨hrecords ▸ hrests.nonempty, hrecords ▸ hrests.all⟩, ⟨hdetectors ▸ hclear.counts, ?_⟩, ?_, evalZone_stands h hd⟩
  · rw [State.image, hstation]
    exact hclear.dwell
  · simp only [State.zoneFaulted, State.heldByConfiguration, State.roles, hdetectors, hstation]

theorem Settled.evalZone (h : Settled z fault s) : Settled z fault (s.evalZone z) := by
  obtain ⟨r, hr, hd, hlatch, hhold, -⟩ := h.records.zone
  have hsettled := evalZone_settled h.clear hr hd hlatch hhold
  rwa [h.faulted] at hsettled

theorem Reaction.settled (h : Reaction s t) : Settled z fault s → Settled z fault t := by
  refine h.keeps (fun _ _ haway => .away haway) (fun s r record hr hkind hs => ?_) fun s => Settled.evalZone
  have hz := (mem_recordsOf.mp hr).2
  have hrests : AllAt z (ZoneRecord.rests fault) (s.withZone record) := by
    rcases hkind with rfl | ⟨window, rfl⟩
    · exact .withZone hs.records.nonempty hz (hs.records.all r hr)
    · exact .withZone hs.records.nonempty hz (hs.records.all r hr)
  exact ⟨hrests, ⟨hs.clear.counts, hs.clear.dwell⟩, hs.faulted, hs.stands⟩

theorem enableZone_settled (hclear : CountsClear z s) (h : s.zone z = some r) (hlatch : r.latch = false)
    (hhold : r.hold = false) : Settled z (s.zoneFaulted z) (s.enableZone r) := by
  obtain rfl := zone_number h
  exact evalZone_settled (s := (s.withZone { r with disabled := false }).log (.zoneEnabled r.zone))
    ⟨hclear.counts, hclear.dwell⟩ (zone_withZone (record := { r with disabled := false }) h) rfl hlatch hhold

/-- R62, R63: the disabled zone that no desk lists is at rest once every field has been recomputed. -/
theorem recomputeDisabled_enables (h : s.zone z = some r) (hlisted : s.listedDisabled z = false)
    (hd : r.disabled = true) (hlatch : r.latch = false) (hhold : r.hold = false) (hclear : CountsClear z s) :
    Settled z (s.zoneFaulted z) s.recomputeDisabled := by
  refine recomputeDisabled_reaches (mem_ownZones h) (fun _ _ haway => .away haway) (fun t ht hsame => ?_)
    (fun t hsame ht => ?_)
  · have hr : t.zone z = some r := ht.zone.trans h
    rw [recomputeDisabledZone_enable hr (hsame.trans hlisted) hd, ← ht.zoneFaulted]
    exact enableZone_settled (hclear.away ht) hr hlatch hhold
  · obtain ⟨r', hr', hdisabled, -⟩ := ht.records.zone
    rwa [recomputeDisabledZone_same hr' (by rw [hsame, hlisted, hdisabled])]

end

/-! ### The requests (R87) -/

section
variable {s : State} {z : Nat}

theorem answers_disable (hs : s.attends) (z : Nat) :
    answers (.disable z) s (requestDisable s z).1 (requestDisable s z).2 :=
  answers_of_owner (requestDisable · z) hs rfl rfl ((requestDisable_move s z).power (by decide))

theorem answers_enable (hs : s.attends) (z : Nat) :
    answers (.enable z) s (requestEnable s z).1 (requestEnable s z).2 :=
  answers_of_owner (requestEnable · z) hs rfl rfl ((requestEnable_move s z).power (by decide))

/-- The state whose own list has been changed, before the Detection Unit takes it up. -/
def State.relisted (s : State) (zones : List Nat) (event : LogEvent) : State :=
  ((s.setAlarm fun a => { a with disablements := zones }).log event).mark

theorem setDisablements_eq (zones : List Nat) (event : LogEvent) :
    s.setDisablements zones event = (s.relisted zones event).recomputeDisabled.react := rfl

theorem setDisablements_list (zones : List Nat) (event : LogEvent) :
    (s.setDisablements zones event).alarm.disablements = zones := by
  rw [setDisablements_eq, (react_reaction _).disablements, (recomputeDisabled_move _).alarm (by decide)]
  rfl

theorem setDisablements_generation (zones : List Nat) (event : LogEvent) :
    (s.setDisablements zones event).alarm.generation = s.alarm.generation := by
  rw [setDisablements_eq, (react_reaction _).generation, (recomputeDisabled_move _).alarm (by decide)]
  rfl

variable (hdesk : s.roles.desk = true) (hreset : s.authorities.reset = true) (hlow : 1 ≤ z) (hhigh : z ≤ 64)
include hdesk hreset hlow hhigh

theorem requestDisable_listed (h : z ∈ s.alarm.disablements) : requestDisable s z = (s, { code := .accepted }) := by
  simp [requestDisable, hdesk, hreset, zoneInRange, hlow, hhigh, h]

theorem requestDisable_alarm (h : z ∉ s.alarm.disablements) (halarm : (s.alarm.zoneAt z).condition.inAlarm = true) :
    requestDisable s z = (s, { code := .refusedState .alarm }) := by
  simp [requestDisable, hdesk, hreset, zoneInRange, hlow, hhigh, h, halarm]

theorem requestDisable_accepted (h : z ∉ s.alarm.disablements)
    (halarm : (s.alarm.zoneAt z).condition.inAlarm = false) (hroom : s.alarm.disablements.length < 8) :
    requestDisable s z =
      (s.setDisablements (insertZone s.alarm.disablements z) (.disablementSet z), { code := .accepted }) := by
  simp [requestDisable, hdesk, hreset, zoneInRange, hlow, hhigh, h, halarm, hroom]

theorem requestEnable_unlisted (h : z ∉ s.alarm.disablements) :
    requestEnable s z = (s, { code := .refusedState .notDisabled }) := by
  simp [requestEnable, hdesk, hreset, zoneInRange, hlow, hhigh, h]

theorem requestEnable_accepted (h : z ∈ s.alarm.disablements) : requestEnable s z =
    (s.setDisablements (s.alarm.disablements.filter (· ≠ z)) (.disablementCleared z), { code := .accepted }) := by
  simp [requestEnable, hdesk, hreset, zoneInRange, hlow, hhigh, h]

end

section
variable {s : State} {z : Nat} {r : ZoneRecord}

theorem mem_insertZone (zones : List Nat) (z : Nat) : z ∈ insertZone zones z := by simp [insertZone]

/-- R87 with R62: the own desk lists the zone, so it becomes DISABLED. -/
theorem disabled_after (hdesk : s.roles.desk = true) {zones : List Nat} (hz : z ∈ zones) (event : LogEvent)
    (h : s.zone z = some r) (hd : r.disabled = false) :
    ∃ r', (s.setDisablements zones event).zone z = some r' ∧ r'.isDisabled := by
  have hlisted : (s.relisted zones event).listedDisabled z = true := by
    have hown : ((s.relisted zones event).roles.desk && (s.relisted zones event).alarm.disablements.contains z) = true :=
      Bool.and_eq_true_iff.mpr ⟨hdesk, List.contains_iff_mem.mpr hz⟩
    rw [State.listedDisabled, hown, Bool.true_or]
  exact ((react_reaction _).isDisabled (recomputeDisabled_disables (s := s.relisted zones event) h hlisted hd)).zone

/-- R62: a zone off the own list that no LIVE peer's honoured list holds. -/
theorem listedDisabled_eq_false (hown : z ∉ s.alarm.disablements)
    (hpeers : ∀ x ∈ s.peers.records, ∀ report, x.state = .live → x.honoured.disablements = true →
      x.lastReport = some report → z ∉ report.desk.disablements) : s.listedDisabled z = false := by
  rw [State.listedDisabled, Bool.or_eq_false_iff]
  refine ⟨by simp [hown], List.any_eq_false.mpr fun x hx => ?_⟩
  split
  · next report hreport =>
    unfold PeerRecord.liveReport at hreport
    split at hreport
    · next hlive => simpa using hpeers x hx report hlive.1 hlive.2 hreport
    · exact nomatch hreport
  · decide

/-- R87 with R62 and R63: the zone that no other desk lists is enabled, and evaluated to rest. -/
theorem settled_after {zones : List Nat} (hz : z ∉ zones) (event : LogEvent) (h : s.zone z = some r)
    (hd : r.disabled = true) (hlatch : r.latch = false) (hhold : r.hold = false)
    (hpeers : ∀ x ∈ s.peers.records, ∀ report, x.state = .live → x.honoured.disablements = true →
      x.lastReport = some report → z ∉ report.desk.disablements) (hclear : CountsClear z s) :
    Settled z (s.zoneFaulted z) (s.setDisablements zones event) :=
  have hlisted : (s.relisted zones event).listedDisabled z = false := listedDisabled_eq_false hz hpeers
  (react_reaction _).settled (recomputeDisabled_enables (s := s.relisted zones event) h hlisted hd hlatch hhold
    ⟨hclear.counts, hclear.dwell⟩)

end

theorem countsClear_of {s : State} {z : Nat}
    (h : ∀ d ∈ s.detection.detectors, d.zone = z → d.alarmCount = 0 ∧ d.prealarmCount = 0 ∧ d.clearRun = 0)
    (hdwell : 1 ≤ s.image.thresholds.dwell) : CountsClear z s := by
  refine ⟨fun d hd => ?_, hdwell⟩
  obtain ⟨hmem, hzone⟩ := List.mem_filter.mp hd
  obtain ⟨halarm, hprealarm, -⟩ := h d hmem (beq_iff_eq.mp hzone)
  exact ⟨halarm, hprealarm⟩

/-- R51, R56: the test of FAULT over all detectors of the station. -/
theorem zoneFaulted_detectors_iff {s : State} {z : Nat} : s.zoneFaulted z = true ↔
    (∃ d ∈ s.detection.detectors, d.zone = z ∧ d.status = .faulted) ∨
      s.station.joining = false ∧ (s.roles.detect = false ∨ ∀ d ∈ s.detection.detectors, d.zone ≠ z) := by
  rw [zoneFaulted_iff]
  simp [State.detectorsOf, and_assoc]

/-- Settles O34: the own list is changed at once, and the recomputation of the disabled fields with the reaction to it
leaves the zone DISABLED, or enabled and at rest. -/
theorem disableAndEnableChangeTheOwnList : Obligations.DisableAndEnableChangeTheOwnList := by
  intro z s hs hdesk hreset hlow hhigh
  have hdisable := answers_disable hs z
  have henable := answers_enable hs z
  refine ⟨fun hz hactive hlatched hroom => ?_, fun hz => ?_, fun hz => ?_, fun hz => ⟨?_, fun halarm => ?_⟩⟩
  · have halarm : (s.alarm.zoneAt z).condition.inAlarm = false :=
      Bool.eq_false_iff.mpr fun h => ((inAlarm_iff _).mp h).elim hactive hlatched
    rw [requestDisable_accepted hdesk hreset hlow hhigh hz halarm hroom] at hdisable
    have hmove := setDisablements_move s (insertZone s.alarm.disablements z) (.disablementSet z)
    exact ⟨_, hdisable, ⟨hmove.peers (by decide), hmove.phase (by decide), hmove.station (by decide),
      hmove.clock (by decide), setDisablements_generation _ _⟩, setDisablements_list _ _,
      fun r hr hd => disabled_after hdesk (mem_insertZone _ z) _ hr hd⟩
  · rw [requestEnable_accepted hdesk hreset hlow hhigh hz] at henable
    have hmove := setDisablements_move s (s.alarm.disablements.filter (· ≠ z)) (.disablementCleared z)
    refine ⟨_, henable, ⟨hmove.peers (by decide), hmove.phase (by decide), hmove.station (by decide),
      hmove.clock (by decide), setDisablements_generation _ _⟩, setDisablements_list _ _, ?_⟩
    intro r hr hd hlatch hhold hpeers hcounts hdwell
    have hclear : CountsClear z s := countsClear_of hcounts hdwell
    have hsettled := settled_after (zones := s.alarm.disablements.filter (· ≠ z)) (by simp) (.disablementCleared z) hr hd
      hlatch hhold hpeers hclear
    obtain ⟨r', hr', hdisabled, hlatch', hhold', hcondition⟩ := hsettled.records.zone
    have hfaulted := zoneFaulted_detectors_iff (s := s) (z := z)
    refine ⟨r', hr', hdisabled, hlatch', hhold', fun h => ?_, fun h => ?_, by rw [hsettled.stands]; exact hfaulted⟩
    · rw [hcondition, if_pos (hfaulted.mpr h)]
    · rw [hcondition, if_neg (h ∘ hfaulted.mp)]
  · rwa [requestDisable_listed hdesk hreset hlow hhigh hz] at hdisable
  · rwa [requestEnable_unlisted hdesk hreset hlow hhigh hz] at henable
  · rwa [requestDisable_alarm hdesk hreset hlow hhigh hz ((inAlarm_iff _).mpr halarm)] at hdisable

end Sys2Proof.Machine
end

section
/-!
THE ALARM WITHIN A GENERATION (R75 to R81). What a re-evaluation and the reaction to it make of the alarm: the stage never
falls, the alarm order list never comes to hold a zone twice, and what an entry to a stage sets stands as long as the stage.
-/
namespace Sys2Proof.Machine

/-! ### The order of the stages -/

theorem Stage.rank_injective {x y : Stage} (h : x.rank = y.rank) : x = y := by
  revert h
  cases x <;> cases y <;> decide

theorem Stage.eq_evacuate_of_le {x : Stage} (h : Stage.evacuate.rank ≤ x.rank) : x = .evacuate := by
  revert h
  cases x <;> decide

theorem Stage.rank_lt_evacuate {x : Stage} (h : x ≠ .evacuate) : x.rank < Stage.evacuate.rank := by
  revert h
  cases x <;> decide

theorem Stage.eq_of_investigate_le {x : Stage} (h : Stage.investigate.rank ≤ x.rank) :
    x = .investigate ∨ x = .evacuate := by
  revert h
  cases x <;> decide

/-! ### The two relations -/

/-- From `s` to `t` the alarm stays in its generation: the stage does not fall (R78), the alarm order list stays free of
repeats (R76), and the re-alarm end stands (R82). -/
structure Ascends (s t : State) : Prop where
  generation : t.alarm.generation = s.alarm.generation
  stage : s.alarm.stage.rank ≤ t.alarm.stage.rank
  order : s.alarm.orderDistinct → t.alarm.orderDistinct
  realarmEnd : t.alarm.realarmEnd = s.alarm.realarmEnd

/-- A re-evaluation also leaves the requests of the desk. EVACUATE keeps its cause and its snapshot, a stage that stands
keeps its timers, and one entered above ALERT has no ack window (R78, R79). -/
structure Reviews (s t : State) : Prop extends Ascends s t where
  ack : t.alarm.ack = s.alarm.ack
  silence : t.alarm.silence = s.alarm.silence
  disablements : t.alarm.disablements = s.alarm.disablements
  cause : s.alarm.stage = .evacuate → t.alarm.cause = s.alarm.cause
  snapshot : s.alarm.stage = .evacuate → t.alarm.snapshot = s.alarm.snapshot
  ackWindow : t.alarm.stage = s.alarm.stage → t.alarm.ackWindow = s.alarm.ackWindow
  investigation : t.alarm.stage = s.alarm.stage → t.alarm.investigation = s.alarm.investigation
  entered : t.alarm.stage ≠ s.alarm.stage → t.alarm.stage ≠ .alert → t.alarm.ackWindow = none

section
variable {s t u : State}

namespace Ascends

theorem of_alarm_eq (h : t.alarm = s.alarm) : Ascends s t := by constructor <;> simp [h]

theorem refl (s : State) : Ascends s s := .of_alarm_eq rfl

theorem trans (h : Ascends s t) (h' : Ascends t u) : Ascends s u :=
  ⟨h'.generation.trans h.generation, h.stage.trans h'.stage, h'.order ∘ h.order, h'.realarmEnd.trans h.realarmEnd⟩

theorem ite {c : Prop} [Decidable c] (h : Ascends s t) (h' : Ascends s u) : Ascends s (if c then t else u) := by
  split <;> assumption

theorem ite_fst {c : Prop} [Decidable c] {x y : State × Answer} (h : Ascends s x.1) (h' : Ascends s y.1) :
    Ascends s (if c then x else y).1 := by
  split <;> assumption

/-- R78: EVACUATE is the highest stage. -/
theorem evacuate (h : Ascends s t) (hs : s.alarm.stage = .evacuate) : t.alarm.stage = .evacuate :=
  Stage.eq_evacuate_of_le (hs ▸ h.stage)

end Ascends

theorem Move.ascends {ps : List Part} (h : Move ps s t) (hp : .alarm ∉ ps) : Ascends s t := .of_alarm_eq (h.alarm hp)

theorem Within.ascends {ps : List Part} (h : Within ps s t) (hp : .alarm ∉ ps) : Ascends s t :=
  .of_alarm_eq (h .alarm hp)

namespace Reviews

theorem of_alarm_eq (h : t.alarm = s.alarm) : Reviews s t := by constructor <;> simp [h, Ascends.of_alarm_eq h]

theorem refl (s : State) : Reviews s s := .of_alarm_eq rfl

/-- A stage that is the first one again was so in between, as it does not fall. -/
theorem stage_between (h : Reviews s t) (h' : Reviews t u) (he : u.alarm.stage = s.alarm.stage) :
    u.alarm.stage = t.alarm.stage ∧ t.alarm.stage = s.alarm.stage := by
  have hst := h.stage
  have htu := h'.stage
  rw [he] at htu ⊢
  have hts := Stage.rank_injective (htu.antisymm hst)
  exact ⟨hts.symm, hts⟩

theorem trans (h : Reviews s t) (h' : Reviews t u) : Reviews s u where
  toAscends := h.toAscends.trans h'.toAscends
  ack := h'.ack.trans h.ack
  silence := h'.silence.trans h.silence
  disablements := h'.disablements.trans h.disablements
  cause hs := (h'.cause (h.evacuate hs)).trans (h.cause hs)
  snapshot hs := (h'.snapshot (h.evacuate hs)).trans (h.snapshot hs)
  ackWindow he := by
    obtain ⟨hut, hts⟩ := stage_between h h' he
    exact (h'.ackWindow hut).trans (h.ackWindow hts)
  investigation he := by
    obtain ⟨hut, hts⟩ := stage_between h h' he
    exact (h'.investigation hut).trans (h.investigation hts)
  entered hne halert := by
    by_cases hut : u.alarm.stage = t.alarm.stage
    · rw [h'.ackWindow hut]
      exact h.entered (hut ▸ hne) (hut ▸ halert)
    · exact h'.entered hut halert

theorem ite {c : Prop} [Decidable c] (h : Reviews s t) (h' : Reviews s u) : Reviews s (if c then t else u) := by
  split <;> assumption

/-- The entry to a higher stage sets the cause, the timers and the snapshot. -/
theorem of_entry {stage : Stage} {cause : Option StageCause} {ackWindow investigation : Option Nat}
    {snapshot : Option Snapshot} (h : t.alarm = { s.alarm with
      stage := stage, cause := cause, ackWindow := ackWindow, investigation := investigation, snapshot := snapshot })
    (hrank : s.alarm.stage.rank < stage.rank) (hwindow : stage = .alert ∨ ackWindow = none) : Reviews s t := by
  have hne : stage ≠ s.alarm.stage := fun e => by rw [e] at hrank; exact lt_irrefl _ hrank
  have hbelow : s.alarm.stage ≠ .evacuate := fun e => by
    rw [e] at hrank
    exact hne (e ▸ Stage.eq_evacuate_of_le hrank.le)
  constructor
  · exact ⟨by rw [h], by rw [h]; exact hrank.le, by rw [h]; exact id, by rw [h]⟩
  · rw [h]
  · rw [h]
  · rw [h]
  · exact fun he => absurd he hbelow
  · exact fun he => absurd he hbelow
  · rw [h]
    exact fun he => absurd he hne
  · rw [h]
    exact fun he => absurd he hne
  · rw [h]
    exact fun _ halert => hwindow.resolve_left halert

end Reviews

theorem Move.reviews {ps : List Part} (h : Move ps s t) (hp : .alarm ∉ ps) : Reviews s t := .of_alarm_eq (h.alarm hp)

end

/-! ### The steps of R75 -/

section
variable (s : State)

theorem rebuildMerged_reviews : Reviews s s.rebuildMerged :=
  ⟨⟨rfl, le_rfl, id, rfl⟩, rfl, rfl, rfl, fun _ => rfl, fun _ => rfl, fun _ => rfl, fun _ => rfl, fun h => absurd rfl h⟩

theorem appendOrder_alarm : s.appendOrder.alarm = { s.alarm with
    order := s.alarm.order ++ s.alarm.zonesInAlarm.filter fun z => !s.alarm.order.contains z } := zoneUps_alarm s _

/-- R76: the zones that join are distinct, and none of them is held. -/
theorem appendOrder_distinct (h : s.alarm.orderDistinct) : s.appendOrder.alarm.orderDistinct := by
  rw [appendOrder_alarm]
  have hnew : (s.alarm.zonesInAlarm.filter fun z => !s.alarm.order.contains z).Nodup :=
    ((List.nodup_range' (s := 1) (n := 64)).filter _).filter _
  refine h.append hnew fun z hz hz' => ?_
  have hout := (List.mem_filter.mp hz').2
  simp [hz] at hout

theorem appendOrder_reviews : Reviews s s.appendOrder := by
  have h := appendOrder_alarm s
  constructor
  · exact ⟨by rw [h], by rw [h], appendOrder_distinct s, by rw [h]⟩
  all_goals simp [h]

/-- R78: an entry to EVACUATE stops both timers and leaves a snapshot. -/
theorem enterEvacuate_alarm (cause : StageCause) : ∃ held, (s.enterEvacuate cause).alarm = { s.alarm with
    stage := .evacuate, cause := some cause, ackWindow := none, investigation := none, snapshot := some held } := by
  cases hheld : s.alarm.snapshot with
  | some held => exact ⟨held, by simp [State.enterEvacuate, State.takeSnapshot, State.setAlarm, State.log, State.mark, hheld]⟩
  | none => exact ⟨_, by simp [State.enterEvacuate, State.takeSnapshot, State.setAlarm, State.log, State.mark, hheld]; rfl⟩

variable {s}

theorem enterEvacuate_reviews (h : s.alarm.stage ≠ .evacuate) (cause : StageCause) : Reviews s (s.enterEvacuate cause) := by
  obtain ⟨held, halarm⟩ := enterEvacuate_alarm s cause
  exact .of_entry halarm (Stage.rank_lt_evacuate h) (.inr rfl)

theorem enterInvestigate_reviews (h : s.alarm.stage.rank < Stage.investigate.rank) : Reviews s s.enterInvestigate :=
  .of_entry (cause := s.alarm.cause) (snapshot := s.alarm.snapshot) rfl h (.inr rfl)

theorem enterAlert_reviews (h : s.alarm.stage = .quiet) : Reviews s s.enterAlert :=
  .of_entry (cause := s.alarm.cause) (investigation := s.alarm.investigation) (snapshot := s.alarm.snapshot) rfl
    (by rw [h]; decide) (.inl rfl)

theorem evalStage_evacuate (h : s.alarm.stage = .evacuate) : s.evalStage = s := by simp [State.evalStage, h]

theorem evalStage_caused {cause : StageCause} (h : s.alarm.stage ≠ .evacuate) (hcause : s.evacuationCause = some cause) :
    s.evalStage = s.enterEvacuate cause := by
  cases hstage : s.alarm.stage with
  | evacuate => exact absurd hstage h
  | _ => simp [State.evalStage, hstage, hcause]

theorem evalStage_alert (h : s.alarm.stage = .alert) (hcause : s.evacuationCause = none) :
    s.evalStage = if s.acknowledged then s.enterInvestigate else s := by simp [State.evalStage, h, hcause]

variable (s)

theorem evalStage_reviews : Reviews s s.evalStage := by
  by_cases hevacuate : s.alarm.stage = .evacuate
  · rw [evalStage_evacuate hevacuate]
    exact .refl s
  cases hcause : s.evacuationCause with
  | some cause =>
    rw [evalStage_caused hevacuate hcause]
    exact enterEvacuate_reviews hevacuate cause
  | none =>
    have hinvestigate (h : s.alarm.stage = .quiet ∨ s.alarm.stage = .alert) : Reviews s s.enterInvestigate :=
      enterInvestigate_reviews (by rcases h with h | h <;> rw [h] <;> decide)
    cases hstage : s.alarm.stage with
    | quiet =>
      simp only [State.evalStage, hstage, hcause]
      exact .ite (.ite (hinvestigate (.inl hstage)) (enterAlert_reviews hstage)) (.refl s)
    | alert =>
      rw [evalStage_alert hstage hcause]
      exact .ite (hinvestigate (.inr hstage)) (.refl s)
    | investigate =>
      simp only [State.evalStage, hstage, hcause]
      exact .refl s
    | evacuate => exact absurd hstage hevacuate

theorem expiryStage_reviews (stage : Stage) (h : stage ≠ .evacuate) (cause : StageCause) :
    Reviews s (expiryStage stage cause s) := by
  unfold expiryStage
  split
  · next hstage => exact enterEvacuate_reviews (hstage ▸ h) cause
  · exact .refl s

theorem setSilenced_alarm (silenced : Bool) : (s.setSilenced silenced).alarm = { s.alarm with silenced := silenced } := by
  unfold State.setSilenced
  split
  · next h => rw [h]
  · rfl

theorem setSilenced_reviews (silenced : Bool) : Reviews s (s.setSilenced silenced) := by
  have h := setSilenced_alarm s silenced
  constructor
  · exact ⟨by rw [h], by rw [h], by rw [h]; exact id, by rw [h]⟩
  all_goals simp [h]

theorem evaluateBy_reviews {stage : State → State} (h : ∀ t, Reviews t (stage t)) : Reviews s (s.evaluateBy stage) :=
  (rebuildMerged_reviews s).trans <| (appendOrder_reviews _).trans <| (h _).trans (setSilenced_reviews _ _)

theorem handNotices_reviews (before : Alarm) : Reviews s (s.handNotices before) := .of_alarm_eq (handNotices_alarm s before)

theorem reevaluateBy_reviews {stage : State → State} (h : ∀ t, Reviews t (stage t)) : Reviews s (s.reevaluateBy stage) :=
  (evaluateBy_reviews s h).trans (handNotices_reviews _ _)

theorem reevaluate_reviews : Reviews s s.reevaluate := reevaluateBy_reviews s evalStage_reviews

/-- R59: what holds and is kept by the re-evaluation after each handing holds when every zone has been handed. -/
theorem react_keeps {P : State → Prop} (h : ∀ t r, P t → P (t.withZone r).mark.reevaluate) {s : State} (hs : P s) :
    P s.react := by
  have hupTo (n : Nat) (t : State) (ht : P t) : P (reactUpTo n t) := by
    induction n generalizing t with
    | zero => exact ht
    | succ n ih =>
      unfold reactUpTo
      split
      · exact ht
      · exact ih _ (h t _ ht)
  exact hupTo 256 s hs

theorem react_reviews : Reviews s s.react :=
  react_keeps (P := Reviews s) (fun t r h =>
    have hhand : Reviews t (t.withZone r).mark := .of_alarm_eq rfl
    h.trans (hhand.trans (reevaluate_reviews _))) (.refl s)

theorem review_reviews : Reviews s s.review := (reevaluate_reviews s).trans (react_reviews _)

end

end Sys2Proof.Machine
end

section
/-!
THE ALARM UNDER EVERY OPERATION (R75 to R83, R90). Each operation stays in the generation, where the stage does not fall,
or takes another one, whose alarm order list begins empty.
-/
namespace Sys2Proof.Machine

/-! ### Another generation (R82) -/

/-- From `s` to `t` the alarm stays in its generation or comes to another one. -/
def Advances (s t : State) : Prop :=
  Ascends s t ∨ t.alarm.generation ≠ s.alarm.generation ∧ t.alarm.orderDistinct

section
variable {s t u : State}

theorem Ascends.advances (h : Ascends s t) : Advances s t := .inl h

namespace Advances

theorem refl (s : State) : Advances s s := (Ascends.refl s).advances

theorem after (h : Ascends s t) (h' : Advances t u) : Advances s u :=
  h'.imp h.trans fun ⟨hne, horder⟩ => ⟨h.generation ▸ hne, horder⟩

theorem ascends (h : Advances s t) (h' : Ascends t u) : Advances s u :=
  h.imp (·.trans h') fun ⟨hne, horder⟩ => ⟨h'.generation ▸ hne, h'.order horder⟩

theorem ite {c : Prop} [Decidable c] (h : Advances s t) (h' : Advances s u) : Advances s (if c then t else u) := by
  split <;> assumption

theorem orderDistinct (h : Advances s t) (hs : s.alarm.orderDistinct) : t.alarm.orderDistinct :=
  h.elim (·.order hs) (·.2)

/-- R78: with no other generation taken the stage has not fallen. -/
theorem stage (h : Advances s t) (hg : t.alarm.generation = s.alarm.generation) :
    s.alarm.stage.rank ≤ t.alarm.stage.rank :=
  h.elim (·.stage) fun ⟨hne, _⟩ => absurd hg hne

end Advances

end

section
variable (s : State)

/-- R82, steps 1 to 6: what a new generation begins with. -/
theorem beginGeneration_alarm (g : Byte) (way : GenerationWay) : (s.beginGeneration g way).alarm = { s.alarm with
    silenced := false, generation := g, stage := .quiet, ackWindow := none, investigation := none, order := []
    ack := none, silence := none, realarmEnd := some (s.station.nodeTime + 300) } := by
  change { (s.setSilenced false).alarm with
    generation := g, stage := .quiet, ackWindow := none, investigation := none, order := [], ack := none, silence := none
    realarmEnd := some (s.station.nodeTime + 300) } = _
  rw [setSilenced_alarm]

theorem stepEight_reviews (adopts : Bool) : Reviews s (s.stepEight adopts) := .ite (.refl s) (evalStage_reviews s)

theorem adoptEvacuate_reviews (adopts : Bool) : Reviews s (s.adoptEvacuate adopts) := by
  unfold State.adoptEvacuate
  split
  · next h =>
    have hbelow : s.alarm.stage ≠ .evacuate := by simpa using (Bool.and_eq_true_iff.mp h).2
    exact enterEvacuate_reviews hbelow _
  · exact .refl s

theorem inGeneration_reviews (g : Byte) (way : GenerationWay) (adopts : Bool) :
    Reviews (s.beginGeneration g way) (s.inGeneration g way adopts) :=
  ((releaseLatches_move _).reviews (by decide)).trans <| ((handAll_move _).reviews (by decide)).trans <|
    (evaluateBy_reviews _ fun t => stepEight_reviews t adopts).trans (adoptEvacuate_reviews _ adopts)

theorem stageNotice_alarm (old new : Stage) : (s.stageNotice old new).alarm = s.alarm :=
  (testTriggers_move _).alarm (by decide) |>.trans <| (callsStage_move _ _ _).alarm (by decide) |>.trans <|
    (lightsStage_move _ _ _).alarm (by decide) |>.trans <| (detectionStage_move _ _ _).alarm (by decide)

theorem generationNotices_reviews (before : Alarm) : Reviews s (s.generationNotices before) :=
  ((mergedNotice_move s before).reviews (by decide)).trans <| (Reviews.of_alarm_eq (stageNotice_alarm _ _ _)).trans <|
    ((silenceNotice_move _ before).reviews (by decide)).trans (react_reviews _)

/-- R82: from its begin on, a generation is reviewed and no more. -/
theorem takeGeneration_reviews (g : Byte) (way : GenerationWay) (adopts : Bool) :
    Reviews (s.beginGeneration g way) (s.takeGeneration g way adopts) := by
  rw [takeGeneration_eq]
  exact (inGeneration_reviews s g way adopts).trans (generationNotices_reviews _ _)

theorem takeGeneration_advances {g : Byte} (h : g ≠ s.alarm.generation) (way : GenerationWay) (adopts : Bool) :
    Advances s (s.takeGeneration g way adopts) := by
  refine .inr ⟨by rwa [takeGeneration_generation], (takeGeneration_reviews s g way adopts).order ?_⟩
  rw [beginGeneration_alarm]
  exact List.nodup_nil

/-- R83: a generation that is adopted is newer than the own. -/
theorem adoptableGeneration_ne {station : Nat} {g : Byte} (h : s.adoptableGeneration station = some g) :
    g ≠ s.alarm.generation := by
  unfold State.adoptableGeneration at h
  split at h
  · split at h
    · split at h
      · next hnewer =>
        obtain rfl := Option.some.inj h
        have hnewer := (Bool.and_eq_true_iff.mp hnewer).2
        intro e
        rw [e] at hnewer
        exact Bool.noConfusion (hnewer.symm.trans (newer_asymm hnewer))
      · exact nomatch h
    · exact nomatch h
  · exact nomatch h

theorem alarmAccept_advances (station : Nat) : Advances s (s.alarmAccept station) := by
  unfold State.alarmAccept
  split
  · next h => exact takeGeneration_advances s (adoptableGeneration_ne s h) _ _
  · exact (review_reviews s).advances

/-! ### The end of the joining period (R90) -/

theorem endJoiningView_ascends : Ascends s s.endJoiningView :=
  ((withStation_move s (ps := [.station]) (by decide) _).ascends (by decide)).trans <|
    (rebuildMerged_reviews _).toAscends.trans ((mergedNotice_move _ _).ascends (by decide))

theorem endJoiningReview_ascends (adopts : Bool) : Ascends s (s.endJoiningReview adopts) := by
  have hflag : Reviews s (s.withStation { s.station with joining := false }) := .of_alarm_eq rfl
  unfold State.endJoiningReview
  exact (hflag.trans <| (adoptEvacuate_reviews _ adopts).trans <| (evaluateBy_reviews _ evalStage_reviews).trans <|
    (handNotices_reviews _ _).trans (react_reviews _)).toAscends

theorem alarmJoined_advances (source : Option PeerRecord) : Advances s (s.alarmJoined source) := by
  unfold State.alarmJoined
  split
  · dsimp only
    split
    · exact (endJoiningReview_ascends s _).advances
    · next h => exact (takeGeneration_advances s h _ _).ascends (endJoiningView_ascends _)
  · exact (endJoiningReview_ascends s _).advances

/-! ### The requests (R62, R65, R66, R84 to R89) -/

/-- A change of the alarm beside its generation, its stage, its order list and its re-alarm end. -/
theorem setAlarm_ascends {f : Alarm → Alarm} (hg : (f s.alarm).generation = s.alarm.generation)
    (hs : (f s.alarm).stage = s.alarm.stage) (ho : (f s.alarm).order = s.alarm.order)
    (hr : (f s.alarm).realarmEnd = s.alarm.realarmEnd) : Ascends s (s.setAlarm f) :=
  ⟨hg, (congrArg Stage.rank hs).ge, fun h => (congrArg List.Nodup ho).mpr h, hr⟩

/-- A change of the own requests that is marked and reviewed. -/
theorem marked_review_ascends {f : Alarm → Alarm} (hg : (f s.alarm).generation = s.alarm.generation)
    (hs : (f s.alarm).stage = s.alarm.stage) (ho : (f s.alarm).order = s.alarm.order)
    (hr : (f s.alarm).realarmEnd = s.alarm.realarmEnd) : Ascends s ((s.setAlarm f).mark).review :=
  (setAlarm_ascends s hg hs ho hr).trans <| ((mark_move (ps := []) _).ascends (by decide)).trans
    (review_reviews _).toAscends

theorem requestAck_ascends : Ascends s (requestAck s).1 :=
  .ite_fst (.refl s) <| .ite_fst (.refl s) <| .ite_fst (.refl s) (marked_review_ascends s rfl rfl rfl rfl)

theorem requestSilence_ascends : Ascends s (requestSilence s).1 :=
  .ite_fst (.refl s) <| .ite_fst (.refl s) <| .ite_fst (.refl s) (marked_review_ascends s rfl rfl rfl rfl)

theorem requestReset_advances : Advances s (requestReset s).1 := by
  unfold requestReset
  split
  · exact .refl s
  · split
    · exact .refl s
    · split
      · exact .refl s
      · have hnext : s.alarm.generation + 1 ≠ s.alarm.generation := by bv_omega
        dsimp only
        exact takeGeneration_advances s hnext .ownReset false

theorem requestClearSnapshot_ascends : Ascends s (requestClearSnapshot s).1 := by
  have hempty : Ascends s (s.setAlarm fun a => { a with snapshot := none }) := setAlarm_ascends s rfl rfl rfl rfl
  exact hempty.trans ((logIf_move (ps := []) _ _ _).ascends (by decide))

theorem setDisablements_ascends (zones : List Nat) (event : LogEvent) : Ascends s (s.setDisablements zones event) := by
  have hlist : Ascends s (s.relisted zones event) :=
    (setAlarm_ascends s (f := fun a => { a with disablements := zones }) rfl rfl rfl rfl).trans (.of_alarm_eq rfl)
  rw [setDisablements_eq]
  exact hlist.trans <| ((recomputeDisabled_move _).ascends (by decide)).trans (react_reviews _).toAscends

theorem changeWindows_ascends (windows : List WindowEntry) : Ascends s (s.changeWindows windows) :=
  ((withWindows_move s windows).ascends (by decide)).trans <| ((mark_move (ps := []) _).ascends (by decide)).trans <|
    ((recomputeWindows_move _).ascends (by decide)).trans (react_reviews _).toAscends

theorem requestDisable_ascends (z : Nat) : Ascends s (requestDisable s z).1 :=
  .ite_fst (.refl s) <| .ite_fst (.refl s) <| .ite_fst (.refl s) <| .ite_fst (.refl s) <| .ite_fst (.refl s)
    (setDisablements_ascends s _ _)

theorem requestEnable_ascends (z : Nat) : Ascends s (requestEnable s z).1 :=
  .ite_fst (.refl s) <| .ite_fst (.refl s) <| .ite_fst (.refl s) (setDisablements_ascends s _ _)

theorem requestOpen_ascends (zones : List Nat) (duration : Nat) : Ascends s (requestOpen s zones duration).1 :=
  .ite_fst (.refl s) <| .ite_fst (.refl s) <| .ite_fst (.refl s) <| .ite_fst (changeWindows_ascends s _) (.refl s)

theorem requestClose_ascends (selection : WindowSelection) : Ascends s (requestClose s selection).1 := by
  refine .ite_fst (.refl s) ?_
  cases selection with
  | all => exact .ite (.refl s) (changeWindows_ascends s _)
  | zones zones => exact .ite_fst (.refl s) (.ite_fst (changeWindows_ascends s _) (.refl s))

/-! ### The Phase Tracker -/

theorem takeView_ascends (view : PhaseSection) (restart : Bool) : Ascends s (s.takeView view restart) := by
  have hview : Ascends s ((s.withPhase (s.phase.take view restart)).markIf
      (s.phase.section != (s.phase.take view restart).section)) :=
    ((withPhase_move s (ps := [.phase]) (by decide) _).ascends (by decide)).trans
      ((markIf_move (ps := []) _ _).ascends (by decide))
  exact .ite (hview.trans <| (review_reviews _).toAscends.trans <| ((lightsPhase_move _).ascends (by decide)).trans
    ((callsPhase_move _ _).ascends (by decide))) (.ite (hview.trans ((lightsPhase_move _).ascends (by decide))) hview)

theorem requestPhase_ascends (target : Option Phase) (minutes : Nat) : Ascends s (requestPhase s target minutes).1 := by
  unfold requestPhase
  refine .ite_fst (.refl s) ?_
  split
  · exact .refl s
  · refine .ite_fst (.refl s) (.ite_fst (.refl s) ?_)
    split
    · exact .refl s
    · exact takeView_ascends s _ _

theorem requestHold_ascends (hold : Bool) : Ascends s (requestHold s hold).1 :=
  .ite_fst (.refl s) <| .ite_fst (.refl s) <| .ite_fst (.refl s) (takeView_ascends s _ _)

theorem phaseAccept_ascends (station : Nat) : Ascends s (s.phaseAccept station) := by
  unfold State.phaseAccept
  split
  · exact .ite (takeView_ascends s _ _) (.refl s)
  · exact .refl s

theorem phaseJoined_ascends (source : Option PeerRecord) : Ascends s (s.phaseJoined source) := by
  unfold State.phaseJoined
  split
  · exact .ite (takeView_ascends s _ _) (.refl s)
  · exact .refl s

/-! ### The Peer Table (R39, R49) -/

theorem detectionPeer_ascends (station : Nat) : Ascends s (s.detectionPeer station) :=
  ((alignCopies_move s station).ascends (by decide)).trans <| ((recomputeWindows_move _).ascends (by decide)).trans <|
    (react_reviews _).toAscends.trans <| ((recomputeDisabled_move _).ascends (by decide)).trans (react_reviews _).toAscends

theorem acceptNotices_advances (station : Nat) (resync live : Bool) :
    Advances s (s.acceptNotices station resync live) :=
  (Advances.after (phaseAccept_ascends s station) (alarmAccept_advances _ station)).ascends <|
    (detectionPeer_ascends _ station).trans <| ((curtainAccept_move _ _ _).ascends (by decide)).trans <|
    ((lightsAccept_move _ _).ascends (by decide)).trans ((callsAccept_move _ _ _ _).ascends (by decide))

theorem accept_advances (r : PeerRecord) (report : Report) (missed : Nat) (resync : Bool) :
    Advances s (s.accept r report missed resync) :=
  .after ((acceptRecord_move s r report missed).ascends (by decide)) (acceptNotices_advances _ _ _ _)

theorem judgeSequence_advances (r : PeerRecord) (report : Report) : Advances s (s.judgeSequence r report) :=
  .ite ((withPeer_move s (ps := [.peers]) (by decide) _).ascends (by decide)).advances (.ite (accept_advances s _ _ _ _) (.refl s))

theorem takeReport_advances (note : Option (Byte × Byte)) (report : Report) : Advances s (s.takeReport note report) := by
  unfold State.takeReport
  refine .ite (.ite (.refl s) ((duplicateSeen_move s).ascends (by decide)).advances) ?_
  split
  · exact .refl s
  · exact .ite (accept_advances s _ _ _ _) (judgeSequence_advances s _ _)

theorem handReport_advances (l : Line) (report : Report) : Advances s (s.handReport l report) :=
  .ite (takeReport_advances s _ _) (.refl s)

theorem classified_advances (l : Line) (own : Bool) (verdict : FrameVerdict) :
    Advances s (s.classified l own verdict) := by
  have hcrc : Advances s (s.countCrc l) :=
    ((withLine_move s (ps := [.lines]) (by decide) l _).ascends (by decide)).advances
  have hpoisoned (n : Nat) : Advances s ((s.credit l).handPoisoned n) :=
    ((credit_handPoisoned_move s l n).ascends (by decide)).advances
  cases verdict with
  | crcFailure => exact hcrc
  | formatFailure n => exact .ite (hpoisoned n) hcrc
  | poisoned n => exact .ite (.refl s) (hpoisoned n)
  | good report =>
    exact .ite (handReport_advances s l report)
      (.after ((goodLine_move s l).ascends (by decide)) (handReport_advances _ l report))

theorem frameEnds_advances (l : Line) (frame : List Byte) : Advances s (s.frameEnds l frame) :=
  .after ((withLine_move s (ps := [.lines]) (by decide) l _).ascends (by decide)) (classified_advances _ l _ _)

theorem silenceNotices_ascends (station : Nat) : Ascends s (s.silenceNotices station) :=
  (review_reviews s).toAscends.trans <| (detectionPeer_ascends _ station).trans
    ((lightsSilence_move _ _).ascends (by decide))

theorem endJoining_advances : Advances s s.endJoining := by
  have hreaders (t : State) (source : Option PeerRecord) : Advances t (t.joinedReaders source) :=
    (alarmJoined_advances t source).ascends <| ((lightsPhase_move _).ascends (by decide)).trans <|
      ((detectionJoined_move _).ascends (by decide)).trans <| (react_reviews _).toAscends.trans <|
      ((recomputeDisabled_move _).ascends (by decide)).trans <| (react_reviews _).toAscends.trans
      ((curtainJoined_move _).ascends (by decide))
  rw [endJoining_eq]
  exact .after (phaseJoined_ascends s _) ((hreaders _ _).ascends (.of_alarm_eq (endFlag_alarm _)))

/-! ### Node time and the bays -/

theorem realarmReached_ascends : Ascends s s.realarmReached := .ite (review_reviews s).toAscends (.refl s)

theorem increment_ascends : Ascends s s.increment := by
  unfold State.increment State.blocksCount
  exact ((beforeWindows_move s s.proven).ascends (by decide)).trans <|
    ((countDownWindows_move _).ascends (by decide)).trans <| (react_reviews _).toAscends.trans <|
    ((leak_move _).ascends (by decide)).trans (realarmReached_ascends _)

theorem lostNotice_ascends (b : Bay) (cause : Option LostCause) (type : Option ModuleType) :
    Ascends s (s.lostNotice b cause type) := by
  have husers (t : State) : Ascends t (t.userLoses b type) := by
    cases type with
    | none => exact .refl t
    | some type =>
      cases type with
      | loop => exact ((loopLost_move t b).ascends (by decide)).trans (react_reviews _).toAscends
      | drive => exact (driveLost_move t).ascends (by decide)
      | call => exact (callLost_move t b).ascends (by decide)
      | dimmer => exact .refl t
  exact ((withBay_move s (ps := [.bays]) (by decide) b _).ascends (by decide)).trans (husers _)

theorem leave_ascends (b : Bay) (record : BayRecord) (cause : Option LostCause) {logged : State → State}
    (h : ∀ t, Ascends t (logged t)) : Ascends s (s.leave b record cause logged) := by
  have hchanged : Ascends s (logged (s.changeBay b record)) := ((changeBay_move s b record).ascends (by decide)).trans (h _)
  exact .ite (hchanged.trans (lostNotice_ascends _ _ _ _)) hchanged

theorem failBay_ascends (b : Bay) (reason : FailureReason) : Ascends s (s.failBay b reason) :=
  leave_ascends s b _ _ .refl

theorem takePresence_ascends (b : Bay) (presence : Presence) : Ascends s (s.takePresence b presence) := by
  have hsettle (p : Presence) : Ascends s (s.settleBay b p) := (settleBay_move s b p).ascends (by decide)
  have hchange (record : BayRecord) : Ascends s (s.changeBay b record) := (changeBay_move s b record).ascends (by decide)
  have hremove : Ascends s (s.removeModule b) := leave_ascends s b _ _ fun t => .of_alarm_eq rfl
  have hrecord (record : BayRecord) : Ascends s (s.withBay b record) := .of_alarm_eq rfl
  unfold State.takePresence
  split
  · exact .refl s
  · exact hsettle _
  · exact hchange _
  · exact hsettle _
  · exact hremove
  · exact hsettle _
  · exact hrecord _
  · exact hrecord _
  · exact hrecord _

theorem debounced_ascends (b : Bay) (sense : ModuleType) : Ascends s (s.debounced b sense) := by
  have htype : Ascends s (s.typeRead b sense) := (typeRead_move s b sense).ascends (by decide)
  have hchange (record : BayRecord) : Ascends s (s.changeBay b record) := (changeBay_move s b record).ascends (by decide)
  have hleave : Ascends s (s.leave b (s.bay b).misseat (some .misseated) id) := leave_ascends s b _ _ .refl
  unfold State.debounced
  split
  · exact htype
  · exact hchange _
  · exact hleave
  · exact hleave
  · exact (withBay_move s (ps := [.bays]) (by decide) b _).ascends (by decide)

theorem unanswered_ascends (b : Bay) : Ascends s (s.unanswered b) := by
  have hlost : Ascends s (s.lostExchange b) := (lostExchange_move s b).ascends (by decide)
  unfold State.unanswered
  dsimp only
  generalize s.lostExchange b = r at hlost ⊢
  have hsample : Ascends s (if (s.bay b).sensed = some .drive then r.missingSample else r) :=
    .ite (hlost.trans ((missingSample_move r).ascends (by decide))) hlost
  generalize (if (s.bay b).sensed = some .drive then r.missingSample else r) = t at hsample ⊢
  have hmissed : Ascends s (t.withBay b { t.bay b with missed := min 3 ((t.bay b).missed + 1) }) :=
    hsample.trans (.of_alarm_eq rfl)
  exact .ite (hmissed.trans (failBay_ascends _ b _)) hmissed

end

end Sys2Proof.Machine
end

section
/-!
THE ALARM AT EVERY STEP (R76, R78, R82). Each command keeps away from the alarm or advances it; a start sets it anew or
takes it over with its order list.
-/
namespace Sys2Proof.Machine

section
variable {s t : State}

/-! ### The shapes of a command -/

theorem advances_of_next {u : State} (h : Advances s u) (ht : (Host.Outcome.next u : Result) = .next t) : Advances s t :=
  Host.Outcome.next.inj ht ▸ h

theorem settleAt_ascends (u : State) (idle : Option Line) : Ascends u (u.settleAt idle) :=
  (settleAt_within u idle).ascends (by decide)

theorem whenRunning_advances {effect : State → State} (h : Advances s (effect s))
    (ht : whenRunning s effect = .next t) : Advances s t := by
  rcases whenRunning_cases s effect with ⟨-, e⟩ | ⟨-, e⟩ <;> rw [e] at ht
  · exact advances_of_next (h.ascends (settleAt_ascends _ none)) ht
  · exact advances_of_next (.refl s) ht

theorem whenDue_advances {due : Bool} (ht : whenDue s due = .next t) : Advances s t := by
  refine whenRunning_advances ?_ ht
  exact .ite (increment_ascends s).advances (.refl s)

theorem operatorRequest_advances {owner : State → State × Answer} (h : Advances s (owner s).1)
    (ht : operatorRequest s owner = .next t) : Advances s t := by
  have hend (u : State) (body : AnswerBody) : Ascends u (u.judged body none).concluded :=
    (judged_concluded_within u body none).ascends (by decide)
  unfold operatorRequest at ht
  split at ht
  · exact advances_of_next (h.ascends (hend _ _)) ht
  · exact advances_of_next (hend s _).advances ht

theorem advanceTo_ascends (u : State) (time : Nat) : Ascends u (u.advanceTo time) :=
  (advanceTo_moved u time).ascends (by decide)

/-! ### The events -/

theorem frameReceived_advances {l : Line} {frame : List Byte} (ht : execFrameReceived l frame s = .next t) :
    Advances s t := by
  rcases execFrameReceived_cases s l frame with ⟨-, e⟩ | ⟨-, e⟩ <;> rw [e] at ht
  · exact advances_of_next ((frameEnds_advances s l frame).ascends (settleAt_ascends _ _)) ht
  · exact advances_of_next (.refl s) ht

theorem peerSilent_advances {n : Nat} (ht : execPeerSilent n s = .next t) : Advances s t := by
  refine whenRunning_advances ?_ ht
  split
  · exact .ite ((advanceTo_ascends s _).trans <| ((silenceRecord_move _ _).ascends (by decide)).trans
      (silenceNotices_ascends _ _)).advances (.refl s)
  · exact .refl s

theorem endOfJoining_advances (ht : execEndOfJoining s = .next t) : Advances s t := by
  refine whenRunning_advances ?_ ht
  exact .ite (.after (advanceTo_ascends s _) (endJoining_advances _)) (.refl s)

theorem nodeTimeIncrement_advances (ht : execNodeTimeIncrement s = .next t) : Advances s t := by
  unfold execNodeTimeIncrement at ht
  split at ht
  · exact advances_of_next ((increment_ascends s).trans (settleAt_ascends _ none)).advances ht
  · split at ht
    · exact advances_of_next ((second_move s).ascends (by decide)).advances ht
    · exact advances_of_next (.refl s) ht

/-- R79, R80: a timer of the Alarm Stage Unit stops and expires in its stage, which is below EVACUATE. -/
theorem alarmTimer_ascends (time : Nat) {f : Alarm → Alarm} (hg : (f s.alarm).generation = s.alarm.generation)
    (hs : (f s.alarm).stage = s.alarm.stage) (ho : (f s.alarm).order = s.alarm.order)
    (hr : (f s.alarm).realarmEnd = s.alarm.realarmEnd) {stage : Stage} (h : stage ≠ .evacuate) (cause : StageCause) :
    Ascends s (((s.advanceTo time).setAlarm f).reevaluateBy (expiryStage stage cause)).react := by
  have halarm : (s.advanceTo time).alarm = s.alarm := (advanceTo_moved s time).alarm (by decide)
  have hstopped : Ascends (s.advanceTo time) ((s.advanceTo time).setAlarm f) :=
    setAlarm_ascends _ (by rwa [halarm]) (by rwa [halarm]) (by rwa [halarm]) (by rwa [halarm])
  exact (advanceTo_ascends s time).trans <| hstopped.trans <|
    (reevaluateBy_reviews _ fun u => expiryStage_reviews u stage h cause).toAscends.trans (react_reviews _).toAscends

theorem ackWindow_advances (ht : execAckWindowExpiry s = .next t) : Advances s t := by
  refine whenRunning_advances ?_ ht
  split
  · exact (alarmTimer_ascends _ rfl rfl rfl rfl (by decide) _).advances
  · exact .refl s

theorem investigation_advances (ht : execInvestigationTimeout s = .next t) : Advances s t := by
  refine whenRunning_advances ?_ ht
  split
  · exact (alarmTimer_ascends _ rfl rfl rfl rfl (by decide) _).advances
  · exact .refl s

theorem loopSample_advances {b : Bay} {readings : Vector Byte 32} (ht : execLoopSample b readings s = .next t) :
    Advances s t := by
  refine whenRunning_advances ?_ ht
  exact .ite (((answered_move s (ps := [.bays]) (by decide) b).ascends (by decide)).trans <|
    ((sampleBay_move _ _ _).ascends (by decide)).trans (react_reviews _).toAscends).advances (.refl s)

theorem presenceChange_advances {b : Bay} {presence : Presence} (ht : execPresenceChange b presence s = .next t) :
    Advances s t := by
  refine whenRunning_advances ?_ ht
  exact .ite (.refl s) (takePresence_ascends s b presence).advances

theorem debounce_advances {b : Bay} {sense : ModuleType} (ht : execDebounceExpiry b sense s = .next t) :
    Advances s t := by
  refine whenRunning_advances ?_ ht
  split
  · exact ((advanceTo_ascends s _).trans (debounced_ascends _ _ _)).advances
  · exact .refl s

theorem onlineNotice_ascends (u : State) (b : Bay) (type : ModuleType) : Ascends u (u.onlineNotice b type) := by
  cases type with
  | drive => exact (driveOnline_move u).ascends (by decide)
  | call => exact (callCameOnline_move u b).ascends (by decide)
  | loop => exact .refl u
  | dimmer => exact .refl u

theorem readyAnswer_advances {b : Bay} {type : ModuleType} (ht : execReadyAnswer b type s = .next t) :
    Advances s t := by
  refine whenRunning_advances ?_ ht
  exact .ite (.refl s) (.ite (((changeBay_move s b _).ascends (by decide)).trans <|
    ((log_move (ps := []) _ _).ascends (by decide)).trans <| (onlineNotice_ascends _ b type).trans
      ((beginExchange_move _ _ _).ascends (by decide))).advances (failBay_ascends s b _).advances)

theorem readyTimer_advances {b : Bay} (ht : execReadyTimerExpiry b s = .next t) : Advances s t := by
  refine whenRunning_advances ?_ ht
  split
  · exact ((advanceTo_ascends s _).trans (failBay_ascends _ _ _)).advances
  · exact .refl s

theorem overcurrent_advances {b : Bay} {supply : Supply} (ht : execOvercurrent b supply s = .next t) :
    Advances s t := by
  refine whenRunning_advances ?_ ht
  split
  · exact (failBay_ascends s b _).advances
  · exact (failBay_ascends s b _).advances
  · exact .refl s

theorem exchangeNoAnswer_advances {b : Bay} (ht : execExchangeNoAnswer b s = .next t) : Advances s t :=
  whenRunning_advances (.ite (unanswered_ascends s b).advances (.refl s)) ht

/-- Each command but those that begin a start keeps away from the alarm or advances it. -/
theorem exec_advances {c : Instr} (hstart : beginsStart c = false) (ht : exec c s = .next t) : Advances s t := by
  by_cases hpart : .alarm ∉ composing ++ touches c
  · exact ((exec_within c hstart s t ht).ascends hpart).advances
  cases c with
  | frameReceived l frame => exact frameReceived_advances ht
  | peerSilent n => exact peerSilent_advances ht
  | endOfJoining => exact endOfJoining_advances ht
  | nodeTimeIncrement => exact nodeTimeIncrement_advances ht
  | intervalMark mark => exact whenDue_advances ht
  | intervalTimerExpiry => exact whenDue_advances ht
  | effectsWindowExpiry z => exact whenDue_advances ht
  | windowCopyExpiry desk z => exact whenDue_advances ht
  | realarmWindowEnd => exact whenDue_advances ht
  | proofExpired => exact whenDue_advances ht
  | ackWindowExpiry => exact ackWindow_advances ht
  | investigationTimeout => exact investigation_advances ht
  | loopSample b readings => exact loopSample_advances ht
  | presenceChange b presence => exact presenceChange_advances ht
  | debounceExpiry b sense => exact debounce_advances ht
  | readyAnswer b type => exact readyAnswer_advances ht
  | readyTimerExpiry b => exact readyTimer_advances ht
  | overcurrent b supply => exact overcurrent_advances (supply := supply) ht
  | exchangeNoAnswer b => exact exchangeNoAnswer_advances ht
  | setPhase target minutes =>
    exact operatorRequest_advances (owner := (requestPhase · target _)) (requestPhase_ascends s target _).advances ht
  | holdOn => exact operatorRequest_advances (owner := (requestHold · true)) (requestHold_ascends s true).advances ht
  | holdOff => exact operatorRequest_advances (owner := (requestHold · false)) (requestHold_ascends s false).advances ht
  | ack => exact operatorRequest_advances (requestAck_ascends s).advances ht
  | silence => exact operatorRequest_advances (requestSilence_ascends s).advances ht
  | reset => exact operatorRequest_advances (requestReset_advances s) ht
  | disable z => exact operatorRequest_advances (owner := (requestDisable · z)) (requestDisable_ascends s z).advances ht
  | enable z => exact operatorRequest_advances (owner := (requestEnable · z)) (requestEnable_ascends s z).advances ht
  | effectsOpen zones duration =>
    exact operatorRequest_advances (owner := (requestOpen · zones duration)) (requestOpen_ascends s zones duration).advances ht
  | effectsClose selection =>
    exact operatorRequest_advances (owner := (requestClose · selection)) (requestClose_ascends s selection).advances ht
  | clearSnapshot => exact operatorRequest_advances (requestClearSnapshot_ascends s).advances ht
  | _ => exact absurd (by simp [touches]) hpart

/-! ### Starts (R92, R183) -/

/-- From `s` to `t` the alarm order list never comes to hold a zone twice. -/
def KeepsOrder (s t : State) : Prop := s.alarm.orderDistinct → t.alarm.orderDistinct

theorem KeepsOrder.trans {u : State} (h : KeepsOrder s t) (h' : KeepsOrder t u) : KeepsOrder s u := h' ∘ h

/-- R169, R91, R92: the last step of a start takes the view, the standing calls and the bays. -/
theorem takeValues_ascends (u : State) (presence : PerBay Presence) :
    Ascends u (((u.startView).startStandingCalls).readPresence presence) := by
  have hview : Ascends u u.startView := by
    unfold State.startView
    exact (rebuildMerged_reviews u).toAscends.trans (setAlarm_ascends _ rfl rfl rfl rfl)
  have hcalls (v : State) : Ascends v v.startStandingCalls :=
    .ite ((staffBecomesDue_move v).ascends (by decide)) (.refl v)
  have hbays (bs : List Bay) (v : State) : Ascends v (bs.foldl (fun x b => x.takePresence b (presence.get b)) v) := by
    induction bs generalizing v with
    | nil => exact .refl v
    | cons b bs ih => exact (takePresence_ascends v b _).trans (ih _)
  exact hview.trans ((hcalls _).trans (hbays _ _))

/-- R92: a warm start takes over the list, a cold one begins with an empty one. -/
theorem setRecords_keepsOrder (u : State) (kind : StartKind) (memory : ConfigMemory) :
    KeepsOrder u (u.setRecords kind memory) := by
  cases kind with
  | cold => exact fun _ => List.nodup_nil
  | warm => exact id

theorem makeStep_keepsOrder (p : StartProgress) (u : State) (step : StartStep) : KeepsOrder u (State.makeStep p u step) := by
  have hnote (v : State) (power : Power) : KeepsOrder v (v.withPower power) := id
  have heffect : KeepsOrder u (u.stepEffect p step) := by
    cases step with
    | recordsSet => exact setRecords_keepsOrder u p.kind p.memory
    | valuesTaken => exact (takeValues_ascends u p.presence).order
    | kindDecided => exact id
    | imageValidated => exact id
    | countFixed => exact id
    | startLogged => exact id
  exact heffect.trans (hnote _ _)

theorem makeSteps_keepsOrder (p : StartProgress) (steps : List StartStep) (u : State) : KeepsOrder u (u.makeSteps p steps) := by
  induction steps generalizing u with
  | nil => exact id
  | cons step rest ih => exact (makeStep_keepsOrder p u step).trans (ih _)

theorem completeStart_keepsOrder (u : State) : KeepsOrder u u.completeStart :=
  ((completeStart_within u).ascends (by decide)).order

theorem finishStart_keepsOrder (u : State) : KeepsOrder u u.finishStart := by
  unfold State.finishStart
  split
  · exact (makeSteps_keepsOrder _ _ u).trans (completeStart_keepsOrder _)
  · exact id

theorem start_keepsOrder (u : State) (kind : StartKind) (memory : ConfigMemory) (presence : PerBay Presence)
    (reached : Option StartStep) : KeepsOrder u (u.start kind memory presence reached) := by
  have hbegin : KeepsOrder u (u.beginStart kind memory presence) := id
  cases reached with
  | none => exact (hbegin.trans (makeSteps_keepsOrder _ _ _)).trans (completeStart_keepsOrder _)
  | some step => exact hbegin.trans (makeSteps_keepsOrder _ _ _)

theorem keepsOrder_of_next {u : State} (h : KeepsOrder s u) (ht : (Host.Outcome.next u : Result) = .next t) :
    KeepsOrder s t :=
  Host.Outcome.next.inj ht ▸ h

/-- The beginnings of a start: with RESET asserted or supply away no start runs. -/
theorem beginsStart_keepsOrder {c : Instr} (h : beginsStart c = true) (ht : exec c s = .next t) : KeepsOrder s t := by
  have hpower (power : Power) : KeepsOrder s (s.withPower power) := id
  cases c with
  | powerOn good memory course =>
    simp only [exec, execPowerOn] at ht
    split at ht
    · exact keepsOrder_of_next (hpower _) ht
    · exact keepsOrder_of_next ((hpower _).trans (start_keepsOrder _ _ _ _ _)) ht
  | supplyDip retain memory course =>
    simp only [exec, execSupplyDip] at ht
    split at ht
    · exact keepsOrder_of_next (hpower _) ht
    · exact keepsOrder_of_next ((hpower _).trans (start_keepsOrder _ _ _ _ _)) ht
  | resetReleased retain memory course =>
    simp only [exec, execResetReleased] at ht
    split at ht
    · exact keepsOrder_of_next ((hpower _).trans (start_keepsOrder _ _ _ _ _)) ht
    · exact keepsOrder_of_next (hpower _) ht
  | _ => exact Bool.noConfusion h

theorem exec_keepsOrder {c : Instr} (ht : exec c s = .next t) : KeepsOrder s t := by
  cases hstart : beginsStart c with
  | true => exact beginsStart_keepsOrder hstart ht
  | false => exact (exec_advances hstart ht).orderDistinct

end

/-- Settles O9: a step is a command, or an idle millisecond in which a start in progress may complete. -/
theorem everyStepKeepsTheAlarmOrderDistinct : Obligations.EveryStepKeepsTheAlarmOrderDistinct := by
  intro s t hs hstep
  unfold step at hstep
  split at hstep
  · have htick : KeepsOrder s s.tick := (advanceTo_ascends s _).order
    exact keepsOrder_of_next (htick.trans (finishStart_keepsOrder _)) hstep hs
  · next c rest _ => exact exec_keepsOrder (s := s.withPending rest) hstep hs

/-- Settles O10: within its generation no command lowers the stage, and a command that takes a generation takes another
one. -/
theorem stageFallsOnlyWithANewGeneration : Obligations.StageFallsOnlyWithANewGeneration := by
  intro s t c rest hpending hstart hstep hgeneration
  unfold step at hstep
  rw [hpending] at hstep
  exact (exec_advances (s := s.withPending rest) hstart hstep).stage hgeneration

end Sys2Proof.Machine
end

section
/-!
THE TIMERS OF THE STAGE (R75, R77, R79, R80). What an expired timer of the Alarm Stage Unit makes of the alarm, and the
increment of node time that reaches the re-alarm end.
-/
namespace Sys2Proof.Machine

section
variable {s t : State}

theorem evaluateBy_eq (stage : State → State) (s : State) :
    s.evaluateBy stage = (stage s.rebuildMerged.appendOrder).evalSilenced := rfl

theorem reevaluateBy_alarm (stage : State → State) (s : State) :
    (s.reevaluateBy stage).alarm = (s.evaluateBy stage).alarm := handNotices_alarm _ _

/-- Step 1 and step 2 of R75 read and change the alarm alone. -/
theorem beforeStage_reviews (s : State) : Reviews s s.rebuildMerged.appendOrder :=
  (rebuildMerged_reviews s).trans (appendOrder_reviews _)

theorem beforeStage_station (s : State) : s.rebuildMerged.appendOrder.station = s.station :=
  (appendOrder_move _).station (by decide)

theorem beforeStage_stage (s : State) : s.rebuildMerged.appendOrder.alarm.stage = s.alarm.stage := by
  rw [appendOrder_alarm]
  rfl

/-! ### A timer that expires (R79, R80) -/

/-- The alarm in EVACUATE for a cause, its timers stopped and its snapshot slot full (R78, R88). -/
structure Evacuated (cause : StageCause) (s : State) : Prop where
  stage : s.alarm.stage = .evacuate
  cause : s.alarm.cause = some cause
  ackWindow : s.alarm.ackWindow = none
  investigation : s.alarm.investigation = none
  snapshot : s.alarm.snapshot.isSome = true

theorem Evacuated.reviews {cause : StageCause} (h : Reviews s t) (hs : Evacuated cause s) : Evacuated cause t := by
  have hstage := h.evacuate hs.stage
  have hsame := hstage.trans hs.stage.symm
  exact ⟨hstage, (h.cause hs.stage).trans hs.cause, (h.ackWindow hsame).trans hs.ackWindow,
    (h.investigation hsame).trans hs.investigation, by rw [h.snapshot hs.stage]; exact hs.snapshot⟩

theorem enterEvacuate_evacuated (s : State) (cause : StageCause) : Evacuated cause (s.enterEvacuate cause) := by
  obtain ⟨held, halarm⟩ := enterEvacuate_alarm s cause
  constructor <;> rw [halarm]
  rfl

/-- R79, R80: the timer's stage is left for EVACUATE with the timer's cause. -/
theorem expiry_evacuated {stage : Stage} (h : s.alarm.stage = stage) (cause : StageCause) :
    Evacuated cause (s.reevaluateBy (expiryStage stage cause)).react := by
  have hexpired : expiryStage stage cause s.rebuildMerged.appendOrder = s.rebuildMerged.appendOrder.enterEvacuate cause :=
    if_pos ((beforeStage_stage s).trans h)
  have hevaluated : Evacuated cause (s.evaluateBy (expiryStage stage cause)) := by
    rw [evaluateBy_eq, hexpired]
    exact (enterEvacuate_evacuated _ cause).reviews (setSilenced_reviews _ _)
  exact (hevaluated.reviews (handNotices_reviews _ _)).reviews (react_reviews _)

/-- The clock has come to a timer of the Alarm Stage Unit, which stops, and the stage step is the timer's. -/
def State.timerExpired (s : State) (time : Nat) (stop : Alarm → Alarm) (stage : Stage) (cause : StageCause) : State :=
  (((s.advanceTo time).setAlarm stop).reevaluateBy (expiryStage stage cause)).react

theorem completes_ackWindowExpiry {time : Nat} (hs : s.power.running = true) (h : s.alarm.ackWindow = some time) :
    completes .ackWindowExpiry s (s.timerExpired time (fun a => { a with ackWindow := none }) .alert .ackTimeout) := by
  rw [completes_iff s rfl]
  change execAckWindowExpiry s = _
  simp only [execAckWindowExpiry, whenRunning, hs, h, if_true]
  rfl

theorem completes_investigationTimeout {time : Nat} (hs : s.power.running = true)
    (h : s.alarm.investigation = some time) :
    completes .investigationTimeout s
      (s.timerExpired time (fun a => { a with investigation := none }) .investigate .investigationTimeout) := by
  rw [completes_iff s rfl]
  change execInvestigationTimeout s = _
  simp only [execInvestigationTimeout, whenRunning, hs, h, if_true]
  rfl

/-- R79, R80: what a command leaves that is a timer's expiry in its stage. -/
theorem timerExpired_outcome {c : Instr} {time : Nat} {stop : Alarm → Alarm} {stage : Stage} {cause : StageCause}
    (hc : completes c s (s.timerExpired time stop stage cause)) (hs : s.alarm.stage = stage) (hbelow : stage ≠ .evacuate)
    (hstage : (stop s.alarm).stage = s.alarm.stage) (hgeneration : (stop s.alarm).generation = s.alarm.generation) :
    ∃ u, completes c s u ∧ u.alarm.stage = .evacuate ∧ u.alarm.cause = some cause ∧
      u.alarm.generation = s.alarm.generation ∧ u.alarm.ackWindow = none ∧ u.alarm.investigation = none ∧
      u.alarm.snapshot.isSome = true ∧ u.clock = { s.clock with now := max s.clock.now time } ∧ u.peers = s.peers ∧
      u.phase = s.phase ∧ u.station = s.station := by
  have hstopped : ((s.advanceTo time).setAlarm stop).alarm = stop s.alarm :=
    congrArg stop ((advanceTo_moved s time).alarm (by decide))
  have hexpired : Move alarmParts (s.advanceTo time) (s.timerExpired time stop stage cause) :=
    (setAlarm_move _ (by decide) stop).trans <|
      (reevaluateBy_move _ fun u => expiryStage_move u stage cause).trans (react_move _)
  have hreviews : Reviews ((s.advanceTo time).setAlarm stop) (s.timerExpired time stop stage cause) :=
    (reevaluateBy_reviews _ fun u => expiryStage_reviews u stage hbelow cause).trans (react_reviews _)
  obtain ⟨hevacuate, hcause, hwindow, hinvestigation, hsnapshot⟩ : Evacuated cause (s.timerExpired time stop stage cause) :=
    expiry_evacuated (by rw [hstopped, hstage, hs]) cause
  have hmove := alarmTimer_move s time stop stage cause
  exact ⟨_, hc, hevacuate, hcause, by rw [hreviews.generation, hstopped, hgeneration], hwindow, hinvestigation, hsnapshot,
    by rw [hexpired.clock (by decide), advanceTo_clock], hmove.peers (by decide), hmove.phase (by decide),
    hmove.station (by decide)⟩

/-! ### The re-alarm end (R75, R77) -/

theorem realarmOpen_reached {last : Nat} (h : s.alarm.realarmEnd = some last) (hreached : last ≤ s.station.nodeTime) :
    s.realarmOpen = false := by
  rw [State.realarmOpen, h]
  exact decide_eq_false (not_lt.mpr hreached)

/-- The row is due where the next increment brings node time to the re-alarm end. -/
theorem realarmDue_iff (s : State) : s.alarm.realarmEnd.any s.reachesNext = true ↔
    s.alarm.realarmEnd = some (s.station.nodeTime + 1) ∧ s.station.nodeTime < 4294967295 := by
  cases h : s.alarm.realarmEnd with
  | none => simp
  | some last =>
    have hreaches : s.reachesNext last = true ↔ s.station.nodeTime + 1 = last ∧ last ≤ 4294967295 := by
      rw [State.reachesNext, Bool.and_eq_true, beq_iff_eq, decide_eq_true_iff]
      exact Iff.rfl
    rw [Option.any_some, hreaches, Option.some.injEq]
    omega

theorem completes_realarmWindowEnd (hs : s.power.running = true) :
    completes .realarmWindowEnd s (if s.alarm.realarmEnd.any s.reachesNext then s.increment else s) :=
  completes_whenDue rfl rfl hs

end

/-- Settles O35: the stage step of an expiry enters EVACUATE, and the increment that reaches the re-alarm end keeps it
while node time comes to it. -/
theorem stageTimersExpire : Obligations.StageTimersExpire := by
  intro s expiry hs
  refine ⟨fun hstage hwindow => ?_, fun hstage htimer => ?_, fun hend hnext hmax => ?_, fun hnot => ?_⟩
  · exact timerExpired_outcome (completes_ackWindowExpiry hs hwindow) hstage (by decide) rfl rfl
  · exact timerExpired_outcome (completes_investigationTimeout hs htimer) hstage (by decide) rfl rfl
  · have htime : s.station.nodeTime < 4294967295 := by omega
    have hrow := completes_realarmWindowEnd hs
    rw [if_pos ((realarmDue_iff s).mpr ⟨hnext ▸ hend, htime⟩)] at hrow
    have hascends := increment_ascends s
    have hstation := increment_station htime
    rw [← hnext] at hstation
    refine ⟨s.increment, hrow, completes_increment hs, hstation, ?_, hascends.generation, hascends.stage⟩
    exact realarmOpen_reached (hascends.realarmEnd.trans hend) (by rw [hstation])
  · have hrow := completes_realarmWindowEnd hs
    rwa [if_neg fun hdue => hnot ((realarmDue_iff s).mp hdue).1] at hrow

end Sys2Proof.Machine
end

section
/-!
THE REQUESTS OF THE STAGE (R81, R82, R84 to R86, R89). How ACK, SILENCE, RESET and CLEAR SNAPSHOT are judged, and what an
accepted one makes of the alarm.
-/
namespace Sys2Proof.Machine

section
variable {s t : State}

/-! ### The answers -/

theorem answers_ack (hs : s.attends) : answers .ack s (requestAck s).1 (requestAck s).2 :=
  answers_of_owner requestAck hs rfl rfl ((requestAck_move s).power (by decide))

theorem answers_silence (hs : s.attends) : answers .silence s (requestSilence s).1 (requestSilence s).2 :=
  answers_of_owner requestSilence hs rfl rfl ((requestSilence_move s).power (by decide))

theorem answers_reset (hs : s.attends) : answers .reset s (requestReset s).1 (requestReset s).2 :=
  answers_of_owner requestReset hs rfl rfl ((requestReset_move s).power (by decide))

theorem answers_clearSnapshot (hs : s.attends) :
    answers .clearSnapshot s (requestClearSnapshot s).1 (requestClearSnapshot s).2 :=
  answers_of_owner requestClearSnapshot hs rfl rfl ((requestClearSnapshot_move s).power (by decide))

/-! ### ACK (R84, R79) -/

/-- The own acknowledgement is made present. -/
def State.acknowledging (s : State) : State := (s.setAlarm fun a => { a with ack := some a.generation }).mark

theorem requestAck_noAuthority (h : s.roles.desk = false ∨ s.authorities.ack = false) :
    requestAck s = (s, { code := .noAuthority }) := by
  rcases h with h | h <;> simp [requestAck, h]

section
variable (hdesk : s.roles.desk = true) (hack : s.authorities.ack = true)
include hdesk hack

theorem requestAck_joining (h : s.station.joining = true) :
    requestAck s = (s, { code := .refusedState .joining }) := by
  simp [requestAck, hdesk, hack, h]

theorem requestAck_notAlert (hjoined : s.station.joining = false) (h : s.alarm.stage ≠ .alert) :
    requestAck s = (s, { code := .refusedState .notAlert }) := by
  simp [requestAck, hdesk, hack, hjoined, h]

theorem requestAck_accepted (hjoined : s.station.joining = false) (h : s.alarm.stage = .alert) :
    requestAck s = (s.acknowledging.review, { code := .accepted }) := by
  simp [requestAck, hdesk, hack, hjoined, h, State.acknowledging]

/-- R79: the own acknowledgement under the own generation passes the test of R79. -/
theorem acknowledged_own (h : s.alarm.ack = some s.alarm.generation) : s.acknowledged = true := by
  simp [State.acknowledged, hdesk, hack, h]

/-- R79: in ALERT, acknowledged, the stage step comes to INVESTIGATE or above. -/
theorem evalStage_acknowledged (hstage : s.alarm.stage = .alert) (h : s.alarm.ack = some s.alarm.generation) :
    Stage.investigate.rank ≤ s.evalStage.alarm.stage.rank := by
  cases hcause : s.evacuationCause with
  | some cause =>
    rw [evalStage_caused (by rw [hstage]; decide) hcause, enterEvacuate_stage]
    decide
  | none =>
    rw [evalStage_alert hstage hcause, if_pos (acknowledged_own hdesk hack h)]
    exact le_rfl

theorem review_acknowledged (hstage : s.alarm.stage = .alert) (h : s.alarm.ack = some s.alarm.generation) :
    s.review.alarm.stage = .investigate ∨ s.review.alarm.stage = .evacuate := by
  have hbefore := beforeStage_reviews s
  have hstation := beforeStage_station s
  have hentered := evalStage_acknowledged (s := s.rebuildMerged.appendOrder) (by rwa [State.roles, hstation])
    (by rwa [State.authorities, hstation]) ((beforeStage_stage s).trans hstage)
    (by rw [hbefore.ack, hbefore.generation, h])
  have hafter : Reviews s.rebuildMerged.appendOrder.evalStage s.review :=
    (setSilenced_reviews _ _).trans <| (handNotices_reviews _ _).trans (react_reviews _)
  exact Stage.eq_of_investigate_le (hentered.trans hafter.stage)

end

end

/-- Settles O36: the desk's own acknowledgement passes the test of R79 in the re-evaluation that follows it. -/
theorem ackMovesTheDeskOnFromAlert : Obligations.AckMovesTheDeskOnFromAlert := by
  intro s hs
  have hanswers := answers_ack hs
  refine ⟨fun h => ?_, fun hdesk hack => ⟨fun h => ?_, fun hjoined => ⟨fun h => ?_, fun h => ?_⟩⟩⟩
  · rwa [requestAck_noAuthority h] at hanswers
  · rwa [requestAck_joining hdesk hack h] at hanswers
  · rwa [requestAck_notAlert hdesk hack hjoined h] at hanswers
  · rw [requestAck_accepted hdesk hack hjoined h] at hanswers
    have hstage := review_acknowledged (s := s.acknowledging) hdesk hack h rfl
    have hreviews := review_reviews s.acknowledging
    have hmove := review_move s.acknowledging
    have hwindow : s.acknowledging.review.alarm.ackWindow = none := by
      refine hreviews.entered ?_ ?_
      · change _ ≠ s.alarm.stage
        rw [h]
        rcases hstage with e | e <;> rw [e] <;> decide
      · rcases hstage with e | e <;> rw [e] <;> decide
    exact ⟨_, hanswers, hreviews.ack, hstage, hreviews.generation, hreviews.silence, hwindow,
      hmove.peers (by decide), hmove.phase (by decide), hmove.station (by decide), hmove.clock (by decide)⟩

/-! ### SILENCE (R85, R81) -/

section
variable {s t : State}

/-- The own silence is made present, with the length of the alarm order list. -/
def State.silencing (s : State) : State :=
  (s.setAlarm fun a => { a with silence := some { generation := a.generation, count := a.order.length } }).mark

theorem requestSilence_noAuthority (h : s.roles.desk = false ∨ s.authorities.ack = false) :
    requestSilence s = (s, { code := .noAuthority }) := by
  rcases h with h | h <;> simp [requestSilence, h]

section
variable (hdesk : s.roles.desk = true) (hack : s.authorities.ack = true)
include hdesk hack

theorem requestSilence_joining (h : s.station.joining = true) :
    requestSilence s = (s, { code := .refusedState .joining }) := by
  simp [requestSilence, hdesk, hack, h]

theorem requestSilence_notEvacuate (hjoined : s.station.joining = false) (h : s.alarm.stage ≠ .evacuate) :
    requestSilence s = (s, { code := .refusedState .notEvacuate }) := by
  simp [requestSilence, hdesk, hack, hjoined, h]

theorem requestSilence_accepted (hjoined : s.station.joining = false) (h : s.alarm.stage = .evacuate) :
    requestSilence s = (s.silencing.review, { code := .accepted }) := by
  simp [requestSilence, hdesk, hack, hjoined, h, State.silencing]

end

/-- The desk's own silence is present under the own generation in EVACUATE, and covers a list of so many zones. -/
structure HoldsSilence (count : Nat) (s : State) : Prop where
  desk : s.roles.desk = true
  authority : s.authorities.ack = true
  stage : s.alarm.stage = .evacuate
  silence : s.alarm.silence = some { generation := s.alarm.generation, count := count }

namespace HoldsSilence

variable {count : Nat}

theorem reviews (hs : HoldsSilence count s) (h : Reviews s t) (hstation : t.station = s.station) :
    HoldsSilence count t :=
  ⟨by rw [State.roles, hstation]; exact hs.desk, by rw [State.authorities, hstation]; exact hs.authority,
    h.evacuate hs.stage, by rw [h.silence, h.generation]; exact hs.silence⟩

/-- R81: the silence is a source while the list is no longer than it covers. -/
theorem source (h : HoldsSilence count s) (hcovers : s.alarm.order.length ≤ count) : s.silenceSource = true := by
  simp [State.silenceSource, h.desk, h.authority, h.silence, Alarm.coveredBy, hcovers]

/-- R75: step 4 of a re-evaluation silences the alarm that is covered. -/
theorem reevaluate (h : HoldsSilence count s) :
    HoldsSilence count s.reevaluate ∧ (s.reevaluate.alarm.order.length ≤ count → s.reevaluate.alarm.silenced = true) := by
  have hstage : HoldsSilence count s.rebuildMerged.appendOrder.evalStage :=
    h.reviews ((beforeStage_reviews s).trans (evalStage_reviews _))
      (((evalStage_move _).station (by decide)).trans (beforeStage_station s))
  have halarm : s.reevaluate.alarm = s.rebuildMerged.appendOrder.evalStage.evalSilenced.alarm := reevaluateBy_alarm _ s
  refine ⟨h.reviews (reevaluate_reviews s) ((reevaluate_move s).station (by decide)), fun hcovers => ?_⟩
  rw [halarm, evalSilenced_alarm] at hcovers ⊢
  simp [hstage.stage, hstage.source hcovers]

theorem review (h : HoldsSilence count s) :
    s.review.alarm.order.length ≤ count → s.review.alarm.silenced = true := by
  have hkept : HoldsSilence count s.review ∧
      (s.review.alarm.order.length ≤ count → s.review.alarm.silenced = true) := by
    refine react_keeps (P := fun u => HoldsSilence count u ∧ (u.alarm.order.length ≤ count → u.alarm.silenced = true))
      (fun u r ⟨hu, _⟩ => ?_) h.reevaluate
    exact (hu.reviews (t := (u.withZone r).mark) (.of_alarm_eq rfl) rfl).reevaluate
  exact hkept.2

end HoldsSilence

end

/-- Settles O37: the silence covers the list as it was, and each re-evaluation that leaves the list sets the flag by it. -/
theorem silenceCoversTheAlarmOrder : Obligations.SilenceCoversTheAlarmOrder := by
  intro s hs
  have hanswers := answers_silence hs
  refine ⟨fun h => ?_, fun hdesk hack => ⟨fun h => ?_, fun hjoined => ⟨fun h => ?_, fun h => ?_⟩⟩⟩
  · rwa [requestSilence_noAuthority h] at hanswers
  · rwa [requestSilence_joining hdesk hack h] at hanswers
  · rwa [requestSilence_notEvacuate hdesk hack hjoined h] at hanswers
  · rw [requestSilence_accepted hdesk hack hjoined h] at hanswers
    have hholds : HoldsSilence s.alarm.order.length s.silencing := ⟨hdesk, hack, h, rfl⟩
    have hreviews := review_reviews s.silencing
    have hmove := review_move s.silencing
    exact ⟨_, hanswers, hreviews.silence, fun horder => hholds.review (by rw [horder]), hreviews.evacuate h,
      hreviews.cause h, hreviews.generation, hreviews.ack, hmove.peers (by decide), hmove.phase (by decide),
      hmove.station (by decide), hmove.clock (by decide)⟩

/-! ### RESET (R86, R82) -/

section
variable {s : State}

/-- R86: the lowest zone in ALARM_ACTIVE. -/
theorem lowestActive_eq {a : Alarm} {z : Nat} (hlow : 1 ≤ z) (hhigh : z ≤ 64)
    (hactive : (a.zoneAt z).condition = .alarmActive)
    (hbelow : ∀ y, 1 ≤ y → y < z → (a.zoneAt y).condition ≠ .alarmActive) : a.lowestActive = some z := by
  rw [Alarm.lowestActive, zoneNumbers, List.find?_range'_eq_some]
  refine ⟨beq_iff_eq.mpr hactive, by simp only [List.mem_range'_1]; omega, fun y h1 hlt => ?_⟩
  simpa using hbelow y h1 hlt

theorem lowestActive_none {a : Alarm} (h : ∀ z, 1 ≤ z → z ≤ 64 → (a.zoneAt z).condition ≠ .alarmActive) :
    a.lowestActive = none := by
  rw [Alarm.lowestActive, zoneNumbers, List.find?_eq_none]
  intro z hz
  rw [List.mem_range'_1] at hz
  simpa using h z (by omega) (by omega)

theorem requestReset_noAuthority (h : s.roles.desk = false ∨ s.authorities.reset = false) :
    requestReset s = (s, { code := .noAuthority }) := by
  rcases h with h | h <;> simp [requestReset, h]

section
variable (hdesk : s.roles.desk = true) (hreset : s.authorities.reset = true)
include hdesk hreset

theorem requestReset_joining (h : s.station.joining = true) :
    requestReset s = (s, { code := .refusedState .joining }) := by
  simp [requestReset, hdesk, hreset, h]

theorem requestReset_notClear {z : Nat} (hjoined : s.station.joining = false) (h : s.alarm.lowestActive = some z) :
    requestReset s = (s, { code := .refusedState .notClear, zone := some z }) := by
  simp [requestReset, hdesk, hreset, hjoined, h]

theorem requestReset_accepted (hjoined : s.station.joining = false) (h : s.alarm.lowestActive = none) :
    requestReset s = (s.takeGeneration (s.alarm.generation + 1) .ownReset false, { code := .accepted }) := by
  simp [requestReset, hdesk, hreset, hjoined, h]

end

/-- R82: a generation clears the desk's requests, opens a re-alarm window, and ends in QUIET with no timer running, or
above it. -/
theorem takeGeneration_cleared (s : State) (g : Byte) (way : GenerationWay) (adopts : Bool) :
    (s.takeGeneration g way adopts).alarm.ack = none ∧ (s.takeGeneration g way adopts).alarm.silence = none ∧
      (s.takeGeneration g way adopts).alarm.realarmEnd = some (s.station.nodeTime + 300) ∧
      ((s.takeGeneration g way adopts).alarm.stage = .quiet →
        (s.takeGeneration g way adopts).alarm.ackWindow = none ∧
          (s.takeGeneration g way adopts).alarm.investigation = none) ∧
      (s.takeGeneration g way adopts).alarm.disablements = s.alarm.disablements := by
  have hreviews := takeGeneration_reviews s g way adopts
  have hbegin := beginGeneration_alarm s g way
  refine ⟨hreviews.ack.trans (by rw [hbegin]), hreviews.silence.trans (by rw [hbegin]),
    hreviews.realarmEnd.trans (by rw [hbegin]), fun hquiet => ?_, hreviews.disablements.trans (by rw [hbegin])⟩
  have hsame : (s.takeGeneration g way adopts).alarm.stage = (s.beginGeneration g way).alarm.stage := by
    rw [hbegin, hquiet]
  exact ⟨(hreviews.ackWindow hsame).trans (by rw [hbegin]), (hreviews.investigation hsame).trans (by rw [hbegin])⟩

end

/-- Settles O38: the lowest active zone refuses the request; with none active the next generation begins. -/
theorem resetTakesTheNextGeneration : Obligations.ResetTakesTheNextGeneration := by
  intro s hs
  have hanswers := answers_reset hs
  refine ⟨fun h => ?_, fun hdesk hreset => ⟨fun h => ?_, fun hjoined =>
    ⟨fun z hlow hhigh hactive hbelow => ?_, fun hnone => ?_⟩⟩⟩
  · rwa [requestReset_noAuthority h] at hanswers
  · rwa [requestReset_joining hdesk hreset h] at hanswers
  · rwa [requestReset_notClear hdesk hreset hjoined (lowestActive_eq hlow hhigh hactive hbelow)] at hanswers
  · rw [requestReset_accepted hdesk hreset hjoined (lowestActive_none hnone)] at hanswers
    dsimp only at hanswers
    obtain ⟨hack, hsilence, hend, htimers, hdisablements⟩ :=
      takeGeneration_cleared s (s.alarm.generation + 1) .ownReset false
    have hgeneration := takeGeneration_generation s (s.alarm.generation + 1) .ownReset false
    have hmove := takeGeneration_move s (s.alarm.generation + 1) .ownReset false
    exact ⟨_, hanswers, hgeneration, hack, hsilence, hend, htimers, hdisablements,
      hmove.peers (by decide), hmove.phase (by decide), hmove.station (by decide), hmove.clock (by decide)⟩

/-! ### CLEAR SNAPSHOT (R89) -/

section
variable {s : State}

theorem requestClearSnapshot_empty (h : s.alarm.snapshot = none) :
    requestClearSnapshot s = (s, { code := .accepted }) := by
  have hsame : (s.setAlarm fun a => { a with snapshot := none }) = s := by
    rw [State.setAlarm, ← h]
    rfl
  rw [requestClearSnapshot, hsame, h]
  rfl

theorem requestClearSnapshot_full {held : Snapshot} (h : s.alarm.snapshot = some held) :
    requestClearSnapshot s =
      ((s.withAlarm { s.alarm with snapshot := none }).log .snapshotCleared, { code := .accepted }) := by
  rw [requestClearSnapshot, h]
  rfl

end

/-- Settles O39: the slot is emptied, with its log entry where it was full, and EVACUATE keeps the slot as it is. -/
theorem clearSnapshotEmptiesTheSlot : Obligations.ClearSnapshotEmptiesTheSlot := by
  intro s hs
  have hanswers := answers_clearSnapshot hs
  refine ⟨fun h => ?_, fun held h => ?_, (review_reviews s).snapshot⟩
  · rwa [requestClearSnapshot_empty h] at hanswers
  · rwa [requestClearSnapshot_full h] at hanswers

end Sys2Proof.Machine
end

section
/-!
TRIGGERS (R96). What the standing triggers are read from, and a start in progress that reads them anew (O7).
-/
namespace Sys2Proof.Machine

section
variable {s t : State}

theorem zoneTrigger_congr (halarm : t.alarm = s.alarm) (hconfig : t.station.config = s.station.config) :
    t.zoneTrigger = s.zoneTrigger := by
  unfold State.zoneTrigger State.zoneCurtainFlag State.zoneRow State.image
  rw [halarm, hconfig]

theorem standingTrigger_congr (halarm : t.alarm = s.alarm) (hconfig : t.station.config = s.station.config)
    (hbutton : t.curtain.view.buttonPressed = s.curtain.view.buttonPressed) : t.standingTrigger = s.standingTrigger := by
  unfold State.standingTrigger
  rw [zoneTrigger_congr halarm hconfig, halarm, hbutton]

theorem standingTrigger_none_iff : s.standingTrigger = none ↔
    s.zoneTrigger = false ∧ s.alarm.stage ≠ .evacuate ∧ s.curtain.view.buttonPressed = false := by
  unfold State.standingTrigger
  cases s.zoneTrigger <;> cases s.curtain.view.buttonPressed <;> by_cases h : s.alarm.stage = .evacuate <;> simp [h]

end

/-! ### A start in progress (R185) -/

/-- A start in progress with its START entry made, at a configured station whose zone 1 is a CURTAIN zone and was last
handed in ALARM, while the merged view is still clear and the curtain is RAISING. No run reaches it, as the step that sets
the records leaves no curtain in RAISING. -/
def raisingAtStart : State :=
  { State.reset with
    power := { State.reset.power with start := some ⟨.warm, .noAnswer, everyBay .none, .startLogged⟩ }
    station := { State.reset.station with
      config := { number := 1, roles := {}, authorities := {}, signature := 0, failure := none
                  image := { emptyImage with zoneTable := [⟨1, .direct, true, false⟩] } } }
    detection := { State.reset.detection with zones :=
      [{ zone := 1, condition := .alarmActive, latch := true, manual := false, hold := false, disabled := false
         window := false, onsets := 0, handed := .alarmActive, handedManual := false }] }
    curtain := { State.reset.curtain with state := .raising } }

/-- The last step of the start, which rebuilds the merged view and hands no notice of it (R91). -/
def raisingAtLastStep : State :=
  raisingAtStart.tick.makeSteps ⟨.warm, .noAnswer, everyBay .none, .startLogged⟩ [.valuesTaken]

theorem step_raisingAtStart : step raisingAtStart = .next raisingAtLastStep.completeStart := rfl

theorem raisingAtLastStep_triggered :
    raisingAtLastStep.curtain.state = .raising ∧ raisingAtLastStep.standingTrigger = some .zone := by decide +kernel

/-- Refutes O7: the last step of a start rebuilds the merged view without a test of the triggers, and the statement asks
of a curtain in RAISING at that step, which no start leaves so. -/
theorem not_noStepRaisesUnderATrigger : ¬ Obligations.NoStepRaisesUnderATrigger := by
  intro h
  have hsafe : raisingAtStart.raiseSafe := fun _ => by decide +kernel
  obtain ⟨hraising, htrigger⟩ := raisingAtLastStep_triggered
  have hwithin := completeStart_within raisingAtLastStep
  have hcurtain : raisingAtLastStep.completeStart.curtain = raisingAtLastStep.curtain := hwithin .curtain (by decide)
  have hstation := (completeStart_completion raisingAtLastStep).station
  have hkept := standingTrigger_congr (hwithin .alarm (by decide)) (congrArg (·.config) hstation)
    (congrArg (·.view.buttonPressed) hcurtain)
  have hnone := h _ _ hsafe step_raisingAtStart (by rw [hcurtain]; exact hraising)
  rw [hkept, htrigger] at hnone
  exact nomatch hnone

end Sys2Proof.Machine
end

section
/-!
THE STAGES OF A SAMPLE (R118 to R122). Each stage leaves the motion, and only the stage of completion hands a completion,
at a sample with the bottom limit closed.
-/
namespace Sys2Proof.Machine

section
variable (d : Supervisor) (p : Option Nat) (v : Option Int) (bottom : Bool) (c : CurtainSettings)

/-! ### The motion -/

@[simp] theorem onTrace_motion (f : Trace → Trace) : (d.onTrace f).motion = d.motion := by
  unfold Supervisor.onTrace
  split <;> rfl

@[simp] theorem setFlag_motion (reason : DescentReason) : (d.setFlag reason).motion = d.motion := by cases reason <;> rfl

@[simp] theorem raise_motion (reason : DescentReason) : (d.raise reason).motion = d.motion := by simp [Supervisor.raise]

@[simp] theorem raising_motion (reason : DescentReason) (more : List Notice) :
    (d.raising reason p v more).supervisor.motion = d.motion := raise_motion d reason

@[simp] theorem silent_motion : d.silent.supervisor.motion = d.motion := rfl

@[simp] theorem validate_motion : (d.validate p).motion = d.motion := by cases p <;> rfl

@[simp] theorem judgeSpeed_motion : (d.judgeSpeed c p v).motion = d.motion := by
  unfold Supervisor.judgeSpeed Supervisor.keepMaximum
  split
  · dsimp only
    split <;> rfl
  · rfl

theorem judgeEncoder_motion : (d.judgeEncoder p).supervisor.motion = d.motion := by
  unfold Supervisor.judgeEncoder
  dsimp only
  split
  · simp
  · split <;> simp

theorem judgeZone_motion (boundary : Nat) : (d.judgeZone boundary p).supervisor.motion = d.motion := by
  unfold Supervisor.judgeZone
  split
  · split <;> rfl
  · rfl

theorem judgeOverspeed_motion : (d.judgeOverspeed c p v bottom).supervisor.motion = d.motion := by
  unfold Supervisor.judgeOverspeed
  split
  · rfl
  · dsimp only
    split <;> simp

theorem judgeStall_motion : (d.judgeStall p bottom).supervisor.motion = d.motion := by
  unfold Supervisor.judgeStall
  split <;> simp

theorem judgeCompletion_motion : (d.judgeCompletion p bottom).supervisor.motion = d.motion := by
  unfold Supervisor.judgeCompletion
  dsimp only
  split <;> rfl

theorem judgeOvertime_motion (limit : Nat) (completedBefore : Bool) :
    (d.judgeOvertime limit completedBefore p).supervisor.motion = d.motion := by
  unfold Supervisor.judgeOvertime
  split <;> simp

theorem record_motion : (d.record p v).motion = d.motion := by
  unfold Supervisor.record
  dsimp only
  split <;> simp

/-- R112: a sample judged whole leaves the motion. -/
theorem judge_motion : (d.judge c p bottom).supervisor.motion = d.motion := by
  simp only [Supervisor.judge, Judged.andThen, record_motion, judgeOvertime_motion, judgeCompletion_motion,
    judgeStall_motion, judgeOverspeed_motion, judgeZone_motion, judgeEncoder_motion]

theorem next_motion (reading : Option Nat) : (d.next c reading bottom).supervisor.motion = d.motion := judge_motion _ _ _ _

theorem first_motion (delivery : Option DriveInputs) : (d.first c delivery).supervisor.motion = d.motion := by
  cases delivery <;> exact judge_motion _ _ _ _

/-! ### The completion -/

theorem stops_completion : Notice.completion ∉ d.stops p bottom := by
  unfold Supervisor.stops
  split <;> simp

theorem judgeEncoder_completion : Notice.completion ∉ (d.judgeEncoder p).notices := by
  unfold Supervisor.judgeEncoder
  dsimp only
  split
  · simp only [Supervisor.raising, List.mem_cons, reduceCtorEq, false_or]
    split <;> simp
  · split <;> simp [Supervisor.silent]

theorem judgeZone_completion (boundary : Nat) : Notice.completion ∉ (d.judgeZone boundary p).notices := by
  unfold Supervisor.judgeZone
  split
  · split <;> simp [Supervisor.silent]
  · simp [Supervisor.silent]

theorem judgeOverspeed_completion : Notice.completion ∉ (d.judgeOverspeed c p v bottom).notices := by
  unfold Supervisor.judgeOverspeed
  split
  · simp [Supervisor.silent]
  · dsimp only
    split <;> simp [Supervisor.silent, Supervisor.raising, stops_completion]

theorem judgeStall_completion : Notice.completion ∉ (d.judgeStall p bottom).notices := by
  unfold Supervisor.judgeStall
  split <;> simp [Supervisor.silent, Supervisor.raising, stops_completion]

theorem judgeOvertime_completion (limit : Nat) (completedBefore : Bool) :
    Notice.completion ∉ (d.judgeOvertime limit completedBefore p).notices := by
  unfold Supervisor.judgeOvertime
  split <;> simp [Supervisor.silent, Supervisor.raising]

theorem bottom_of_completes (h : d.completes p bottom = true) : bottom = true := (Bool.and_eq_true_iff.mp h).1

theorem judgeCompletion_completion (h : Notice.completion ∈ (d.judgeCompletion p bottom).notices) : bottom = true := by
  by_cases hc : (d.completes p bottom && !d.completed) = true
  · exact bottom_of_completes d p bottom (Bool.and_eq_true_iff.mp hc).1
  · unfold Supervisor.judgeCompletion at h
    simp only [hc, Bool.false_eq_true, if_false, List.nil_append] at h
    split at h <;> simp at h

/-- R120: a sample that meets completion has the bottom limit closed. -/
theorem judge_completion (h : Notice.completion ∈ (d.judge c p bottom).notices) : bottom = true := by
  simp only [Supervisor.judge, Judged.andThen, List.mem_append, judgeEncoder_completion, judgeZone_completion,
    judgeOverspeed_completion, judgeStall_completion, judgeOvertime_completion, false_or, or_false] at h
  exact judgeCompletion_completion _ p bottom h

theorem first_completion {delivery : Option DriveInputs} (h : Notice.completion ∈ (d.first c delivery).notices) :
    ∃ inputs, delivery = some inputs ∧ inputs.bottomClosed = true := by
  cases delivery with
  | none => exact Bool.noConfusion (judge_completion d none false c h)
  | some inputs => exact ⟨inputs, rfl, judge_completion d _ _ c h⟩

end

end Sys2Proof.Machine
end

section
/-!
THE COURSE OF THE DRIVE (R94 to R107, R112). The few kinds of step of which the operations of the Curtain Controller and of
the Descent Supervisor are made. They are listed once, with the states that may be entered, and what an operation keeps is
an induction over them.
-/
namespace Sys2Proof.Machine

/-! ### The steps -/

/-- The curtain state that runs a motion (R97). -/
def Motion.runsIn : Motion → CurtainState
  | .lowering => .lowering
  | .testing => .testing
  | .descending => .descending

/-- The keys that follow a descent flag (R110). -/
def FaultKey.ofDescent : FaultKey → Bool
  | .encoderLost | .overspeed | .stall | .overtime => true
  | _ => false

theorem reasonKey_ofDescent (reason : DescentReason) : (reasonKey reason).ofDescent = true := by cases reason <;> rfl

/-- From one state to another by steps of the drive, entering only states that `enters` allows. -/
inductive Course (enters : CurtainState → Prop) : State → State → Prop
  | refl (s : State) : Course enters s s
  | trans {s t u : State} : Course enters s t → Course enters t u → Course enters s u
  | log (s : State) (e : LogEvent) : Course enters s (s.log e)
  | mark (s : State) : Course enters s s.mark
  | fault {s t : State} {key : FaultKey} (h : FaultMove key s t) (hlog : Logs 1 s t)
      (hkey : key.ofDescent = true ∨ key = .raiseTimeout ∧ enters .up) : Course enters s t
  | mismatch (s : State) (standing : Bool) : Course enters s (s.setMismatch s.curtain.ownMismatch standing)
  | verdict (s : State) (reason : EndReason) (h : s.descent.motion = some .testing) :
      Course enters s (s.writeVerdict reason)
  | descents (s : State) (count : Half) : Course enters s (s.withCurtain { s.curtain with descents := count })
  | descent (s : State) (d : Supervisor) (h : d.motion = s.descent.motion ∨ d.motion = none) :
      Course enters s (s.withDescent d)
  | begin (s : State) (motion : Motion) (h : enters motion.runsIn) :
      Course enters s (s.withDescent (s.descent.begin motion s.curtain.cause s.nodeTime))
  | cause (s : State) (cause : DescentCause) (h : enters .descending) :
      Course enters s (s.withCurtain { s.curtain with cause := some cause })
  | command (s : State) : Course enters s s.command
  | enter (s : State) (state : CurtainState) (h : enters state) :
      Course enters s (s.withCurtain (s.curtain.enter state s.clock.now)).command

namespace Course

variable {enters : CurtainState → Prop} {s t u : State}

theorem ite {c : Prop} [Decidable c] (h : Course enters s t) (h' : Course enters s u) :
    Course enters s (if c then t else u) := by
  split <;> assumption

theorem foldl {α : Type} {f : State → α → State} {xs : List α} (h : ∀ t, ∀ x ∈ xs, Course enters t (f t x)) (s : State) :
    Course enters s (xs.foldl f s) := by
  induction xs generalizing s with
  | nil => exact refl s
  | cons x xs ih =>
    exact (h s x (List.mem_cons_self ..)).trans (ih (fun t y hy => h t y (List.mem_cons_of_mem _ hy)) _)

end Course

/-! ### What a course keeps of the controller -/

theorem FaultMove.curtain {key : FaultKey} {s t : State} (h : FaultMove key s t) : t.curtain = s.curtain :=
  (h.move (ps := [])).curtain (by decide)

theorem FaultMove.descent {key : FaultKey} {s t : State} (h : FaultMove key s t) : t.descent = s.descent :=
  (h.move (ps := [])).descent (by decide)

theorem setMismatch_descent (s : State) (own supervisor : Bool) : (s.setMismatch own supervisor).descent = s.descent :=
  ((withCurtain_move s (ps := [.curtain]) (by decide) _).trans <| (markIf_move _ _).trans
    (setFault_moved _ .limitMismatch .none (own || supervisor))).descent (by decide)

theorem markIf_stands (s : State) (b : Bool) (key : FaultKey) : (s.markIf b).stands key = s.stands key := by
  cases b <;> rfl

theorem setMismatch_stands (s : State) (own supervisor : Bool) {key : FaultKey} (h : key ≠ .limitMismatch) :
    (s.setMismatch own supervisor).stands key = s.stands key :=
  ((setFault_move _ .limitMismatch .none (own || supervisor)).panel.others key h).trans (markIf_stands _ _ key)

/-- The views of the last delivery and the desk's demand, which no operation of the drive touches. -/
structure InputsKept (c d : Curtain) : Prop where
  view : d.view = c.view
  position : d.position = c.position
  delivery : d.delivery = c.delivery
  ownMismatch : d.ownMismatch = c.ownMismatch
  demandKind : d.demandKind = c.demandKind
  demandEpoch : d.demandEpoch = c.demandEpoch

theorem InputsKept.refl (c : Curtain) : InputsKept c c := ⟨rfl, rfl, rfl, rfl, rfl, rfl⟩

theorem InputsKept.trans {c d e : Curtain} (h : InputsKept c d) (h' : InputsKept d e) : InputsKept c e :=
  ⟨h'.view.trans h.view, h'.position.trans h.position, h'.delivery.trans h.delivery, h'.ownMismatch.trans h.ownMismatch,
    h'.demandKind.trans h.demandKind, h'.demandEpoch.trans h.demandEpoch⟩

/-- R94: the output set is the one that stood, in the state that stood, or the set of the state that stands now. -/
def Commanded (c d : Curtain) : Prop :=
  d.state = c.state ∧ d.output = c.output ∨ ∃ supervisor, d.output = outputSet d.state supervisor

theorem Commanded.refl (c : Curtain) : Commanded c c := .inl ⟨rfl, rfl⟩

theorem Commanded.trans {c d e : Curtain} (h : Commanded c d) (h' : Commanded d e) : Commanded c e := by
  rcases h' with ⟨hstate, houtput⟩ | h'
  · rcases h with ⟨hstate', houtput'⟩ | ⟨supervisor, h⟩
    · exact .inl ⟨hstate.trans hstate', houtput.trans houtput'⟩
    · exact .inr ⟨supervisor, by rw [houtput, hstate, h]⟩
  · exact .inr h'

/-- The table of R94 has HOLD and RAISE MOTOR as the state calls for them. -/
theorem outputSet_legal {state : CurtainState} {d : Supervisor} {o : OutputSet} (h : outputSet state d = some o) :
    (o.hold, o.motor) = holdAndMotor state := by
  cases state <;> cases h <;> rfl

theorem Commanded.outputsLegal {c d : Curtain} (h : Commanded c d) (hc : c.outputsLegal) : d.outputsLegal := by
  intro o ho
  rcases h with ⟨hstate, houtput⟩ | ⟨supervisor, h⟩
  · rw [hstate]
    exact hc o (houtput ▸ ho)
  · exact outputSet_legal (h ▸ ho)

namespace Course

variable {enters : CurtainState → Prop} {s t : State}

theorem move (h : Course enters s t) : Move drive s t := by
  induction h with
  | refl s => exact .refl _ s
  | trans _ _ ih ih' => exact ih.trans ih'
  | log s e => exact log_move s e
  | mark s => exact mark_move s
  | fault h _ _ => exact h.move
  | mismatch s standing => exact setMismatch_move s _ _
  | verdict s reason _ => exact writeVerdict_move s reason
  | descent s d _ => exact withDescent_move s (by decide) d
  | begin s motion _ => exact withDescent_move s (by decide) _
  | enter s state _ => exact (withCurtain_move s (by decide) _).trans (command_move _)
  | _ => exact withCurtain_move _ (by decide) _

theorem inputs (h : Course enters s t) : InputsKept s.curtain t.curtain := by
  induction h with
  | trans _ _ ih ih' => exact ih.trans ih'
  | fault h _ _ => rw [h.curtain]; exact .refl _
  | mismatch s standing => rw [setMismatch_causes]; exact ⟨rfl, rfl, rfl, rfl, rfl, rfl⟩
  | _ => exact ⟨rfl, rfl, rfl, rfl, rfl, rfl⟩

theorem commanded (h : Course enters s t) : Commanded s.curtain t.curtain := by
  induction h with
  | trans _ _ ih ih' => exact ih.trans ih'
  | fault h _ _ => rw [h.curtain]; exact .refl _
  | mismatch s standing => rw [setMismatch_causes]; exact .inl ⟨rfl, rfl⟩
  | command s => exact .inr ⟨s.descent, rfl⟩
  | enter s state _ => exact .inr ⟨s.descent, rfl⟩
  | _ => exact .inl ⟨rfl, rfl⟩

/-- A state that is not the one before has been entered. -/
theorem state (h : Course enters s t) : t.curtain.state = s.curtain.state ∨ enters t.curtain.state := by
  induction h with
  | trans _ _ ih ih' =>
    rcases ih' with e | h
    · rw [e]; exact ih
    · exact .inr h
  | fault h _ _ => rw [h.curtain]; exact .inl rfl
  | mismatch s standing => rw [setMismatch_causes]; exact .inl rfl
  | enter s state h => exact .inr h
  | _ => exact .inl rfl

/-- R103: the raise timer stays stopped unless RAISING is entered. -/
theorem raiseTimer (hraising : ¬enters .raising) (h : Course enters s t) (hs : s.curtain.raiseTimer = none) :
    t.curtain.raiseTimer = none := by
  induction h with
  | trans _ _ ih ih' => exact ih' (ih hs)
  | fault h _ _ => rwa [h.curtain]
  | mismatch s standing => rwa [setMismatch_causes]
  | enter s state h =>
    change (if state = .raising then _ else none) = none
    exact if_neg fun e : state = .raising => hraising (e ▸ h)
  | _ => exact hs

/-- R96: the descent cause stands unless DESCENDING is entered. -/
theorem keepsCause (hdescending : ¬enters .descending) (h : Course enters s t) : t.curtain.cause = s.curtain.cause := by
  induction h with
  | trans _ _ ih ih' => exact ih'.trans ih
  | fault h _ _ => rw [h.curtain]
  | mismatch s standing => rw [setMismatch_causes]
  | cause s cause h => exact absurd h hdescending
  | _ => rfl

/-- R95: a reported position that is the position view stays it. -/
theorem reported (h : Course enters s t) (hs : s.curtain.reported = s.curtain.position) :
    t.curtain.reported = t.curtain.position := by
  induction h with
  | trans _ _ ih ih' => exact ih' (ih hs)
  | fault h _ _ => rwa [h.curtain]
  | mismatch s standing => rwa [setMismatch_causes]
  | enter s state _ => rfl
  | _ => exact hs

/-! ### What a course keeps of the faults, of the proof and of the log -/

/-- R105: LIMIT MISMATCH goes on standing by its two causes. -/
theorem mismatchStands (h : Course enters s t)
    (hs : s.stands .limitMismatch = (s.curtain.ownMismatch || s.curtain.supervisorMismatch)) :
    t.stands .limitMismatch = (t.curtain.ownMismatch || t.curtain.supervisorMismatch) := by
  induction h with
  | trans _ _ ih ih' => exact ih' (ih hs)
  | @fault _ _ key h _ hkey =>
    have hne : FaultKey.limitMismatch ≠ key := by
      rintro rfl
      rcases hkey with hkey | ⟨hkey, -⟩ <;> exact nomatch hkey
    rw [h.curtain]
    exact (h.panel.others _ hne).trans hs
  | mismatch s standing =>
    rw [setMismatch_causes]
    exact setFault_stands _ _ _ _
  | _ => exact hs

/-- A key of neither the descent flags nor LIMIT MISMATCH stands as it did, RAISE TIMEOUT unless UP is entered (R103). -/
theorem stands (h : Course enters s t) {key : FaultKey} (hdescent : key.ofDescent = false) (hlimit : key ≠ .limitMismatch)
    (hraise : key = .raiseTimeout → ¬enters .up) : t.stands key = s.stands key := by
  induction h with
  | trans _ _ ih ih' => exact ih'.trans ih
  | fault h _ hkey =>
    refine h.panel.others _ ?_
    rintro rfl
    rcases hkey with hkey | ⟨hkey, hup⟩
    · exact Bool.noConfusion (hkey.symm.trans hdescent)
    · exact hraise hkey hup
  | mismatch s standing =>
    exact setMismatch_stands s _ _ hlimit
  | _ => rfl

/-- R109, R124: with no TESTING motion running or begun, the proof record stands. -/
theorem proof (htesting : ¬enters .testing) (h : Course enters s t) (hs : s.descent.motion ≠ some .testing) :
    t.descent.motion ≠ some .testing ∧ t.curtain.proof = s.curtain.proof := by
  induction h with
  | trans _ _ ih ih' =>
    obtain ⟨hmotion, hproof⟩ := ih hs
    obtain ⟨hmotion', hproof'⟩ := ih' hmotion
    exact ⟨hmotion', hproof'.trans hproof⟩
  | fault h _ _ => rw [h.curtain, h.descent]; exact ⟨hs, rfl⟩
  | mismatch s standing => rw [setMismatch_causes, setMismatch_descent]; exact ⟨hs, rfl⟩
  | verdict s reason h => exact absurd h hs
  | descent s d h =>
    refine ⟨?_, rfl⟩
    rcases h with h | h <;> rw [State.withDescent_descent, h]
    · exact hs
    · exact nofun
  | begin s motion h =>
    refine ⟨fun e => htesting ?_, rfl⟩
    obtain rfl : motion = .testing := Option.some.inj e
    exact h
  | _ => exact ⟨hs, rfl⟩

end Course

end Sys2Proof.Machine
end

section
/-!
THE OPERATIONS OF THE DRIVE (R94 to R107, R112). Each operation as a course of the drive, with the states that it may
enter.
-/
namespace Sys2Proof.Machine

section
variable (s : State) {enters : CurtainState → Prop}

/-! ### The motion -/

theorem settleMismatch_course : Course enters s s.settleMismatch := .ite (.refl s) (.mismatch s _)

/-- The verdict that the end of a TESTING motion writes (R124). -/
theorem endVerdict_course {motion : Motion} (hmotion : s.descent.motion = some motion) (reason : EndReason) :
    Course enters s (if motion = .testing then s.writeVerdict reason else s) := by
  split
  · next h => exact .verdict s reason (h ▸ hmotion)
  · exact .refl s

theorem motionEnd_course (reason : EndReason) : Course enters s (s.motionEnd reason) := by
  unfold State.motionEnd
  split
  · exact .refl s
  · next motion hmotion =>
    have hended := (endVerdict_course s (enters := enters) hmotion reason).trans (.descent _
      ((if motion = .testing then s.writeVerdict reason else s).descent.finish reason) (.inr rfl))
    exact .ite (hended.trans (settleMismatch_course _)) hended

theorem enterState_course {state : CurtainState} (h : enters state) (detail : CurtainDetail) :
    Course enters s (s.enterState state detail) := by
  have hentered : Course enters s (((s.withCurtain (s.curtain.enter state s.clock.now)).command.mark).log
      (.curtain state detail)) := (Course.enter s state h).trans ((Course.mark _).trans (.log _ _))
  unfold State.enterState
  dsimp only
  split
  · next hup =>
    exact hentered.trans (.fault (clearFault_move _ _) (clearFault_logs _ _) (.inr ⟨rfl, hup ▸ h⟩))
  · exact hentered

theorem arrive_course (h : enters .down) : Course enters s s.arrive :=
  (motionEnd_course s .arrived).trans ((Course.descents _ _).trans (enterState_course _ h _))

/-! ### The notices of the supervisor (R104) -/

theorem takeRaised_course (reason : DescentReason) (k : Nat) (p : Option Nat) (v : Option Int) :
    Course enters s (s.takeRaised reason k p v) :=
  .ite ((Course.mark s).trans (.log _ _)) ((Course.mark s).trans
    (.fault (raiseFault_move _ _ _) (raiseFault_logs _ _ _) (.inl (reasonKey_ofDescent reason))))

theorem holdGovernor_course : Course enters s s.holdGovernor :=
  (Course.descent s { s.descent with governorHeld := s.descent.governorHeld || s.descent.zone == some .main }
    (.inl rfl)).trans (.command _)

theorem takeNotice_course (n : Notice) (h : n = .completion → enters .down) : Course enters s (s.takeNotice n) := by
  unfold State.takeNotice
  split
  · exact (takeRaised_course s _ _ _ _).trans (holdGovernor_course _)
  · exact takeRaised_course s _ _ _ _
  · exact (Course.mark s).trans
      (.fault (clearFault_move _ _) (clearFault_logs _ _) (.inl (reasonKey_ofDescent _)))
  · exact .command s
  · exact .mismatch s _
  · exact .ite (arrive_course s (h rfl)) (.refl s)
  · exact .refl s

theorem clearings_completion (d : Supervisor) : Notice.completion ∉ d.clearings := by
  unfold Supervisor.clearings
  cases d.overspeed <;> cases d.stall <;> cases d.overtime <;> simp

/-! ### The start of a motion (R112, R113) -/

/-- The supervisor has begun the motion and the outputs are commanded, before sample 0 is judged. -/
def State.motionBegun (s : State) (motion : Motion) : State :=
  (s.descent.clearings.foldl State.takeNotice
    (s.withDescent (s.descent.begin motion s.curtain.cause s.nodeTime)).settleMismatch).command

theorem motionStart_eq (motion : Motion) : s.motionStart motion =
    ((s.motionBegun motion).descent.first (s.motionBegun motion).curtainSettings
      (s.motionBegun motion).curtain.delivery).notices.foldl State.takeNotice
        ((s.motionBegun motion).withDescent ((s.motionBegun motion).descent.first
          (s.motionBegun motion).curtainSettings (s.motionBegun motion).curtain.delivery).supervisor) := rfl

/-- What follows the notice to the supervisor, up to sample 0, enters no state by itself. -/
theorem motionBegun_course (motion : Motion) :
    Course enters (s.withDescent (s.descent.begin motion s.curtain.cause s.nodeTime)) (s.motionBegun motion) :=
  (settleMismatch_course _).trans <| Course.trans
    (.foldl (fun t n hn => takeNotice_course t n fun e => absurd (e ▸ hn) (clearings_completion _)) _) (.command _)

/-- Sample 0 may meet completion where the latest delivery shows the bottom limit closed. -/
theorem motionStart_begun_course (motion : Motion)
    (hdown : ∀ inputs, s.curtain.delivery = some inputs → inputs.bottomClosed = true → enters .down) :
    Course enters (s.withDescent (s.descent.begin motion s.curtain.cause s.nodeTime)) (s.motionStart motion) := by
  have hbegun := motionBegun_course s (enters := enters) motion
  rw [motionStart_eq]
  refine hbegun.trans ((Course.descent _ _ (.inl (first_motion _ _ _))).trans (.foldl (fun t n hn => ?_) _))
  refine takeNotice_course t n fun e => ?_
  obtain ⟨inputs, hdelivery, hbottom⟩ := first_completion _ _ (e ▸ hn)
  exact hdown inputs (hbegun.inputs.delivery ▸ hdelivery) hbottom

theorem motionStart_course {motion : Motion} (h : enters motion.runsIn)
    (hdown : ∀ inputs, s.curtain.delivery = some inputs → inputs.bottomClosed = true → enters .down) :
    Course enters s (s.motionStart motion) :=
  (Course.begin s motion h).trans (motionStart_begun_course s motion hdown)

theorem descend_course (h : enters .descending)
    (hdown : ∀ inputs, s.curtain.delivery = some inputs → inputs.bottomClosed = true → enters .down)
    (cause : DescentCause) (detail : CurtainDetail) : Course enters s (s.descend cause detail) := by
  have hcause := Course.cause s cause h
  have hentered := hcause.trans (enterState_course _ h detail)
  exact hentered.trans (motionStart_course _ (motion := .descending) h
    fun inputs hdelivery => hdown inputs (hentered.inputs.delivery ▸ hdelivery))

/-! ### Triggers (R96) -/

theorem fall_course (h : enters .descending) (hdown : enters .down) (cause : DescentCause) :
    Course enters s (s.fall cause) :=
  .ite ((motionEnd_course s .trigger).trans (descend_course _ h (fun _ _ _ => hdown) cause _)) (.refl s)

theorem testTriggers_course (h : enters .descending) (hdown : enters .down) : Course enters s s.testTriggers := by
  unfold State.testTriggers
  split
  · exact fall_course s h hdown _
  · exact .refl s

/-! ### Demands (R101) and samples (R104, R122) -/

variable (hall : ∀ state, enters state)
include hall

theorem goTo_course (state : CurtainState) (detail : CurtainDetail) : Course enters s (s.goTo state detail) :=
  (enterState_course s (hall state) detail).trans (testTriggers_course _ (hall _) (hall _))

theorem stopMotion_course (reason : EndReason) : Course enters s (s.stopMotion reason) :=
  (motionEnd_course s reason).trans (goTo_course _ hall _ _)

theorem startMotion_course (state : CurtainState) (motion : Motion) : Course enters s (s.startMotion state motion) :=
  (enterState_course s (hall state) _).trans <| (motionStart_course _ (hall _) fun _ _ _ => hall _).trans
    (testTriggers_course _ (hall _) (hall _))

theorem carryOut_course (source : Nat) (kind : DemandKind) (epoch : Byte) :
    Course enters s (s.carryOut source kind epoch) := by
  unfold State.carryOut
  split
  · exact .log s _
  · exact .log s _
  · exact goTo_course s hall _ _
  · exact startMotion_course s hall _ _
  · exact startMotion_course s hall _ _
  · exact stopMotion_course s hall _
  · exact fall_course s (hall _) (hall _) _

theorem takeSampleNotice_course (n : Notice) : Course enters s (s.takeSampleNotice n) := by
  unfold State.takeSampleNotice
  split
  · exact .ite (stopMotion_course s hall _) (.refl s)
  · exact takeNotice_course s _ fun _ => hall _

/-- A judged sample is taken, its supervisor in the motion that runs. -/
theorem takeJudged_course {j : Judged} (h : j.supervisor.motion = s.descent.motion) :
    Course enters s (s.takeJudged j) :=
  (Course.descent s _ (.inl h)).trans <|
    (Course.foldl (fun t n _ => takeSampleNotice_course t hall n) _).trans (settleMismatch_course _)

theorem slotSample_course (reading : Option Nat) (bottom : Bool) : Course enters s (s.slotSample reading bottom) :=
  .ite (takeJudged_course s hall (next_motion _ _ _ _)) (.refl s)

theorem beamBreaks_course : Course enters s s.beamBreaks :=
  .ite ((Course.log s _).trans (stopMotion_course _ hall _)) (.refl s)

theorem topCloses_course : Course enters s s.topCloses := by
  unfold State.topCloses
  exact .ite (.ite (goTo_course s hall _ _) (goTo_course s hall _ _)) (.refl s)

end

end Sys2Proof.Machine
end

section
/-!
THE END OF A MOTION (R109, R112, R124). What a motion-end notice makes of the supervisor and of the controller, and the
verdict of a test.
-/
namespace Sys2Proof.Machine

section
variable (s : State) (reason : EndReason)

/-- R124: the record that the end of a test writes. -/
def State.testRecord : ProofRecord :=
  { verdict := s.descent.verdict s.image.curtain.descentLimit reason, time := s.station.nodeTime
    descentTime := if reason = .arrived then s.descent.descentTime else s.descent.k
    maxMain := s.descent.maxMain, maxSlow := s.descent.maxSlow }

theorem settleMismatch_curtain : ∃ standing, s.settleMismatch.curtain = { s.curtain with supervisorMismatch := standing } := by
  unfold State.settleMismatch
  split
  · exact ⟨s.curtain.supervisorMismatch, rfl⟩
  · exact ⟨s.descent.mismatch, setMismatch_causes s _ _⟩

theorem settleMismatch_descent : s.settleMismatch.descent = s.descent := by
  unfold State.settleMismatch
  split
  · rfl
  · exact setMismatch_descent s _ _

/-- A motion that ends leaves the curtain but for the record of a test and the supervisor's cause of LIMIT MISMATCH. -/
theorem motionEnd_curtain : ∃ standing, (s.motionEnd reason).curtain = { s.curtain with
    proof := if s.descent.motion = some .testing then s.testRecord reason else s.curtain.proof
    supervisorMismatch := standing } := by
  unfold State.motionEnd
  split
  · next h => exact ⟨s.curtain.supervisorMismatch, by rw [h]; rfl⟩
  · next motion h =>
    have hverdict : (if motion = .testing then s.writeVerdict reason else s).curtain = { s.curtain with
        proof := if s.descent.motion = some .testing then s.testRecord reason else s.curtain.proof } := by
      rw [h]
      cases motion <;> rfl
    generalize (if motion = .testing then s.writeVerdict reason else s) = t at hverdict ⊢
    dsimp only
    split
    · obtain ⟨standing, hsettled⟩ := settleMismatch_curtain (t.withDescent (t.descent.finish reason))
      exact ⟨standing, by rw [hsettled, State.withDescent_curtain, hverdict]⟩
    · exact ⟨s.curtain.supervisorMismatch, hverdict⟩

/-- R112: no motion runs after a motion-end notice. -/
theorem motionEnd_motion : (s.motionEnd reason).descent.motion = none := by
  unfold State.motionEnd
  split
  · assumption
  · next motion _ =>
    generalize (if motion = .testing then s.writeVerdict reason else s) = t
    dsimp only
    split
    · rw [settleMismatch_descent]
      rfl
    · rfl

theorem motionEnd_state : (s.motionEnd reason).curtain.state = s.curtain.state := by
  obtain ⟨standing, h⟩ := motionEnd_curtain s reason
  rw [h]

theorem motionEnd_output : (s.motionEnd reason).curtain.output = s.curtain.output := by
  obtain ⟨standing, h⟩ := motionEnd_curtain s reason
  rw [h]

theorem motionEnd_proof : (s.motionEnd reason).curtain.proof =
    if s.descent.motion = some .testing then s.testRecord reason else s.curtain.proof := by
  obtain ⟨standing, h⟩ := motionEnd_curtain s reason
  rw [h]

end

/-! ### The verdict (R124) -/

section
variable (d : Supervisor) (limit : Nat)

theorem verdict_arrived_of_raised {why : DescentReason} (h : d.firstReason = some why) :
    d.verdict limit .arrived = .failed (failureOf why) := by
  simp [Supervisor.verdict, h]

theorem verdict_pass_iff (reason : EndReason) : d.verdict limit reason = .pass ↔
    reason = .arrived ∧ d.descentTime ≤ limit * 10 ∧ d.firstReason = none := by
  cases reason with
  | arrived =>
    cases h : d.firstReason with
    | none => simp [Supervisor.verdict, h]
    | some why => simp [verdict_arrived_of_raised d limit h]
  | _ => simp [Supervisor.verdict]

end

/-- Settles O46: the record is the one that the end of the motion writes, and its verdict is judged by the reason. -/
theorem testEndsWithItsVerdict : Obligations.TestEndsWithItsVerdict := by
  intro s reason htesting
  have hproof : (s.motionEnd reason).curtain.proof = s.testRecord reason :=
    (motionEnd_proof s reason).trans (if_pos htesting)
  dsimp only
  rw [hproof]
  refine ⟨motionEnd_motion s reason, rfl, rfl, rfl, verdict_pass_iff _ _ reason, ?_, fun h => if_neg h, ?_, ?_,
    motionEnd_state s reason, motionEnd_output s reason⟩
  · rintro rfl
    exact ⟨rfl, verdict_arrived_of_raised _ _, verdict_arrived_of_raised _ _, verdict_arrived_of_raised _ _,
      verdict_arrived_of_raised _ _⟩
  · rintro rfl
    rfl
  · rintro (rfl | rfl | rfl) <;> rfl

end Sys2Proof.Machine
end

section
/-!
WHAT FOLLOWS AT THE READERS (R12, R59, R64, R75, R184). The steps of a re-evaluation, of the reaction to it and of an
increment of node time, as the curtain and the log see them: entries that join the log, faults, and tests of the triggers.
-/
namespace Sys2Proof.Machine

/-! ### The steps -/

/-- From one state to another by log entries, faults and tests of the triggers; elsewhere the panel and the curtain
stand. -/
inductive Follows : State → State → Prop
  | apart {s t : State} (hpanel : t.panel = s.panel) (hcurtain : t.curtain = s.curtain) : Follows s t
  | trans {s t u : State} : Follows s t → Follows t u → Follows s u
  | log (s : State) (e : LogEvent) : Follows s (s.log e)
  | fault {s t : State} {key : FaultKey} (h : FaultMove key s t) (hlog : Logs 1 s t) : Follows s t
  | triggers (s : State) : Follows s s.testTriggers

namespace Follows

variable {s t u : State}

theorem refl (s : State) : Follows s s := .apart rfl rfl

theorem ite {c : Prop} [Decidable c] (h : Follows s t) (h' : Follows s u) : Follows s (if c then t else u) := by
  split <;> assumption

theorem foldl {α : Type} {f : State → α → State} (h : ∀ t x, Follows t (f t x)) (xs : List α) (s : State) :
    Follows s (xs.foldl f s) := by
  induction xs generalizing s with
  | nil => exact refl s
  | cons x xs ih => exact (h s x).trans (ih _)

theorem mark (s : State) : Follows s s.mark := .apart rfl rfl
theorem calls (s : State) (x : Calls) : Follows s (s.withCalls x) := .apart rfl rfl
theorem bay (s : State) (b : Bay) (x : BayRecord) : Follows s (s.withBay b x) := .apart rfl rfl
theorem detection (s : State) (x : Detection) : Follows s (s.withDetection x) := .apart rfl rfl
theorem alarm (s : State) (f : Alarm → Alarm) : Follows s (s.setAlarm f) := .apart rfl rfl
theorem phase (s : State) (x : PhaseView) : Follows s (s.withPhase x) := .apart rfl rfl
theorem lights (s : State) (x : Lights) : Follows s (s.withLights x) := .apart rfl rfl
theorem peer (s : State) (r : PeerRecord) : Follows s (s.withPeer r) := .apart rfl rfl

theorem markIf (s : State) (b : Bool) : Follows s (s.markIf b) := .ite (.mark s) (.refl s)

theorem logIf (s : State) (b : Bool) (e : LogEvent) : Follows s (s.logIf b e) := .ite (.log s e) (.refl s)

theorem setFault (s : State) (key : FaultKey) (detail : FaultDetail) (b : Bool) :
    Follows s (s.setFault key detail b) := .fault (setFault_move s key detail b) (setFault_logs s key detail b)

/-- A change of the calls with the entry that names it. -/
theorem callsLog (s : State) (x : Calls) (e : LogEvent) : Follows s ((s.withCalls x).log e) :=
  (calls s x).trans (.log _ e)

end Follows

section
variable (s : State)

/-! ### The Call Sequencer -/

theorem playOn_follows (set : PerBay Bool) (message : Nat) (zones : List Nat) :
    Follows s (s.playOn set message zones) :=
  .foldl (fun t _ => .ite (.bay t _ _) (.refl t)) _ s

theorem stopCurrent_follows : Follows s s.stopCurrent :=
  Follows.trans (.foldl (fun t _ => .ite (.bay t _ _) (.refl t)) _ s) (.calls _ _)

theorem play_follows (set : PerBay Bool) (message : Nat) (zones : List Nat) (call : CurrentCall)
    (outstanding : PerBay Bool) : Follows s ((s.playOn set message zones).setCurrent call outstanding) :=
  (playOn_follows s _ _ _).trans (.calls _ _)

theorem drainOnJoin_follows : Follows s s.drainOnJoin := .ite (.callsLog s _ _) (.refl s)

theorem drainOnLeave_follows : Follows s s.drainOnLeave := .ite (.callsLog s _ _) (.refl s)

theorem enqueue_follows (message : Nat) (zones : List Nat) (repeats source : Nat) (cls : CallClass) :
    Follows s (s.enqueue message zones repeats source cls) := by
  unfold State.enqueue
  refine .ite (.refl s) ?_
  split
  · exact (Follows.calls s _).trans ((Follows.calls _ _).trans (.logIf _ _ _))
  · exact .ite (.callsLog s _ _) ((Follows.calls s _).trans (drainOnJoin_follows _))

theorem startTestUpTo_follows (n : Nat) : Follows s (startTestUpTo n s) := by
  induction n generalizing s with
  | zero => exact .refl s
  | succ n ih =>
    unfold startTestUpTo
    refine .ite ?_ (.refl s)
    split
    · exact .refl s
    · next e rest _ =>
      have hleft : Follows s (s.withQueue rest).drainOnLeave :=
        (Follows.calls s _).trans (drainOnLeave_follows _)
      exact .ite (hleft.trans ((Follows.callsLog _ _ _).trans (ih _)))
        (.ite (hleft.trans (play_follows _ _ _ _ _ _)) (hleft.trans ((Follows.log _ _).trans (ih _))))

theorem startTest_follows : Follows s s.startTest := startTestUpTo_follows s _

theorem offer_follows (message : Nat) (zones : List Nat) (repeats source : Nat) (cls : CallClass) :
    Follows s (s.offer message zones repeats source cls) :=
  .ite ((enqueue_follows s _ _ _ _ _).trans (startTest_follows _)) (.refl s)

theorem startStaff_follows : Follows s s.startStaff := by
  have htimer : Follows s (s.withCalls { s.calls with staffRepeat := some (s.clock.now + Config.staffMs) }) :=
    .calls s _
  exact .ite (htimer.trans ((play_follows _ _ _ _ _ _).trans (.calls _ _))) htimer

theorem startStanding_follows : Follows s s.startStanding := by
  have hevacuation : Follows s s.startEvacuation := .ite (play_follows s _ _ _ _ _) (.refl s)
  exact .ite (.ite (.ite (.refl s) hevacuation) (.ite (startStaff_follows s) (.refl s))) (.refl s)

/-- R148: at a full queue the preempted entry drops the tail. -/
theorem dropTail_follows : Follows s
    (match s.calls.queue.getLast?, decide (Config.queueSize ≤ s.calls.queue.length) with
      | some tail, true =>
        (((s.withQueue s.calls.queue.dropLast).countDroppedFull).log (.queueFull tail.message tail.source)).drainOnLeave
      | _, _ => s) := by
  split
  · exact (Follows.calls s _).trans ((Follows.callsLog _ _ _).trans (drainOnLeave_follows _))
  · exact .refl s

theorem returnToHead_follows (e : QueueEntry) : Follows s (s.returnToHead e) := by
  refine (Follows.log s (.callPreempted e.message)).trans ?_
  unfold State.returnToHead
  dsimp only
  generalize s.log (.callPreempted e.message) = t
  split
  · exact (Follows.calls t _).trans ((Follows.calls _ _).trans (.logIf _ _ _))
  · exact (dropTail_follows t).trans ((Follows.calls _ _).trans (drainOnJoin_follows _))

theorem preempt_follows : Follows s s.preempt := by
  unfold State.preempt
  split
  · exact .ite ((stopCurrent_follows s).trans (.callsLog _ _ _)) ((stopCurrent_follows s).trans (returnToHead_follows _ _))
  · exact .refl s

theorem standingDue_follows : Follows s s.standingDue := (preempt_follows s).trans (startStanding_follows _)

theorem staffBecomesDue_follows : Follows s s.staffBecomesDue :=
  .ite (.refl s) ((Follows.calls s _).trans (standingDue_follows _))

theorem discardStale_follows : Follows s s.discardStale := by
  have hout : Follows s ((s.calls.queue.filter s.isStale).foldl (fun t e => t.countStale.log (.callStale e.message))
      (s.withQueue (s.calls.queue.filter fun e => !s.isStale e))) :=
    (Follows.calls s _).trans (.foldl (fun _ _ => .callsLog _ _ _) _ _)
  exact .ite hout (hout.trans (drainOnLeave_follows _))

theorem stopIf_follows (call : CurrentCall) : Follows s (if s.calls.current = call then s.stopCurrent else s) :=
  .ite (stopCurrent_follows s) (.refl s)

theorem endStaff_follows : Follows s s.endStaff := (stopIf_follows s .staff).trans (.calls _ _)

theorem callsStage_follows (old new : Stage) : Follows s (s.callsStage old new) := by
  have hevacuated := (stopIf_follows s .evacuation).trans (discardStale_follows _)
  have hleft := (hevacuated.trans (.ite (c := new = .alert) (staffBecomesDue_follows _) (.refl _))).trans
    (startTest_follows _)
  unfold State.callsStage
  exact .ite (.refl s) (.ite ((endStaff_follows s).trans (standingDue_follows _)) (.ite hleft
    (.ite (staffBecomesDue_follows s) (.ite ((endStaff_follows s).trans (startTest_follows _)) (.refl s)))))

theorem callsSilence_follows : Follows s s.callsSilence :=
  .ite (.ite (stopIf_follows s .evacuation) (startStanding_follows s)) (.refl s)

/-! ### The Detection Unit and the Light Mixer -/

theorem evalZone_follows (z : Nat) : Follows s (s.evalZone z) := by
  unfold State.evalZone
  split
  · exact .refl s
  · exact .ite (.detection s _) ((Follows.detection s _).trans ((Follows.logIf _ _ _).trans (.setFault _ _ _ _)))

theorem recomputeWindowZone_follows (z : Nat) : Follows s (s.recomputeWindowZone z) := by
  unfold State.recomputeWindowZone
  split
  · exact .refl s
  · exact .ite (.refl s) ((Follows.detection s _).trans (evalZone_follows _ z))

theorem recomputeWindows_follows : Follows s s.recomputeWindows := .foldl recomputeWindowZone_follows _ s

theorem detectionStage_follows (old new : Stage) : Follows s (s.detectionStage old new) := by
  have hleave : Follows s s.windowsLeaveQuiet := (Follows.detection s _).trans (.markIf _ _)
  exact Follows.trans (.ite hleave (.refl s)) (recomputeWindows_follows _)

theorem countDownWindows_follows : Follows s s.countDownWindows :=
  (Follows.detection s _).trans <| (Follows.detection _ _).trans <| (Follows.markIf _ _).trans (recomputeWindows_follows _)

theorem lightsStage_follows (old new : Stage) : Follows s (s.lightsStage old new) :=
  .ite (.lights s _) (.ite (.refl s) (.lights s _))

/-! ### The Alarm Stage Unit (R75) -/

/-- A change of the alarm with the entry that names it. -/
theorem alarmLog_follows (f : Alarm → Alarm) (e : LogEvent) : Follows s ((s.setAlarm f).log e) :=
  (Follows.alarm s f).trans (.log _ e)

theorem takeSnapshot_follows (cause : StageCause) : Follows s (s.takeSnapshot cause) := by
  unfold State.takeSnapshot
  split
  · exact .log s _
  · exact alarmLog_follows s _ _

/-- The entry to a stage, with its mark. -/
theorem enterStage_follows (f : Alarm → Alarm) (e : LogEvent) : Follows s (((s.setAlarm f).log e).mark) :=
  (alarmLog_follows s f e).trans (.mark _)

theorem enterEvacuate_follows (cause : StageCause) : Follows s (s.enterEvacuate cause) :=
  (enterStage_follows s _ _).trans (takeSnapshot_follows _ cause)

theorem evalStage_follows : Follows s s.evalStage := by
  unfold State.evalStage
  split
  · exact .refl s
  · exact enterEvacuate_follows s _
  · exact .ite (.ite (enterStage_follows s _ _) (enterStage_follows s _ _)) (.refl s)
  · exact .ite (enterStage_follows s _ _) (.refl s)
  · exact .refl s

theorem expiryStage_follows (stage : Stage) (cause : StageCause) : Follows s (expiryStage stage cause s) :=
  .ite (enterEvacuate_follows s cause) (.refl s)

theorem setSilenced_follows (silenced : Bool) : Follows s (s.setSilenced silenced) :=
  .ite (.refl s) (enterStage_follows s _ _)

theorem evaluateBy_follows {stage : State → State} (h : ∀ t, Follows t (stage t)) : Follows s (s.evaluateBy stage) :=
  (Follows.alarm s _).trans <| Follows.trans (.foldl (fun t _ => alarmLog_follows t _ _) _ _) <|
    (h _).trans (setSilenced_follows _ _)

theorem mergedNotice_follows (before : Alarm) : Follows s (s.mergedNotice before) := .ite (.refl s) (.triggers s)

theorem stageNotice_follows (old new : Stage) : Follows s (s.stageNotice old new) :=
  (detectionStage_follows s old new).trans <| (lightsStage_follows _ _ _).trans <|
    (callsStage_follows _ _ _).trans (.triggers _)

theorem silenceNotice_follows (before : Alarm) : Follows s (s.silenceNotice before) :=
  .ite (.refl s) (callsSilence_follows s)

theorem handNotices_follows (before : Alarm) : Follows s (s.handNotices before) := by
  have hmerged := mergedNotice_follows s before
  exact Follows.trans (.ite hmerged (hmerged.trans (stageNotice_follows _ _ _))) (silenceNotice_follows _ before)

theorem reevaluateBy_follows {stage : State → State} (h : ∀ t, Follows t (stage t)) :
    Follows s (s.reevaluateBy stage) :=
  (evaluateBy_follows s h).trans (handNotices_follows _ _)

theorem react_follows : Follows s s.react :=
  react_keeps (P := Follows s) (fun t _ h => h.trans
    ((Follows.detection t _).trans ((Follows.mark _).trans (reevaluateBy_follows _ evalStage_follows)))) (.refl s)

theorem review_follows : Follows s s.review := (reevaluateBy_follows s evalStage_follows).trans (react_follows _)

/-! ### An increment of node time (R184) -/

theorem callsMark_follows (mark : IntervalMark) : Follows s (s.callsMark mark) := offer_follows s _ _ _ _ _

theorem intervalSecond_follows : Follows s s.intervalSecond :=
  .ite ((Follows.phase s _).trans (.foldl callsMark_follows _ _)) (.refl s)

theorem judgeDegraded_follows (station score : Nat) : Follows s (s.judgeDegraded station score) :=
  .ite (.setFault s _ .none true) (.ite (.setFault s _ .none false) (.refl s))

theorem leakRecord_follows (r : PeerRecord) : Follows s (s.leakRecord r) :=
  .ite ((Follows.peer s _).trans (judgeDegraded_follows _ _ _)) (.refl s)

theorem leak_follows : Follows s s.leak := .ite (.foldl leakRecord_follows _ s) (.refl s)

/-- The blocks that count on node time after the proof has been judged. -/
def State.afterProof (s : State) : State := ((((s.intervalSecond).countDownWindows).react).leak).realarmReached

theorem blocksCount_eq (wasProven : Bool) : s.blocksCount wasProven = (s.proofAges wasProven).afterProof := rfl

theorem afterProof_follows : Follows s s.afterProof :=
  (intervalSecond_follows s).trans <| (countDownWindows_follows _).trans <| (react_follows _).trans <|
    (leak_follows _).trans (.ite (review_follows _) (.refl _))

theorem proofAges_follows (wasProven : Bool) : Follows s (s.proofAges wasProven) :=
  .ite ((Follows.log s _).trans (.mark _)) (.refl s)

end

/-! ### What follows leaves of the log and of the controller -/

/-- From `s` to `t` entries joined the ring, its oldest giving way to them. -/
def Appends (s t : State) : Prop := ∃ newer, LoggedBy newer s t

theorem Appends.trans {s t u : State} (h : Appends s t) (h' : Appends t u) : Appends s u := by
  obtain ⟨a, ha⟩ := h
  obtain ⟨b, hb⟩ := h'
  exact ⟨a ++ b, ha.trans hb⟩

theorem Appends.of_panel_eq {s t : State} (h : t.panel = s.panel) : Appends s t := ⟨[], .of_log_eq (by rw [h])⟩

theorem Logs.appends {n : Nat} {s t : State} (h : Logs n s t) : Appends s t := h.imp fun _ h => h.2

theorem setMismatch_logs (s : State) (own supervisor : Bool) : Logs 1 s (s.setMismatch own supervisor) := by
  refine Logs.trans (m := 0) (.of_log_eq ?_) (setFault_logs _ .limitMismatch .none (own || supervisor))
  unfold State.markIf
  split <;> rfl

theorem writeVerdict_logs (s : State) (reason : EndReason) : Logs 1 s (s.writeVerdict reason) :=
  Logs.trans (m := 0) (.of_log_eq rfl) (log_logs _ _)

theorem Course.appends {enters : CurtainState → Prop} {s t : State} (h : Course enters s t) : Appends s t := by
  induction h with
  | trans _ _ ih ih' => exact ih.trans ih'
  | log s e => exact (log_logs s e).appends
  | fault _ hlog _ => exact hlog.appends
  | mismatch s standing => exact (setMismatch_logs s _ _).appends
  | verdict s reason _ => exact (writeVerdict_logs s reason).appends
  | _ => exact .of_panel_eq rfl

/-- R96: a test of the triggers enters DESCENDING, or DOWN at once. -/
theorem testTriggers_falls (s : State) : Course (fun state => state = .descending ∨ state = .down) s s.testTriggers :=
  testTriggers_course s (.inl rfl) (.inr rfl)

/-- R124: a test that a trigger ends is ABORTED, and the descent writes no verdict. -/
theorem testTriggers_proof (s : State) :
    s.testTriggers.curtain.proof = s.curtain.proof ∨ s.testTriggers.curtain.proof.verdict ≠ .pass := by
  unfold State.testTriggers State.fall
  split
  · next cause _ =>
    split
    · have hdescent := descend_course (enters := fun state => state = .descending ∨ state = .down)
        (s.motionEnd .trigger) (.inl rfl) (fun _ _ _ => .inr rfl) cause (.cause cause)
      have hkept := (hdescent.proof (by simp) (by rw [motionEnd_motion]; exact nofun)).2
      rw [hkept, motionEnd_proof]
      split
      · exact .inr nofun
      · exact .inl rfl
    · exact .inl rfl
  · exact .inl rfl

namespace Follows

variable {s t : State}

theorem appends (h : Follows s t) : Appends s t := by
  induction h with
  | apart hpanel _ => exact .of_panel_eq hpanel
  | trans _ _ ih ih' => exact ih.trans ih'
  | log s e => exact (log_logs s e).appends
  | fault _ hlog => exact hlog.appends
  | triggers s => exact (testTriggers_falls s).appends

theorem commanded (h : Follows s t) : Commanded s.curtain t.curtain := by
  induction h with
  | apart _ hcurtain => rw [hcurtain]; exact .refl _
  | trans _ _ ih ih' => exact ih.trans ih'
  | log s e => exact .refl _
  | fault h _ => rw [h.curtain]; exact .refl _
  | triggers s => exact (testTriggers_falls s).commanded

/-- R109: no PASS is written. -/
theorem proof (h : Follows s t) : t.curtain.proof = s.curtain.proof ∨ t.curtain.proof.verdict ≠ .pass := by
  induction h with
  | apart _ hcurtain => exact .inl (by rw [hcurtain])
  | trans _ _ ih ih' =>
    rcases ih' with e | h
    · rw [e]; exact ih
    · exact .inr h
  | log s e => exact .inl rfl
  | fault h _ => exact .inl (by rw [h.curtain])
  | triggers s => exact testTriggers_proof s

end Follows

end Sys2Proof.Machine
end

section
/-!
HOLD AND RAISE MOTOR AT EVERY STEP (R93, R94). Each command commands the output set of the curtain state or leaves state
and outputs as they stood; in reset and at a start no set is commanded.
-/
namespace Sys2Proof.Machine

/-- From `s` to `t` HOLD and RAISE MOTOR stay at what the curtain state calls for. -/
def KeepsOutputs (s t : State) : Prop := s.curtain.outputsLegal → t.curtain.outputsLegal

section
variable {s t u : State}

namespace KeepsOutputs

theorem of_curtain_eq (h : t.curtain = s.curtain) : KeepsOutputs s t := fun hs => h ▸ hs

theorem refl (s : State) : KeepsOutputs s s := id

theorem trans (h : KeepsOutputs s t) (h' : KeepsOutputs t u) : KeepsOutputs s u := h' ∘ h

theorem ite {c : Prop} [Decidable c] (h : KeepsOutputs s t) (h' : KeepsOutputs s u) :
    KeepsOutputs s (if c then t else u) := by
  split <;> assumption

theorem ite_fst {c : Prop} [Decidable c] {x y : State × Answer} (h : KeepsOutputs s x.1) (h' : KeepsOutputs s y.1) :
    KeepsOutputs s (if c then x else y).1 := by
  split <;> assumption

end KeepsOutputs

theorem Move.keepsOutputs {ps : List Part} (h : Move ps s t) (hp : .curtain ∉ ps) : KeepsOutputs s t :=
  .of_curtain_eq (h.curtain hp)

theorem Within.keepsOutputs {ps : List Part} (h : Within ps s t) (hp : .curtain ∉ ps) : KeepsOutputs s t :=
  .of_curtain_eq (h .curtain hp)

theorem Course.keepsOutputs {enters : CurtainState → Prop} (h : Course enters s t) : KeepsOutputs s t :=
  h.commanded.outputsLegal

theorem Follows.keepsOutputs (h : Follows s t) : KeepsOutputs s t := h.commanded.outputsLegal

/-- No set commanded is none that the state does not call for. -/
theorem outputsLegal_of_none {c : Curtain} (h : c.output = none) : c.outputsLegal := by
  intro o ho
  rw [h] at ho
  exact nomatch ho

end

section
variable (s : State)

/-! ### The Curtain Controller -/

/-- A change of the controller beside its state and its outputs. -/
theorem withCurtain_keepsOutputs {c : Curtain} (hstate : c.state = s.curtain.state)
    (houtput : c.output = s.curtain.output) : KeepsOutputs s (s.withCurtain c) :=
  Commanded.outputsLegal (.inl ⟨hstate, houtput⟩)

theorem command_keepsOutputs : KeepsOutputs s s.command := (Course.command (enters := fun _ => True) s).keepsOutputs

theorem testTriggers_keepsOutputs : KeepsOutputs s s.testTriggers := (testTriggers_falls s).keepsOutputs

theorem judgeLimits_keepsOutputs : KeepsOutputs s s.judgeLimits := by
  refine Commanded.outputsLegal ?_
  rw [State.judgeLimits, setMismatch_causes]
  exact .inl ⟨rfl, rfl⟩

theorem offerDemand_keepsOutputs (source : Nat) (kind : DemandKind) (epoch : Byte) :
    KeepsOutputs s (s.offerDemand source kind epoch) := by
  have hseen : KeepsOutputs s (s.setSeenDemand source (some epoch)) := withCurtain_keepsOutputs s rfl rfl
  have hlast (t : State) : KeepsOutputs t (t.setLastEpoch epoch) :=
    KeepsOutputs.trans (t := t.withCurtain { t.curtain with lastEpoch := some epoch })
      (withCurtain_keepsOutputs t rfl rfl) (Follows.markIf _ _).keepsOutputs
  exact .ite (.refl s) (.ite
    (hseen.trans ((carryOut_course _ (fun _ => trivial) _ _ _).keepsOutputs.trans (hlast _)))
    (hseen.trans ((log_move (ps := []) _ _).keepsOutputs (by decide))))

theorem curtainAccept_keepsOutputs (station : Nat) (resync : Bool) :
    KeepsOutputs s (s.curtainAccept station resync) := by
  unfold State.curtainAccept
  split
  · split
    · exact withCurtain_keepsOutputs s rfl rfl
    · split
      · exact offerDemand_keepsOutputs s _ _ _
      · exact .refl s
    · exact .refl s
  · exact .refl s

theorem requestDemand_keepsOutputs (kind : Option DemandKind) : KeepsOutputs s (requestDemand s kind).1 := by
  unfold requestDemand
  split
  · exact .refl s
  · exact .refl s
  · next kind _ =>
    dsimp only
    refine KeepsOutputs.trans (t := (s.withCurtain { s.curtain with
        demandKind := some kind, demandEpoch := newerEpoch s.curtain.demandEpoch s.ownerEpoch + 1 }).mark)
      (withCurtain_keepsOutputs s rfl rfl) ?_
    exact .ite (offerDemand_keepsOutputs _ _ _ _) (.refl _)

theorem takeInputs_keepsOutputs (inputs : DriveInputs) : KeepsOutputs s (s.takeInputs inputs) :=
  withCurtain_keepsOutputs s rfl rfl

theorem followPosition_keepsOutputs : KeepsOutputs s s.followPosition :=
  KeepsOutputs.trans (t := s.withCurtain { s.curtain with
      reported := reportedAfter s.curtain.state s.curtain.reported s.curtain.position })
    (withCurtain_keepsOutputs s rfl rfl) (Follows.markIf _ _).keepsOutputs

theorem judgeView_keepsOutputs (before : LimitView) : KeepsOutputs s (s.judgeView before) := by
  have hall : ∀ state : CurtainState, (fun _ => True) state := fun _ => trivial
  unfold State.judgeView
  dsimp only
  have hbeam : KeepsOutputs s (if s.curtain.view.beamBroken && !before.beamBroken then s.beamBreaks else s) :=
    .ite (beamBreaks_course s hall).keepsOutputs (.refl s)
  generalize (if s.curtain.view.beamBroken && !before.beamBroken then s.beamBreaks else s) = t at hbeam ⊢
  have hbutton : KeepsOutputs s (if s.curtain.view.buttonPressed != before.buttonPressed then t.testTriggers else t) :=
    .ite (hbeam.trans (testTriggers_keepsOutputs t)) hbeam
  have hlimits := hbutton.trans (judgeLimits_keepsOutputs _)
  exact .ite (hlimits.trans (topCloses_course _ hall).keepsOutputs) hlimits

theorem slotSample_keepsOutputs (reading : Option Nat) (bottom : Bool) :
    KeepsOutputs s (s.slotSample reading bottom) :=
  (slotSample_course (enters := fun _ => True) s (fun _ => trivial) reading bottom).keepsOutputs

theorem deliver_keepsOutputs (inputs : DriveInputs) : KeepsOutputs s (s.deliver inputs) := by
  have hjudged := (takeInputs_keepsOutputs s inputs).trans <| (followPosition_keepsOutputs _).trans
    (judgeView_keepsOutputs _ s.curtain.view)
  exact .ite (hjudged.trans (slotSample_keepsOutputs _ _ _)) hjudged

theorem recover_keepsOutputs (inputs : DriveInputs) : KeepsOutputs s (s.recover inputs) := by
  unfold State.recover
  dsimp only
  have hlimits : KeepsOutputs s ((s.clearFault .driveLost).takeInputs inputs).judgeLimits :=
    ((clearFault_moved (ps := []) s _).keepsOutputs (by decide)).trans <|
      (takeInputs_keepsOutputs _ inputs).trans (judgeLimits_keepsOutputs _)
  generalize ((s.clearFault .driveLost).takeInputs inputs).judgeLimits = t at hlimits ⊢
  split
  · exact hlimits.trans (descend_course (enters := fun _ => True) t trivial (fun _ _ _ => trivial) _ _).keepsOutputs
  · exact hlimits.trans (enterState_course (enters := fun _ => True) t trivial _).keepsOutputs

theorem curtainDelivery_keepsOutputs (inputs : DriveInputs) : KeepsOutputs s (s.curtainDelivery inputs) := by
  unfold State.curtainDelivery
  split
  · exact .refl s
  · exact withCurtain_keepsOutputs s rfl rfl
  · exact recover_keepsOutputs s inputs
  · exact deliver_keepsOutputs s inputs

theorem driveLost_keepsOutputs : KeepsOutputs s s.driveLost := by
  have hraise (t : State) : KeepsOutputs t (t.raiseFault .driveLost .none) :=
    (raiseFault_moved (ps := []) t _ _).keepsOutputs (by decide)
  have hunknown (t : State) : KeepsOutputs t (t.withCurtain { t.curtain with position := none }) :=
    withCurtain_keepsOutputs t rfl rfl
  unfold State.driveLost
  split
  · exact .refl s
  · exact .refl s
  · exact hraise s
  · exact (motionEnd_course (enters := fun _ => True) s .driveLost).keepsOutputs.trans <|
      (hunknown _).trans <| (enterState_course (enters := fun _ => True) _ trivial _).keepsOutputs.trans (hraise _)

theorem driveOnline_keepsOutputs : KeepsOutputs s s.driveOnline := by
  have hnone : KeepsOutputs s (s.withCurtain { s.curtain with delivery := none }) := withCurtain_keepsOutputs s rfl rfl
  exact .ite (hnone.trans (command_keepsOutputs _)) hnone

/-! ### The Alarm Stage Unit and its readers -/

theorem inGeneration_move (g : Byte) (way : GenerationWay) (adopts : Bool) :
    Move [.detection, .alarm] s (s.inGeneration g way adopts) := by
  have hreleased : Move [.detection, .alarm] s (s.beginGeneration g way).releaseLatches.handAll :=
    ((beginGeneration_move s g way).mono (by decide)).trans <| ((releaseLatches_move _).mono (by decide)).trans
      ((handAll_move _).mono (by decide))
  unfold State.inGeneration
  generalize (s.beginGeneration g way).releaseLatches.handAll = t at hreleased ⊢
  exact hreleased.trans <| ((evaluateBy_move t fun u => stepEight_move u adopts).mono (by decide)).trans
    ((adoptEvacuate_move _ adopts).mono (by decide))

theorem takeGeneration_keepsOutputs (g : Byte) (way : GenerationWay) (adopts : Bool) :
    KeepsOutputs s (s.takeGeneration g way adopts) := by
  rw [takeGeneration_eq]
  exact ((inGeneration_move s g way adopts).keepsOutputs (by decide)).trans <| Follows.keepsOutputs <|
    (mergedNotice_follows _ _).trans <| (stageNotice_follows _ _ _).trans <|
    (silenceNotice_follows _ _).trans (react_follows _)

theorem alarmAccept_keepsOutputs (station : Nat) : KeepsOutputs s (s.alarmAccept station) := by
  unfold State.alarmAccept
  split
  · exact takeGeneration_keepsOutputs s _ _ _
  · exact (review_follows s).keepsOutputs

theorem endJoiningReview_keepsOutputs (adopts : Bool) : KeepsOutputs s (s.endJoiningReview adopts) :=
  ((withStation_move s (ps := [.station]) (by decide) _).keepsOutputs (by decide)).trans <| Follows.keepsOutputs <|
    Follows.trans (.ite (enterEvacuate_follows _ _) (.refl _)) <|
    (evaluateBy_follows _ evalStage_follows).trans <| (handNotices_follows _ _).trans (react_follows _)

theorem alarmJoined_keepsOutputs (source : Option PeerRecord) : KeepsOutputs s (s.alarmJoined source) := by
  have hview (t : State) : KeepsOutputs t t.endJoiningView :=
    ((withStation_move t (ps := [.station]) (by decide) _).keepsOutputs (by decide)).trans <| Follows.keepsOutputs <|
      (Follows.alarm _ _).trans (mergedNotice_follows _ _)
  unfold State.alarmJoined
  split
  · exact .ite (endJoiningReview_keepsOutputs s _) ((takeGeneration_keepsOutputs s _ _ _).trans (hview _))
  · exact endJoiningReview_keepsOutputs s _

theorem takeView_keepsOutputs (view : PhaseSection) (restart : Bool) : KeepsOutputs s (s.takeView view restart) := by
  have hview : KeepsOutputs s ((s.withPhase (s.phase.take view restart)).markIf
      (s.phase.section != (s.phase.take view restart).section)) := by
    exact ((Follows.phase s _).trans (.markIf _ _)).keepsOutputs
  have hlights (t : State) : KeepsOutputs t t.lightsPhase := (lightsPhase_move t).keepsOutputs (by decide)
  exact .ite (hview.trans <| (review_follows _).keepsOutputs.trans <| (hlights _).trans
    ((callsPhase_move _ _).keepsOutputs (by decide))) (.ite (hview.trans (hlights _)) hview)

theorem phaseAccept_keepsOutputs (station : Nat) : KeepsOutputs s (s.phaseAccept station) := by
  unfold State.phaseAccept
  split
  · exact .ite (takeView_keepsOutputs s _ _) (.refl s)
  · exact .refl s

theorem phaseJoined_keepsOutputs (source : Option PeerRecord) : KeepsOutputs s (s.phaseJoined source) := by
  unfold State.phaseJoined
  split
  · exact .ite (takeView_keepsOutputs s _ _) (.refl s)
  · exact .refl s

/-- A change of the Detection Unit alone and what it brings about. -/
theorem detected_keepsOutputs {t : State} (h : Move [.detection] s t) : KeepsOutputs s t.react :=
  (h.keepsOutputs (by decide)).trans (react_follows t).keepsOutputs

theorem detectionPeer_keepsOutputs (station : Nat) : KeepsOutputs s (s.detectionPeer station) :=
  (detected_keepsOutputs s ((alignCopies_move s station).trans (recomputeWindows_move _))).trans
    (detected_keepsOutputs _ (recomputeDisabled_move _))

/-! ### The requests -/

/-- A change of the own requests that is marked and reviewed. -/
theorem marked_review_keepsOutputs (f : Alarm → Alarm) : KeepsOutputs s ((s.setAlarm f).mark).review :=
  ((Follows.alarm s f).trans <| (Follows.mark _).trans (review_follows _)).keepsOutputs

theorem requestAck_keepsOutputs : KeepsOutputs s (requestAck s).1 :=
  .ite_fst (.refl s) <| .ite_fst (.refl s) <| .ite_fst (.refl s) (marked_review_keepsOutputs s _)

theorem requestSilence_keepsOutputs : KeepsOutputs s (requestSilence s).1 :=
  .ite_fst (.refl s) <| .ite_fst (.refl s) <| .ite_fst (.refl s) (marked_review_keepsOutputs s _)

theorem requestReset_keepsOutputs : KeepsOutputs s (requestReset s).1 := by
  unfold requestReset
  split
  · exact .refl s
  · split
    · exact .refl s
    · split
      · exact .refl s
      · dsimp only
        exact takeGeneration_keepsOutputs s _ .ownReset false

theorem setDisablements_keepsOutputs (zones : List Nat) (event : LogEvent) :
    KeepsOutputs s (s.setDisablements zones event) :=
  ((Follows.alarm s _).trans <| (Follows.log _ _).trans (Follows.mark _)).keepsOutputs.trans
    (detected_keepsOutputs _ (recomputeDisabled_move _))

theorem changeWindows_keepsOutputs (windows : List WindowEntry) : KeepsOutputs s (s.changeWindows windows) :=
  detected_keepsOutputs s ((withWindows_move s windows).trans ((mark_move _).trans (recomputeWindows_move _)))

theorem requestDisable_keepsOutputs (z : Nat) : KeepsOutputs s (requestDisable s z).1 :=
  .ite_fst (.refl s) <| .ite_fst (.refl s) <| .ite_fst (.refl s) <| .ite_fst (.refl s) <| .ite_fst (.refl s)
    (setDisablements_keepsOutputs s _ _)

theorem requestEnable_keepsOutputs (z : Nat) : KeepsOutputs s (requestEnable s z).1 :=
  .ite_fst (.refl s) <| .ite_fst (.refl s) <| .ite_fst (.refl s) (setDisablements_keepsOutputs s _ _)

theorem requestOpen_keepsOutputs (zones : List Nat) (duration : Nat) : KeepsOutputs s (requestOpen s zones duration).1 :=
  .ite_fst (.refl s) <| .ite_fst (.refl s) <| .ite_fst (.refl s) <| .ite_fst (changeWindows_keepsOutputs s _) (.refl s)

theorem requestClose_keepsOutputs (selection : WindowSelection) : KeepsOutputs s (requestClose s selection).1 := by
  refine .ite_fst (.refl s) ?_
  cases selection with
  | all => exact .ite (.refl s) (changeWindows_keepsOutputs s _)
  | zones zones => exact .ite_fst (.refl s) (.ite_fst (changeWindows_keepsOutputs s _) (.refl s))

theorem requestPhase_keepsOutputs (target : Option Phase) (minutes : Nat) :
    KeepsOutputs s (requestPhase s target minutes).1 := by
  refine .ite_fst (.refl s) ?_
  split
  · exact .refl s
  · refine .ite_fst (.refl s) (.ite_fst (.refl s) ?_)
    split
    · exact .refl s
    · exact takeView_keepsOutputs s _ _

theorem requestHold_keepsOutputs (hold : Bool) : KeepsOutputs s (requestHold s hold).1 :=
  .ite_fst (.refl s) <| .ite_fst (.refl s) <| .ite_fst (.refl s) (takeView_keepsOutputs s _ _)

/-! ### The Peer Table (R36 to R49) -/

theorem acceptNotices_keepsOutputs (station : Nat) (resync live : Bool) :
    KeepsOutputs s (s.acceptNotices station resync live) :=
  (phaseAccept_keepsOutputs s station).trans <| (alarmAccept_keepsOutputs _ station).trans <|
    (detectionPeer_keepsOutputs _ station).trans <| (curtainAccept_keepsOutputs _ station resync).trans <|
    ((lightsAccept_move _ station).keepsOutputs (by decide)).trans
      ((callsAccept_move _ station resync live).keepsOutputs (by decide))

theorem accept_keepsOutputs (r : PeerRecord) (report : Report) (missed : Nat) (resync : Bool) :
    KeepsOutputs s (s.accept r report missed resync) :=
  ((acceptRecord_move s r report missed).keepsOutputs (by decide)).trans (acceptNotices_keepsOutputs _ _ _ _)

theorem takeReport_keepsOutputs (note : Option (Byte × Byte)) (report : Report) :
    KeepsOutputs s (s.takeReport note report) := by
  have hsequence (r : PeerRecord) : KeepsOutputs s (s.judgeSequence r report) :=
    .ite ((Follows.peer s _).keepsOutputs) (.ite (accept_keepsOutputs s _ _ _ _) (.refl s))
  unfold State.takeReport
  refine .ite (.ite (.refl s) ((duplicateSeen_move s).keepsOutputs (by decide))) ?_
  split
  · exact .refl s
  · exact .ite (accept_keepsOutputs s _ _ _ _) (hsequence _)

theorem handReport_keepsOutputs (l : Line) (report : Report) : KeepsOutputs s (s.handReport l report) :=
  .ite (takeReport_keepsOutputs s _ _) (.refl s)

theorem classified_keepsOutputs (l : Line) (own : Bool) (verdict : FrameVerdict) :
    KeepsOutputs s (s.classified l own verdict) := by
  have hcrc : KeepsOutputs s (s.countCrc l) := .of_curtain_eq rfl
  have hpoisoned (n : Nat) : KeepsOutputs s ((s.credit l).handPoisoned n) :=
    (credit_handPoisoned_move s l n).keepsOutputs (by decide)
  cases verdict with
  | crcFailure => exact hcrc
  | formatFailure n => exact .ite (hpoisoned n) hcrc
  | poisoned n => exact .ite (.refl s) (hpoisoned n)
  | good report =>
    exact .ite (handReport_keepsOutputs s l report)
      (((goodLine_move s l).keepsOutputs (by decide)).trans (handReport_keepsOutputs _ l report))

theorem frameEnds_keepsOutputs (l : Line) (frame : List Byte) : KeepsOutputs s (s.frameEnds l frame) :=
  KeepsOutputs.trans (t := s.withLine l (s.line l).fallIdle) (.of_curtain_eq rfl) (classified_keepsOutputs _ _ _ _)

theorem silenceNotices_keepsOutputs (station : Nat) : KeepsOutputs s (s.silenceNotices station) :=
  (review_follows s).keepsOutputs.trans <| (detectionPeer_keepsOutputs _ station).trans
    ((lightsSilence_move _ station).keepsOutputs (by decide))

theorem joinedReaders_keepsOutputs (source : Option PeerRecord) : KeepsOutputs s (s.joinedReaders source) :=
  (alarmJoined_keepsOutputs s source).trans <| ((lightsPhase_move _).keepsOutputs (by decide)).trans <|
    (detected_keepsOutputs _ (detectionJoined_move _)).trans <|
    (detected_keepsOutputs _ (recomputeDisabled_move _)).trans
      (.ite ((raiseFault_moved (ps := []) _ _ _).keepsOutputs (by decide)) (.refl _))

theorem endJoining_keepsOutputs : KeepsOutputs s s.endJoining := by
  rw [endJoining_eq]
  have hflag (t : State) : KeepsOutputs t t.endFlag := .of_curtain_eq rfl
  exact (phaseJoined_keepsOutputs s _).trans <| (joinedReaders_keepsOutputs _ _).trans (hflag _)

theorem increment_keepsOutputs : KeepsOutputs s s.increment :=
  ((second_move s).keepsOutputs (by decide)).trans
    ((proofAges_follows s.second s.proven).trans (afterProof_follows _)).keepsOutputs

/-! ### The bays (R158 to R165) -/

theorem changeBay_keepsOutputs (b : Bay) (record : BayRecord) : KeepsOutputs s (s.changeBay b record) :=
  (changeBay_move s b record).keepsOutputs (by decide)

theorem userLoses_keepsOutputs (b : Bay) (type : Option ModuleType) : KeepsOutputs s (s.userLoses b type) := by
  cases type with
  | none => exact .refl s
  | some type =>
    cases type with
    | loop => exact detected_keepsOutputs s (loopLost_move s b)
    | drive => exact driveLost_keepsOutputs s
    | call => exact (callLost_move s b).keepsOutputs (by decide)
    | dimmer => exact .refl s

theorem leave_keepsOutputs (b : Bay) (record : BayRecord) (cause : Option LostCause) {logged : State → State}
    (h : ∀ t, KeepsOutputs t (logged t)) : KeepsOutputs s (s.leave b record cause logged) := by
  have hchanged : KeepsOutputs s (logged (s.changeBay b record)) := (changeBay_keepsOutputs s b record).trans (h _)
  have hnotice (t : State) : KeepsOutputs t (t.lostNotice b cause (s.bay b).sensed) :=
    (Follows.bay t b _).keepsOutputs.trans (userLoses_keepsOutputs _ b _)
  exact .ite (hchanged.trans (hnotice _)) hchanged

theorem failBay_keepsOutputs (b : Bay) (reason : FailureReason) : KeepsOutputs s (s.failBay b reason) :=
  leave_keepsOutputs s b _ _ .refl

theorem takePresence_keepsOutputs (b : Bay) (presence : Presence) : KeepsOutputs s (s.takePresence b presence) := by
  have hremove : KeepsOutputs s (s.removeModule b) := leave_keepsOutputs s b _ _ fun t => (Follows.log t _).keepsOutputs
  have hrecord (record : BayRecord) : KeepsOutputs s (s.withBay b record) := .of_curtain_eq rfl
  unfold State.takePresence
  split
  · exact .refl s
  · exact changeBay_keepsOutputs s b _
  · exact changeBay_keepsOutputs s b _
  · exact changeBay_keepsOutputs s b _
  · exact hremove
  · exact changeBay_keepsOutputs s b _
  · exact hrecord _
  · exact hrecord _
  · exact hrecord _

theorem debounced_keepsOutputs (b : Bay) (sense : ModuleType) : KeepsOutputs s (s.debounced b sense) := by
  unfold State.debounced
  split
  · exact (typeRead_move s b sense).keepsOutputs (by decide)
  · exact changeBay_keepsOutputs s b _
  · exact leave_keepsOutputs s b _ _ .refl
  · exact leave_keepsOutputs s b _ _ .refl
  · exact .of_curtain_eq rfl

theorem onlineNotice_keepsOutputs (b : Bay) (type : ModuleType) : KeepsOutputs s (s.onlineNotice b type) := by
  cases type with
  | drive => exact driveOnline_keepsOutputs s
  | call => exact (callCameOnline_move s b).keepsOutputs (by decide)
  | loop => exact .refl s
  | dimmer => exact .refl s

theorem unanswered_keepsOutputs (b : Bay) : KeepsOutputs s (s.unanswered b) := by
  unfold State.unanswered
  dsimp only
  have hlost : KeepsOutputs s (s.lostExchange b) := (lostExchange_move s b).keepsOutputs (by decide)
  generalize s.lostExchange b = r at hlost ⊢
  have hsample : KeepsOutputs s (if (s.bay b).sensed = some .drive then r.missingSample else r) :=
    .ite (hlost.trans (slotSample_keepsOutputs r _ _)) hlost
  generalize (if (s.bay b).sensed = some .drive then r.missingSample else r) = t at hsample ⊢
  have hmissed (record : BayRecord) : KeepsOutputs s (t.withBay b record) := hsample
  exact .ite ((hmissed _).trans (failBay_keepsOutputs _ b _)) (hmissed _)

end

end Sys2Proof.Machine
end

section
/-!
THE OUTPUTS AT EVERY COMMAND (O6). A command keeps away from the curtain, or keeps HOLD and RAISE MOTOR to its state; reset
and a start leave no set commanded.
-/
namespace Sys2Proof.Machine

section
variable {s t : State}

/-! ### The shapes of a command -/

theorem keepsOutputs_of_next {u : State} (h : KeepsOutputs s u) (ht : (Host.Outcome.next u : Result) = .next t) :
    KeepsOutputs s t := Host.Outcome.next.inj ht ▸ h

theorem settleAt_keepsOutputs (u : State) (idle : Option Line) : KeepsOutputs u (u.settleAt idle) :=
  (settleAt_within u idle).keepsOutputs (by decide)

theorem whenRunning_keepsOutputs {effect : State → State} (h : KeepsOutputs s (effect s))
    (ht : whenRunning s effect = .next t) : KeepsOutputs s t := by
  rcases whenRunning_cases s effect with ⟨-, e⟩ | ⟨-, e⟩ <;> rw [e] at ht
  · exact keepsOutputs_of_next (h.trans (settleAt_keepsOutputs _ none)) ht
  · exact keepsOutputs_of_next (.refl s) ht

theorem whenDue_keepsOutputs {due : Bool} (ht : whenDue s due = .next t) : KeepsOutputs s t := by
  refine whenRunning_keepsOutputs ?_ ht
  exact .ite (increment_keepsOutputs s) (.refl s)

theorem operatorRequest_keepsOutputs {owner : State → State × Answer} (h : KeepsOutputs s (owner s).1)
    (ht : operatorRequest s owner = .next t) : KeepsOutputs s t := by
  have hend (u : State) (body : AnswerBody) : KeepsOutputs u (u.judged body none).concluded :=
    (judged_concluded_within u body none).keepsOutputs (by decide)
  unfold operatorRequest at ht
  split at ht
  · exact keepsOutputs_of_next (h.trans (hend _ _)) ht
  · exact keepsOutputs_of_next (hend s _) ht

theorem advanceTo_keepsOutputs (u : State) (time : Nat) : KeepsOutputs u (u.advanceTo time) :=
  (advanceTo_moved u time).keepsOutputs (by decide)

/-! ### The events -/

theorem frameReceived_keepsOutputs {l : Line} {frame : List Byte} (ht : execFrameReceived l frame s = .next t) :
    KeepsOutputs s t := by
  rcases execFrameReceived_cases s l frame with ⟨-, e⟩ | ⟨-, e⟩ <;> rw [e] at ht
  · exact keepsOutputs_of_next ((frameEnds_keepsOutputs s l frame).trans (settleAt_keepsOutputs _ _)) ht
  · exact keepsOutputs_of_next (.refl s) ht

theorem peerSilent_keepsOutputs {n : Nat} (ht : execPeerSilent n s = .next t) : KeepsOutputs s t := by
  refine whenRunning_keepsOutputs ?_ ht
  split
  · exact .ite ((advanceTo_keepsOutputs s _).trans <| ((silenceRecord_move _ _).keepsOutputs (by decide)).trans
      (silenceNotices_keepsOutputs _ _)) (.refl s)
  · exact .refl s

theorem endOfJoining_keepsOutputs (ht : execEndOfJoining s = .next t) : KeepsOutputs s t := by
  refine whenRunning_keepsOutputs ?_ ht
  exact .ite ((advanceTo_keepsOutputs s _).trans (endJoining_keepsOutputs _)) (.refl s)

theorem nodeTimeIncrement_keepsOutputs (ht : execNodeTimeIncrement s = .next t) : KeepsOutputs s t := by
  unfold execNodeTimeIncrement at ht
  split at ht
  · exact keepsOutputs_of_next ((increment_keepsOutputs s).trans (settleAt_keepsOutputs _ none)) ht
  · split at ht
    · exact keepsOutputs_of_next ((second_move s).keepsOutputs (by decide)) ht
    · exact keepsOutputs_of_next (.refl s) ht

/-- R79, R80: a timer of the Alarm Stage Unit stops and expires in its stage. -/
theorem alarmTimer_keepsOutputs (s : State) (time : Nat) (f : Alarm → Alarm) (stage : Stage) (cause : StageCause) :
    KeepsOutputs s (((s.advanceTo time).setAlarm f).reevaluateBy (expiryStage stage cause)).react :=
  (advanceTo_keepsOutputs s time).trans <| Follows.keepsOutputs <|
    (Follows.alarm _ f).trans <| (reevaluateBy_follows _ fun u => expiryStage_follows u stage cause).trans (react_follows _)

theorem ackWindow_keepsOutputs (ht : execAckWindowExpiry s = .next t) : KeepsOutputs s t := by
  refine whenRunning_keepsOutputs ?_ ht
  split
  · exact alarmTimer_keepsOutputs s _ _ _ _
  · exact .refl s

theorem investigation_keepsOutputs (ht : execInvestigationTimeout s = .next t) : KeepsOutputs s t := by
  refine whenRunning_keepsOutputs ?_ ht
  split
  · exact alarmTimer_keepsOutputs s _ _ _ _
  · exact .refl s

theorem raiseTimeout_keepsOutputs (ht : execRaiseTimeout s = .next t) : KeepsOutputs s t := by
  refine whenRunning_keepsOutputs ?_ ht
  split
  · exact .ite ((advanceTo_keepsOutputs s _).trans <|
      (enterState_course (enters := fun _ => True) _ trivial _).keepsOutputs.trans <|
      ((raiseFault_moved (ps := []) _ _ _).keepsOutputs (by decide)).trans (testTriggers_keepsOutputs _)) (.refl s)
  · exact .refl s

theorem driveDelivery_keepsOutputs {b : Bay} {inputs : DriveInputs} (ht : execDriveDelivery b inputs s = .next t) :
    KeepsOutputs s t := by
  refine whenRunning_keepsOutputs ?_ ht
  exact .ite (((answered_move s (ps := [.bays]) (by decide) b).keepsOutputs (by decide)).trans
    (curtainDelivery_keepsOutputs _ inputs)) (.refl s)

theorem loopSample_keepsOutputs {b : Bay} {readings : Vector Byte 32} (ht : execLoopSample b readings s = .next t) :
    KeepsOutputs s t := by
  refine whenRunning_keepsOutputs ?_ ht
  exact .ite (((answered_move s (ps := [.bays]) (by decide) b).keepsOutputs (by decide)).trans
    (detected_keepsOutputs _ (sampleBay_move _ b readings))) (.refl s)

theorem presenceChange_keepsOutputs {b : Bay} {presence : Presence} (ht : execPresenceChange b presence s = .next t) :
    KeepsOutputs s t := by
  refine whenRunning_keepsOutputs ?_ ht
  exact .ite (.refl s) (takePresence_keepsOutputs s b presence)

theorem debounce_keepsOutputs {b : Bay} {sense : ModuleType} (ht : execDebounceExpiry b sense s = .next t) :
    KeepsOutputs s t := by
  refine whenRunning_keepsOutputs ?_ ht
  split
  · exact (advanceTo_keepsOutputs s _).trans (debounced_keepsOutputs _ b sense)
  · exact .refl s

theorem readyAnswer_keepsOutputs {b : Bay} {type : ModuleType} (ht : execReadyAnswer b type s = .next t) :
    KeepsOutputs s t := by
  refine whenRunning_keepsOutputs ?_ ht
  exact .ite (.refl s) (.ite ((changeBay_keepsOutputs s b _).trans <| (Follows.log _ _).keepsOutputs.trans <|
    (onlineNotice_keepsOutputs _ b type).trans ((beginExchange_move _ b type).keepsOutputs (by decide)))
    (failBay_keepsOutputs s b _))

theorem readyTimer_keepsOutputs {b : Bay} (ht : execReadyTimerExpiry b s = .next t) : KeepsOutputs s t := by
  refine whenRunning_keepsOutputs ?_ ht
  split
  · exact (advanceTo_keepsOutputs s _).trans (failBay_keepsOutputs _ b _)
  · exact .refl s

theorem overcurrent_keepsOutputs {b : Bay} {supply : Supply} (ht : execOvercurrent b supply s = .next t) :
    KeepsOutputs s t := by
  refine whenRunning_keepsOutputs ?_ ht
  split
  · exact failBay_keepsOutputs s b _
  · exact failBay_keepsOutputs s b _
  · exact .refl s

theorem exchangeNoAnswer_keepsOutputs {b : Bay} (ht : execExchangeNoAnswer b s = .next t) : KeepsOutputs s t :=
  whenRunning_keepsOutputs (.ite (unanswered_keepsOutputs s b) (.refl s)) ht

/-- R182: no set is commanded in reset. -/
theorem halt_keepsOutputs (s : State) (power : Power) : KeepsOutputs s (s.halt power) := fun _ => outputsLegal_of_none rfl

/-- Each command but those that begin a start keeps HOLD and RAISE MOTOR to the curtain state. -/
theorem exec_keepsOutputs {c : Instr} (hstart : beginsStart c = false) (ht : exec c s = .next t) : KeepsOutputs s t := by
  by_cases hpart : .curtain ∉ composing ++ touches c
  · exact (exec_within c hstart s t ht).keepsOutputs hpart
  cases c with
  | frameReceived l frame => exact frameReceived_keepsOutputs ht
  | peerSilent n => exact peerSilent_keepsOutputs ht
  | endOfJoining => exact endOfJoining_keepsOutputs ht
  | nodeTimeIncrement => exact nodeTimeIncrement_keepsOutputs ht
  | intervalMark mark => exact whenDue_keepsOutputs ht
  | intervalTimerExpiry => exact whenDue_keepsOutputs ht
  | effectsWindowExpiry z => exact whenDue_keepsOutputs ht
  | windowCopyExpiry desk z => exact whenDue_keepsOutputs ht
  | realarmWindowEnd => exact whenDue_keepsOutputs ht
  | proofExpired => exact whenDue_keepsOutputs ht
  | ackWindowExpiry => exact ackWindow_keepsOutputs ht
  | investigationTimeout => exact investigation_keepsOutputs ht
  | raiseTimeout => exact raiseTimeout_keepsOutputs ht
  | driveDelivery b inputs => exact driveDelivery_keepsOutputs ht
  | loopSample b readings => exact loopSample_keepsOutputs ht
  | presenceChange b presence => exact presenceChange_keepsOutputs ht
  | debounceExpiry b sense => exact debounce_keepsOutputs ht
  | readyAnswer b type => exact readyAnswer_keepsOutputs ht
  | readyTimerExpiry b => exact readyTimer_keepsOutputs ht
  | overcurrent b supply => exact overcurrent_keepsOutputs (supply := supply) ht
  | exchangeNoAnswer b => exact exchangeNoAnswer_keepsOutputs ht
  | setPhase target minutes =>
    exact operatorRequest_keepsOutputs (owner := (requestPhase · target _)) (requestPhase_keepsOutputs s target _) ht
  | holdOn => exact operatorRequest_keepsOutputs (owner := (requestHold · true)) (requestHold_keepsOutputs s true) ht
  | holdOff => exact operatorRequest_keepsOutputs (owner := (requestHold · false)) (requestHold_keepsOutputs s false) ht
  | ack => exact operatorRequest_keepsOutputs (requestAck_keepsOutputs s) ht
  | silence => exact operatorRequest_keepsOutputs (requestSilence_keepsOutputs s) ht
  | reset => exact operatorRequest_keepsOutputs (requestReset_keepsOutputs s) ht
  | disable z => exact operatorRequest_keepsOutputs (owner := (requestDisable · z)) (requestDisable_keepsOutputs s z) ht
  | enable z => exact operatorRequest_keepsOutputs (owner := (requestEnable · z)) (requestEnable_keepsOutputs s z) ht
  | effectsOpen zones duration =>
    exact operatorRequest_keepsOutputs (owner := (requestOpen · zones duration)) (requestOpen_keepsOutputs s zones duration) ht
  | effectsClose selection =>
    exact operatorRequest_keepsOutputs (owner := (requestClose · selection)) (requestClose_keepsOutputs s selection) ht
  | curtainRaise =>
    exact operatorRequest_keepsOutputs (owner := (requestDemand · (some .raise))) (requestDemand_keepsOutputs s _) ht
  | curtainLower =>
    exact operatorRequest_keepsOutputs (owner := (requestDemand · (some .lower))) (requestDemand_keepsOutputs s _) ht
  | curtainStop =>
    exact operatorRequest_keepsOutputs (owner := (requestDemand · (some .stop))) (requestDemand_keepsOutputs s _) ht
  | curtainTest =>
    exact operatorRequest_keepsOutputs (owner := (requestDemand · (some .test))) (requestDemand_keepsOutputs s _) ht
  | curtainDrop =>
    exact operatorRequest_keepsOutputs (owner := (requestDemand · (some .drop))) (requestDemand_keepsOutputs s _) ht
  | curtainUnknown =>
    exact operatorRequest_keepsOutputs (owner := (requestDemand · none)) (requestDemand_keepsOutputs s none) ht
  | resetAsserted => exact keepsOutputs_of_next (halt_keepsOutputs s _) ht
  | supplyFall intact => exact keepsOutputs_of_next (halt_keepsOutputs s _) ht
  | _ => exact absurd (by simp [touches]) hpart

/-! ### Starts (R111, R182, R185) -/

/-- R111: the records of a start hold no set commanded. -/
theorem setRecords_keepsOutputs (u : State) (kind : StartKind) (memory : ConfigMemory) :
    KeepsOutputs u (u.setRecords kind memory) := by
  cases kind <;> exact fun _ => outputsLegal_of_none rfl

theorem takeValues_keepsOutputs (u : State) (presence : PerBay Presence) :
    KeepsOutputs u (((u.startView).startStandingCalls).readPresence presence) := by
  have hview : KeepsOutputs u u.startView := .of_curtain_eq rfl
  have hcalls (v : State) : KeepsOutputs v v.startStandingCalls :=
    .ite ((staffBecomesDue_move v).keepsOutputs (by decide)) (.refl v)
  have hbays (bs : List Bay) (v : State) :
      KeepsOutputs v (bs.foldl (fun x b => x.takePresence b (presence.get b)) v) := by
    induction bs generalizing v with
    | nil => exact .refl v
    | cons b bs ih => exact (takePresence_keepsOutputs v b _).trans (ih _)
  exact hview.trans ((hcalls _).trans (hbays _ _))

theorem makeStep_keepsOutputs (p : StartProgress) (u : State) (step : StartStep) :
    KeepsOutputs u (State.makeStep p u step) := by
  change KeepsOutputs u (u.stepEffect p step)
  cases step with
  | recordsSet => exact setRecords_keepsOutputs u p.kind p.memory
  | valuesTaken => exact takeValues_keepsOutputs u p.presence
  | kindDecided => exact .refl u
  | imageValidated => exact .refl u
  | countFixed => exact .of_curtain_eq rfl
  | startLogged => exact .of_curtain_eq rfl

theorem makeSteps_keepsOutputs (p : StartProgress) (steps : List StartStep) (u : State) :
    KeepsOutputs u (u.makeSteps p steps) := by
  induction steps generalizing u with
  | nil => exact .refl u
  | cons step rest ih => exact (makeStep_keepsOutputs p u step).trans (ih _)

theorem completeStart_keepsOutputs (u : State) : KeepsOutputs u u.completeStart :=
  (completeStart_within u).keepsOutputs (by decide)

theorem finishStart_keepsOutputs (u : State) : KeepsOutputs u u.finishStart := by
  unfold State.finishStart
  split
  · exact (makeSteps_keepsOutputs _ _ u).trans (completeStart_keepsOutputs _)
  · exact .refl u

theorem start_keepsOutputs (u : State) (kind : StartKind) (memory : ConfigMemory) (presence : PerBay Presence)
    (reached : Option StartStep) : KeepsOutputs u (u.start kind memory presence reached) := by
  have hbegin : KeepsOutputs u (u.beginStart kind memory presence) := halt_keepsOutputs u _
  cases reached with
  | none => exact (hbegin.trans (makeSteps_keepsOutputs _ _ _)).trans (completeStart_keepsOutputs _)
  | some step => exact hbegin.trans (makeSteps_keepsOutputs _ _ _)

/-- The beginnings of a start: with RESET asserted or supply away no start runs. -/
theorem beginsStart_keepsOutputs {c : Instr} (h : beginsStart c = true) (ht : exec c s = .next t) :
    KeepsOutputs s t := by
  have hpower (power : Power) : KeepsOutputs s (s.withPower power) := .of_curtain_eq rfl
  have hstarted (power : Power) (kind : StartKind) (memory : ConfigMemory) (course : StartCourse) :
      KeepsOutputs s ((s.withPower power).start kind memory course.presence course.reached) :=
    (hpower power).trans (start_keepsOutputs _ _ _ _ _)
  cases c with
  | powerOn good memory course =>
    simp only [exec, execPowerOn] at ht
    split at ht
    · exact keepsOutputs_of_next (hpower _) ht
    · exact keepsOutputs_of_next (hstarted _ _ _ course) ht
  | supplyDip retain memory course =>
    simp only [exec, execSupplyDip] at ht
    split at ht
    · exact keepsOutputs_of_next (hpower _) ht
    · exact keepsOutputs_of_next (hstarted _ _ _ course) ht
  | resetReleased retain memory course =>
    simp only [exec, execResetReleased] at ht
    split at ht
    · exact keepsOutputs_of_next (hstarted _ _ _ course) ht
    · exact keepsOutputs_of_next (hpower _) ht
  | _ => exact Bool.noConfusion h

end

/-- Settles O6: a step is a command, or an idle millisecond in which a start in progress may complete. -/
theorem everyStepKeepsHoldAndMotorByState : Obligations.EveryStepKeepsHoldAndMotorByState := by
  intro s t hs hstep
  unfold step at hstep
  split at hstep
  · exact keepsOutputs_of_next ((advanceTo_keepsOutputs s _).trans (finishStart_keepsOutputs _)) hstep hs
  · next c rest _ =>
    cases hstart : beginsStart c with
    | true => exact beginsStart_keepsOutputs (s := s.withPending rest) hstart hstep hs
    | false => exact exec_keepsOutputs (s := s.withPending rest) hstart hstep hs

end Sys2Proof.Machine
end

section
/-!
CURTAIN REQUESTS (R99). How a CURTAIN request is judged, and the demand that an accepted one places.
-/
namespace Sys2Proof.Machine

section
variable {s : State}

/-! ### The answer -/

/-- A move of the drive, written out. -/
theorem Move.drive_frame {t : State} (h : Move drive s t) :
    t = (((s.withCurtain t.curtain).withDescent t.descent).withPanel t.panel).withComposer t.composer := by
  have hpending := h.pending (by decide)
  have hclock := h.clock (by decide)
  have hpower := h.power (by decide)
  have hstation := h.station (by decide)
  have hlines := h.lines (by decide)
  have hpeers := h.peers (by decide)
  have hphase := h.phase (by decide)
  have hdetection := h.detection (by decide)
  have halarm := h.alarm (by decide)
  have hlights := h.lights (by decide)
  have hcalls := h.calls (by decide)
  have hbays := h.bays (by decide)
  have hdraws := h.draws (by decide)
  cases t
  simp_all only [State.withCurtain, State.withDescent, State.withPanel, State.withComposer]

/-- The CURTAIN requests of R99 with the kinds that they name. -/
abbrev demandRequests : List (Instr × Option DemandKind) :=
  [(.curtainRaise, some .raise), (.curtainLower, some .lower), (.curtainStop, some .stop), (.curtainTest, some .test),
    (.curtainDrop, some .drop), (.curtainUnknown, none)]

theorem exec_demandRequest {c : Instr} {kind : Option DemandKind} (h : (c, kind) ∈ demandRequests) (s : State) :
    idleLine c = none ∧ exec c s = operatorRequest s (requestDemand · kind) := by
  simp only [demandRequests, List.mem_cons, List.not_mem_nil, or_false, Prod.mk.injEq] at h
  rcases h with ⟨rfl, rfl⟩ | ⟨rfl, rfl⟩ | ⟨rfl, rfl⟩ | ⟨rfl, rfl⟩ | ⟨rfl, rfl⟩ | ⟨rfl, rfl⟩ <;> exact ⟨rfl, rfl⟩

theorem answers_demand (hs : s.attends) {c : Instr} {kind : Option DemandKind} (h : (c, kind) ∈ demandRequests)
    {t : State} {answer : Answer} (hjudged : requestDemand s kind = (t, answer)) : answers c s t answer := by
  obtain ⟨hidle, hexec⟩ := exec_demandRequest h s
  have hanswers := answers_of_owner (requestDemand · kind) hs hexec hidle
    ((requestDemand_move s kind).power (by decide))
  simpa only [hjudged] using hanswers

theorem requestDemand_noAuthority (h : s.roles.desk = false ∨ s.authorities.curtain = false) (kind : Option DemandKind) :
    requestDemand s kind = (s, { code := .noAuthority }) := by
  have hno : (s.roles.desk && s.authorities.curtain) = false := by rcases h with h | h <;> simp [h]
  simp [requestDemand, hno]

/-! ### The demand (R99) -/

/-- The station with a demand placed in its report. -/
def State.placedDemand (s : State) (kind : DemandKind) : State :=
  (s.withCurtain { s.curtain with
    demandKind := some kind, demandEpoch := newerEpoch s.curtain.demandEpoch s.ownerEpoch + 1 }).mark

/-- A curtain station reads the demand that it places at once. -/
def State.demanded (s : State) (kind : DemandKind) : State :=
  if s.roles.curtain then
    (s.placedDemand kind).offerDemand s.own kind (newerEpoch s.curtain.demandEpoch s.ownerEpoch + 1)
  else s.placedDemand kind

theorem requestDemand_accepted (hdesk : s.roles.desk = true) (hcurtain : s.authorities.curtain = true)
    (kind : DemandKind) : requestDemand s (some kind) = (s.demanded kind, { code := .accepted }) := by
  simp only [requestDemand, hdesk, hcurtain, Bool.and_self]
  rfl

theorem requestDemand_badRequest (hdesk : s.roles.desk = true) (hcurtain : s.authorities.curtain = true) :
    requestDemand s none = (s, { code := .badRequest }) := by
  simp [requestDemand, hdesk, hcurtain]

theorem newerEpoch_owner {held owner : Byte} (h : newer owner held = true) : newerEpoch held owner = owner := if_pos h

theorem newerEpoch_held {held owner : Byte} (h : newer held owner = true ∨ owner = held) :
    newerEpoch held owner = held := by
  unfold newerEpoch
  rcases h with h | rfl
  · simp [h, newer_asymm h]
  · simp

/-- R99, R100: what a demand brings about keeps the demand of the own report. -/
theorem offerDemand_inputs (s : State) (source : Nat) (kind : DemandKind) (epoch : Byte) :
    InputsKept s.curtain (s.offerDemand source kind epoch).curtain := by
  have hseen : InputsKept s.curtain (s.setSeenDemand source (some epoch)).curtain := ⟨rfl, rfl, rfl, rfl, rfl, rfl⟩
  have hlast (t : State) : InputsKept t.curtain (t.setLastEpoch epoch).curtain := by
    unfold State.setLastEpoch
    rw [(markIf_move (ps := []) _ _).curtain (by decide)]
    exact ⟨rfl, rfl, rfl, rfl, rfl, rfl⟩
  unfold State.offerDemand
  split
  · exact .refl _
  · dsimp only
    split
    · have hcarried := (carryOut_course (enters := fun _ => True) (s.setSeenDemand source (some epoch))
        (fun _ => trivial) source kind epoch).inputs
      exact hseen.trans (hcarried.trans (hlast _))
    · exact hseen

theorem demanded_inputs (s : State) (kind : DemandKind) :
    InputsKept (s.placedDemand kind).curtain (s.demanded kind).curtain := by
  unfold State.demanded
  split
  · exact offerDemand_inputs _ _ _ _
  · exact .refl _

theorem demanded_move (s : State) (kind : DemandKind) : Move drive (s.placedDemand kind) (s.demanded kind) :=
  .ite (offerDemand_move _ _ _ _) (.refl _ _)

theorem placedDemand_move (s : State) (kind : DemandKind) : Move drive s (s.placedDemand kind) :=
  (withCurtain_move s (by decide) _).trans (mark_move _)

/-- R26, R99: a change is pending once a demand is placed. -/
theorem demanded_composer (s : State) (kind : DemandKind) :
    (s.demanded kind).composer = { s.composer with changePending := true } := by
  rcases (demanded_move s kind).composer with h | h <;> rw [h] <;> rfl

/-- Settles O40: the request is judged as R99 orders, and the demand is placed before the curtain station reads it. -/
theorem curtainRequestPlacesTheDemand : Obligations.CurtainRequestPlacesTheDemand := by
  intro c kind s hs hc
  have hnamed : (c, some kind) ∈ demandRequests := by
    simp only [List.mem_cons, Prod.mk.injEq, List.not_mem_nil, or_false] at hc ⊢
    simpa using hc
  have hunknown : (Instr.curtainUnknown, none) ∈ demandRequests := by decide
  refine ⟨fun h => ⟨answers_demand hs hnamed (requestDemand_noAuthority h _),
    answers_demand hs hunknown (requestDemand_noAuthority h _)⟩, fun hdesk hcurtain =>
    ⟨answers_demand hs hunknown (requestDemand_badRequest hdesk hcurtain), s.demanded kind,
      answers_demand hs hnamed (requestDemand_accepted hdesk hcurtain kind), ?_⟩⟩
  have hkept := demanded_inputs s kind
  have hepoch : (s.demanded kind).curtain.demandEpoch = newerEpoch s.curtain.demandEpoch s.ownerEpoch + 1 :=
    hkept.demandEpoch
  refine ⟨hkept.demandKind, fun h => ?_, fun h => ?_, ((placedDemand_move s kind).trans (demanded_move s kind)).drive_frame,
    demanded_composer s kind, fun hrole => ?_⟩
  · rw [hepoch, newerEpoch_owner h]
  · rw [hepoch, newerEpoch_held h]
  · rw [hepoch]
    exact if_neg (by simp [hrole])

end

end Sys2Proof.Machine
end

section
/-!
THE CURTAIN WITH AND WITHOUT A TRIGGER (R94, R96, R97, R103). What a change of state, a stop and the start of a motion
come to while no trigger stands, what a descent comes to, and the table of R101 (O41).
-/
namespace Sys2Proof.Machine

section
variable (s : State)

/-! ### A change of state (R94, R97) -/

theorem enterState_curtain (state : CurtainState) (detail : CurtainDetail) : (s.enterState state detail).curtain =
    { s.curtain.enter state s.clock.now with output := outputSet state s.descent } := by
  unfold State.enterState
  dsimp only
  split
  · exact (clearFault_move _ .raiseTimeout).curtain
  · rfl

theorem enterState_descent (state : CurtainState) (detail : CurtainDetail) :
    (s.enterState state detail).descent = s.descent := by
  unfold State.enterState
  dsimp only
  split
  · exact (clearFault_move _ .raiseTimeout).descent
  · rfl

theorem enterState_standingTrigger (state : CurtainState) (detail : CurtainDetail) :
    (s.enterState state detail).standingTrigger = s.standingTrigger := by
  have hmove := enterState_move s state detail
  refine standingTrigger_congr (hmove.alarm (by decide)) ?_ (by rw [enterState_curtain]; rfl)
  rw [hmove.station (by decide)]

end

section
variable {s : State}

theorem Course.standingTrigger {enters : CurtainState → Prop} {t : State} (h : Course enters s t) :
    t.standingTrigger = s.standingTrigger :=
  standingTrigger_congr (h.move.alarm (by decide)) (by rw [h.move.station (by decide)]) (by rw [h.inputs.view])

theorem Move.standingTrigger {ps : List Part} {t : State} (h : Move ps s t) (halarm : .alarm ∉ ps)
    (hstation : .station ∉ ps) (hcurtain : .curtain ∉ ps) : t.standingTrigger = s.standingTrigger :=
  standingTrigger_congr (h.alarm halarm) (by rw [h.station hstation]) (by rw [h.curtain hcurtain])

theorem testTriggers_of_quiet (h : s.standingTrigger = none) : s.testTriggers = s := by
  unfold State.testTriggers
  rw [h]

theorem testTriggers_of_not_yields (h : s.curtain.state.yields = false) : s.testTriggers = s := by
  unfold State.testTriggers
  split
  · exact if_neg (by simp [h])
  · rfl

/-! ### No trigger stands -/

theorem goTo_of_quiet (h : s.standingTrigger = none) (state : CurtainState) (detail : CurtainDetail) :
    s.goTo state detail = s.enterState state detail :=
  testTriggers_of_quiet ((enterState_standingTrigger s state detail).trans h)

/-- R94, R97: the curtain is held. -/
structure State.Held (s : State) (state : CurtainState) : Prop where
  state : s.curtain.state = state
  raiseTimer : s.curtain.raiseTimer = none
  output : s.curtain.output = some ⟨true, some .normal, false⟩

theorem enterState_held (state : CurtainState) (hstate : state = .stopped ∨ state = .up) (detail : CurtainDetail) :
    (s.enterState state detail).Held state := by
  rcases hstate with rfl | rfl <;> constructor <;> rw [enterState_curtain] <;> rfl

theorem stopMotion_of_quiet (h : s.standingTrigger = none) (reason : EndReason) :
    s.stopMotion reason = (s.motionEnd reason).enterState .stopped (.reason reason) :=
  goTo_of_quiet ((motionEnd_course (enters := fun _ => False) s reason).standingTrigger.trans h) _ _

theorem stopMotion_held (h : s.standingTrigger = none) (reason : EndReason) : (s.stopMotion reason).Held .stopped := by
  rw [stopMotion_of_quiet h]
  exact enterState_held _ (.inl rfl) _

theorem stopMotion_motion (h : s.standingTrigger = none) (reason : EndReason) :
    (s.stopMotion reason).descent.motion = none := by
  rw [stopMotion_of_quiet h, enterState_descent, motionEnd_motion]

/-- R97, R113: a downward state that is entered runs its motion, unless sample 0 meets completion. -/
theorem startMotion_state (h : s.standingTrigger = none) (motion : Motion) :
    (s.startMotion motion.runsIn motion).curtain.state = motion.runsIn ∨
      (s.startMotion motion.runsIn motion).curtain.state = .down := by
  have hstarted := motionStart_begun_course (enters := (· = .down)) (s.enterState motion.runsIn .none) motion
    fun _ _ _ => rfl
  have hquiet : ((s.enterState motion.runsIn .none).motionStart motion).standingTrigger = none :=
    hstarted.standingTrigger.trans ((enterState_standingTrigger s _ _).trans h)
  have hstate := hstarted.state
  rw [State.withDescent_curtain, enterState_curtain] at hstate
  unfold State.startMotion State.enterMotion
  rw [testTriggers_of_quiet hquiet]
  exact hstate

/-! ### A descent (R96) -/

/-- The curtain has been taken down for `cause`; it is DOWN at once only as `arrived` allows. -/
structure State.Falls (t : State) (cause : DescentCause) (arrived : Prop) : Prop where
  cause : t.curtain.cause = some cause
  state : t.curtain.state = .descending ∨ t.curtain.state = .down ∧ arrived
  raiseTimer : t.curtain.raiseTimer = none
  output : ∃ o, t.curtain.output = some o ∧ o.motor = false
  reported : t.curtain.reported = t.curtain.position

/-- R94: the motor is off in DESCENDING and in DOWN. -/
theorem Commanded.motorOff {c d : Curtain} (h : Commanded c d) (hstate : d.state = .descending ∨ d.state = .down)
    (hoff : ∃ o, c.output = some o ∧ o.motor = false) : ∃ o, d.output = some o ∧ o.motor = false := by
  rcases h with ⟨-, houtput⟩ | ⟨supervisor, houtput⟩ <;> rw [houtput]
  · exact hoff
  · rcases hstate with hstate | hstate <;> rw [hstate] <;> exact ⟨_, rfl, rfl⟩

/-- R113: a descent is DOWN at once only where the latest delivery shows the bottom limit closed. -/
theorem descend_falls (s : State) (cause : DescentCause) (detail : CurtainDetail) :
    (s.descend cause detail).Falls cause (∃ inputs, s.curtain.delivery = some inputs ∧ inputs.bottomClosed = true) := by
  let entered := (s.withCurtain { s.curtain with cause := some cause }).enterState .descending detail
  have hentered : entered.curtain = _ := enterState_curtain _ .descending detail
  have hstarted := motionStart_begun_course entered .descending (enters := fun state => state = .down ∧
      ∃ inputs, s.curtain.delivery = some inputs ∧ inputs.bottomClosed = true)
    fun inputs hdelivery hbottom => ⟨rfl, inputs, by rw [← hdelivery, hentered]; rfl, hbottom⟩
  change Course _ _ (s.descend cause detail) at hstarted
  have hcurtain : (entered.withDescent (entered.descent.begin .descending entered.curtain.cause
      entered.nodeTime)).curtain = _ := hentered
  have hstate := hstarted.state
  rw [hcurtain] at hstate
  refine ⟨?_, hstate, ?_, hstarted.commanded.motorOff (hstate.imp id And.left) ?_, hstarted.reported ?_⟩
  · rw [hstarted.keepsCause (by simp), hcurtain]; rfl
  · exact hstarted.raiseTimer (by simp) (by rw [hcurtain]; rfl)
  · rw [hcurtain]; exact ⟨_, rfl, rfl⟩
  · rw [hcurtain]; rfl

theorem fall_falls (h : s.curtain.state.yields = true) (cause : DescentCause) : (s.fall cause).Falls cause True := by
  unfold State.fall
  rw [if_pos h]
  have hfalls := descend_falls (s.motionEnd .trigger) cause (.cause cause)
  exact { hfalls with state := hfalls.state.imp id fun h => ⟨h.1, trivial⟩ }

/-- The descent as the statement of R101 and R96 has it. -/
theorem State.Falls.outcome {t : State} {cause : DescentCause} {arrived : Prop} (h : t.Falls cause arrived) :
    t.curtain.cause = some cause ∧ (t.curtain.state = .descending ∨ t.curtain.state = .down) ∧
      t.curtain.raiseTimer = none ∧ ∃ o, t.curtain.output = some o ∧ o.motor = false :=
  ⟨h.cause, h.state.imp id And.left, h.raiseTimer, h.output⟩

/-- R96: a curtain that yields is taken down by the first standing trigger. -/
theorem testTriggers_outcome (h : s.curtain.state.yields = true) {cause : DescentCause}
    (htrigger : s.standingTrigger = some cause) : s.testTriggers.Falls cause True := by
  unfold State.testTriggers
  rw [htrigger]
  exact fall_falls h cause

/-! ### The table of R101 -/

section
variable {kind : DemandKind} (source : Nat) (epoch : Byte)

theorem carryOut_of_refused {why : DemandRefusal} (h : s.judgement kind = .refused why) :
    s.carryOut source kind epoch = s.log (.demandRefused source kind epoch why) := by
  unfold State.carryOut
  rw [h]

theorem carryOut_of_raises (h : s.judgement kind = .raises) : s.carryOut source kind epoch = s.goTo .raising .none := by
  unfold State.carryOut
  rw [h]

theorem carryOut_of_lowers (h : s.judgement kind = .lowers) :
    s.carryOut source kind epoch = s.startMotion .lowering .lowering := by
  unfold State.carryOut
  rw [h]

theorem carryOut_of_tests (h : s.judgement kind = .tests) :
    s.carryOut source kind epoch = s.startMotion .testing .testing := by
  unfold State.carryOut
  rw [h]

theorem carryOut_of_stops (h : s.judgement kind = .stops) :
    s.carryOut source kind epoch = s.stopMotion .demandStop := by
  unfold State.carryOut
  rw [h]

theorem carryOut_of_drops (h : s.judgement kind = .drops) : s.carryOut source kind epoch = s.fall .drop := by
  unfold State.carryOut
  rw [h]

theorem carryOut_of_noEffect (h : s.judgement kind = .noEffect) :
    s.carryOut source kind epoch = s.log (.demandTaken source kind epoch) := by
  unfold State.carryOut
  rw [h]

/-- R94, R103: a RAISE that is carried out while no trigger stands. -/
theorem carryOut_raising (h : s.judgement .raise = .raises) (hquiet : s.standingTrigger = none) :
    (s.carryOut source .raise epoch).curtain =
      { s.curtain.enter .raising s.clock.now with output := some ⟨false, some .normal, true⟩ } := by
  rw [carryOut_of_raises source epoch h, goTo_of_quiet hquiet, enterState_curtain]
  rfl

end

section
variable (h : s.curtain.state ≠ .driveLost)
include h

theorem judgement_raise (hquiet : s.standingTrigger = none) (hposition : s.curtain.position ≠ none) :
    s.judgement .raise =
      if s.curtain.state = .down ∨ s.curtain.state = .stopped then .raises else .refused .state := by
  simp [State.judgement, h, hquiet, hposition]

theorem judgement_lower (hbeam : s.curtain.view.beamBroken = false) (hposition : s.curtain.position ≠ none) :
    s.judgement .lower = if s.curtain.state = .up ∨ s.curtain.state = .stopped then .lowers else .refused .state := by
  simp [State.judgement, h, hbeam, hposition]

theorem judgement_test (hbeam : s.curtain.view.beamBroken = false) (hposition : s.curtain.position ≠ none) :
    s.judgement .test = if s.curtain.state = .up then .tests else .refused .state := by
  simp [State.judgement, h, hbeam, hposition]

theorem judgement_drop : s.judgement .drop = if s.curtain.state.yields then .drops else .noEffect := by
  simp [State.judgement, h]

end

theorem standingTrigger_zone (h : s.zoneTrigger = true) : s.standingTrigger = some .zone := by
  simp [State.standingTrigger, h]

theorem standingTrigger_evacuate (hzone : s.zoneTrigger = false) (h : s.alarm.stage = .evacuate) :
    s.standingTrigger = some .evacuate := by
  simp [State.standingTrigger, hzone, h]

theorem standingTrigger_button (hzone : s.zoneTrigger = false) (hstage : s.alarm.stage ≠ .evacuate)
    (h : s.curtain.view.buttonPressed = true) : s.standingTrigger = some .button := by
  simp [State.standingTrigger, hzone, hstage, h]

end

/-- Settles O41: each demand by its judgement, each trigger by the descent that it brings about. -/
theorem demandsAndTriggersMoveTheCurtain : Obligations.DemandsAndTriggersMoveTheCurtain := by
  intro s source epoch
  dsimp only
  have hrefused {kind : DemandKind} {why : DemandRefusal} (h : s.judgement kind = .refused why) :=
    carryOut_of_refused source epoch h
  refine ⟨fun hlost kind => hrefused (by simp [State.judgement, hlost]), fun hdrive => ⟨fun htrigger => ?_,
    fun hquiet hposition => ?_, fun hquiet hposition => ⟨fun hdown hstopped => ?_, fun hstate => ?_⟩, fun hbeam => ?_,
    fun hbeam hposition => ?_, fun hbeam hposition => ⟨fun hup => ?_, fun hup hstopped => ?_, fun hquiet hstate => ?_,
    fun hquiet hstate => ?_⟩, fun hstate => ?_, fun hstate => ?_, fun hstate => ?_, fun hquiet hstate => ?_⟩,
    fun hstate => ?_, fun hstate => ?_⟩
  · -- RAISE under a trigger
    exact hrefused (by simp [State.judgement, hdrive, htrigger])
  · -- RAISE with the position unknown
    exact hrefused (by simp [State.judgement, hdrive, hquiet, hposition])
  · -- RAISE in another state
    exact hrefused ((judgement_raise hdrive hquiet hposition).trans (if_neg (by simp [hdown, hstopped])))
  · -- RAISE in DOWN or STOPPED
    rw [carryOut_raising source epoch ((judgement_raise hdrive hquiet hposition).trans (if_pos hstate)) hquiet]
    exact ⟨rfl, rfl, rfl⟩
  · -- LOWER and TEST with the beam broken
    exact ⟨hrefused (by simp [State.judgement, hdrive, hbeam]), hrefused (by simp [State.judgement, hdrive, hbeam])⟩
  · -- LOWER and TEST with the position unknown
    exact ⟨hrefused (by simp [State.judgement, hdrive, hbeam, hposition]),
      hrefused (by simp [State.judgement, hdrive, hbeam, hposition])⟩
  · -- TEST in another state
    exact hrefused ((judgement_test hdrive hbeam hposition).trans (if_neg hup))
  · -- LOWER in another state
    exact hrefused ((judgement_lower hdrive hbeam hposition).trans (if_neg (by simp [hup, hstopped])))
  · -- LOWER in UP or STOPPED
    rw [carryOut_of_lowers source epoch ((judgement_lower hdrive hbeam hposition).trans (if_pos hstate))]
    exact startMotion_state hquiet .lowering
  · -- TEST in UP
    rw [carryOut_of_tests source epoch ((judgement_test hdrive hbeam hposition).trans (if_pos hstate))]
    exact startMotion_state hquiet .testing
  · -- STOP in DESCENDING
    exact hrefused (by simp [State.judgement, hstate])
  · -- STOP with nothing in motion
    exact hrefused (by rcases hstate with h | h | h <;> simp [State.judgement, h])
  · -- DROP in DOWN or DESCENDING
    refine carryOut_of_noEffect source epoch ((judgement_drop hdrive).trans (if_neg ?_))
    rcases hstate with h | h <;> simp [h, CurtainState.yields]
  · -- STOP in LOWERING, RAISING or TESTING
    have hstops : s.judgement .stop = .stops := by rcases hstate with h | h | h <;> simp [State.judgement, h]
    rw [carryOut_of_stops source epoch hstops]
    obtain ⟨hstopped, htimer, houtput⟩ := stopMotion_held hquiet .demandStop
    exact ⟨hstopped, htimer, stopMotion_motion hquiet .demandStop, houtput⟩
  · -- DROP and the triggers in the states that yield
    have hyields : s.curtain.state.yields = true := by rcases hstate with h | h | h | h | h <;> rw [h] <;> rfl
    have hdrive : s.curtain.state ≠ .driveLost := by rcases hstate with h | h | h | h | h <;> rw [h] <;> exact nofun
    refine ⟨?_, fun hzone => ?_, fun hzone hstage => ?_, fun hzone hstage hbutton => ?_⟩
    · rw [carryOut_of_drops source epoch ((judgement_drop hdrive).trans (if_pos hyields))]
      exact (fall_falls hyields .drop).outcome
    · exact (testTriggers_outcome hyields (standingTrigger_zone hzone)).outcome
    · exact (testTriggers_outcome hyields (standingTrigger_evacuate hzone hstage)).outcome
    · exact (testTriggers_outcome hyields (standingTrigger_button hzone hstage hbutton)).outcome
  · -- the triggers in the other states
    refine testTriggers_of_not_yields ?_
    rcases hstate with h | h | h | h <;> rw [h] <;> rfl

end Sys2Proof.Machine
end

section
/-!
THE RAISE TIMER AND THE PROOF PERIOD (R103, R109). What the raise timer comes to that expires in RAISING, and the
increment that takes a proof past its period (O43).
-/
namespace Sys2Proof.Machine

section
variable (s : State)

/-! ### The raise timer (R103) -/

/-- The curtain is stopped with RAISE TIMEOUT, before the test of the triggers. -/
def State.raiseStopped (s : State) (expiry : Nat) : State :=
  ((s.advanceTo expiry).enterState .stopped .raiseTimeout).raiseFault .raiseTimeout .none

variable {s} {expiry : Nat}

theorem completes_raiseTimeout (hs : s.power.running = true) (hraising : s.curtain.state = .raising)
    (htimer : s.curtain.raiseTimer = some expiry) : completes .raiseTimeout s (s.raiseStopped expiry).testTriggers := by
  rw [completes_iff s rfl]
  change execRaiseTimeout s = _
  rw [execRaiseTimeout, whenRunning, if_pos hs, htimer]
  dsimp only
  rw [if_pos hraising]
  rfl

theorem raiseStopped_move : Move drive (s.advanceTo expiry) (s.raiseStopped expiry) :=
  (enterState_move _ _ _).trans (raiseFault_moved _ _ _)

theorem raiseStopped_curtain :
    (s.raiseStopped expiry).curtain = ((s.advanceTo expiry).enterState .stopped .raiseTimeout).curtain :=
  (raiseFault_move _ .raiseTimeout .none).curtain

theorem raiseStopped_held : (s.raiseStopped expiry).Held .stopped := by
  obtain ⟨hstate, htimer, houtput⟩ := enterState_held (s := s.advanceTo expiry) .stopped (.inl rfl) .raiseTimeout
  constructor <;> rw [raiseStopped_curtain] <;> assumption

theorem raiseStopped_standingTrigger : (s.raiseStopped expiry).standingTrigger = s.standingTrigger := by
  have hraised := (raiseFault_moved (ps := []) ((s.advanceTo expiry).enterState .stopped .raiseTimeout) .raiseTimeout
    .none).standingTrigger (by decide) (by decide) (by decide)
  exact hraised.trans <| (enterState_standingTrigger _ _ _).trans <|
    (advanceTo_moved s expiry).standingTrigger (by decide) (by decide) (by decide)

theorem raiseStopped_descent : (s.raiseStopped expiry).descent = s.descent := by
  rw [State.raiseStopped, (raiseFault_move _ .raiseTimeout .none).descent, enterState_descent,
    (advanceTo_moved s expiry).descent (by decide)]

/-- A move of the drive after the clock has been advanced, written out. -/
theorem Move.advanced_frame {t : State} (h : Move drive (s.advanceTo expiry) t) :
    t = (((((s.withClock t.clock).withLines t.lines).withCurtain t.curtain).withDescent t.descent).withPanel
      t.panel).withComposer t.composer := by
  have hframe := h.drive_frame
  rw [h.clock (by decide), h.lines (by decide)]
  rw [advanceTo_eq] at hframe ⊢
  exact hframe

/-! ### The proof period (R109) -/

/-- The increment takes a proof past its period. -/
def State.proofRunsOut (s : State) : Prop :=
  s.roles.curtain = true ∧ s.curtain.proof.verdict = .pass ∧
    s.station.nodeTime = s.curtain.proof.time + s.image.curtain.proofPeriod ∧ s.station.nodeTime < 4294967295

/-- The row of PROOF EXPIRED is the increment that takes the proof past its period. -/
theorem proofExpired_due : (s.roles.curtain && s.proven &&
    s.reachesNext (s.curtain.proof.time + s.image.curtain.proofPeriod + 1)) = true ↔ s.proofRunsOut := by
  unfold State.proofRunsOut State.proven State.reachesNext State.nodeTime Config.nodeTimeMax
  simp only [Bool.and_eq_true, beq_iff_eq, decide_eq_true_eq]
  constructor
  · rintro ⟨⟨hrole, hpass, -⟩, hnext, hmax⟩
    exact ⟨hrole, hpass, by omega, by omega⟩
  · rintro ⟨hrole, hpass, hend, hmax⟩
    exact ⟨⟨hrole, hpass, by omega⟩, by omega, by omega⟩

theorem completes_proofExpired (hs : s.power.running = true) (h : s.proofRunsOut) :
    completes .proofExpired s s.increment := by
  have hdue := completes_whenDue (s := s) rfl (show exec .proofExpired s = whenDue s _ from rfl) hs
  rwa [if_pos (proofExpired_due.mpr h)] at hdue

theorem completes_proofExpired_idle (hs : s.power.running = true) (h : ¬s.proofRunsOut) :
    completes .proofExpired s s := by
  have hdue := completes_whenDue (s := s) rfl (show exec .proofExpired s = whenDue s _ from rfl) hs
  rwa [if_neg (mt proofExpired_due.mp h)] at hdue

theorem afterProof_move (s : State) : Move peerParts s s.afterProof := by
  have hunproven : s.proofAges false = s := by simp [State.proofAges]
  have hblocks := blocksCount_move s false
  rwa [blocksCount_eq, hunproven] at hblocks

/-- A proof past its period does not stand. -/
theorem not_proven_of_past (h : s.curtain.proof.time + s.image.curtain.proofPeriod < s.station.nodeTime) :
    s.proven = false := by
  unfold State.proven State.nodeTime
  have hage : ¬s.station.nodeTime - s.curtain.proof.time ≤ s.image.curtain.proofPeriod := by omega
  simp [hage]

theorem second_station (h : s.station.nodeTime < 4294967295) :
    s.second.station = { s.station with nodeTime := s.station.nodeTime + 1 } := by
  rw [second_eq h]
  rfl

theorem second_curtain : s.second.curtain = s.curtain := (second_move s).curtain (by decide)

theorem second_panel (h : s.station.nodeTime < 4294967295) : s.second.panel = s.panel := by
  rw [second_eq h]
  exact advanceTo_panel s _

variable (h : s.proofRunsOut)
include h

theorem second_not_proven : s.second.proven = false := by
  obtain ⟨-, -, hend, hmax⟩ := h
  refine not_proven_of_past ?_
  unfold State.image
  rw [second_curtain, second_station hmax]
  change _ + s.image.curtain.proofPeriod < s.station.nodeTime + 1
  omega

/-- R109: PROOF EXPIRED is logged and the curtain section is marked, before the other blocks count on. -/
theorem increment_of_proofRunsOut : s.increment = ((s.second.log .proofExpired).mark).afterProof := by
  obtain ⟨hrole, hpass, hend, hmax⟩ := h
  have hproven : s.proven = true := by
    unfold State.proven State.nodeTime
    simp only [Bool.and_eq_true, beq_iff_eq, decide_eq_true_eq]
    exact ⟨hpass, by omega⟩
  have hroles : s.second.roles.curtain = true := by
    unfold State.roles
    rw [second_station hmax]
    exact hrole
  rw [State.increment, blocksCount_eq, State.proofAges,
    if_pos (by rw [hroles, hproven, second_not_proven ⟨hrole, hpass, hend, hmax⟩]; rfl)]

theorem increment_loggedBy : ∃ newer,
    LoggedBy (⟨s.panel.nextEntry, s.station.nodeTime + 1, .proofExpired, false⟩ :: newer) s s.increment := by
  obtain ⟨-, -, -, hmax⟩ := id h
  have hfirst : LoggedBy [⟨s.panel.nextEntry, s.station.nodeTime + 1, .proofExpired, false⟩] s
      (s.second.log .proofExpired).mark := by
    have hlogged := (LoggedBy.of_log_eq (congrArg (·.log) (second_panel hmax))).trans
      (log_loggedBy s.second .proofExpired)
    rw [second_panel hmax, second_station hmax] at hlogged
    exact hlogged
  obtain ⟨newer, hnewer⟩ := (afterProof_follows (s.second.log .proofExpired).mark).appends
  rw [increment_of_proofRunsOut h]
  exact ⟨newer, hfirst.trans hnewer⟩

theorem increment_not_proven : s.increment.proven = false := by
  obtain ⟨-, -, hend, hmax⟩ := id h
  have hstation := increment_station hmax
  rcases (afterProof_follows (s.second.log .proofExpired).mark).proof with hproof | hproof <;>
    rw [← increment_of_proofRunsOut h] at hproof
  · refine not_proven_of_past ?_
    rw [hproof]
    unfold State.image
    rw [hstation]
    change s.second.curtain.proof.time + s.image.curtain.proofPeriod < s.station.nodeTime + 1
    rw [second_curtain]
    omega
  · unfold State.proven
    simp [hproof]

theorem increment_pending : s.increment.composer.changePending = true := by
  have hmarked := (afterProof_move (s.second.log .proofExpired).mark).composer
  rw [increment_of_proofRunsOut h]
  rcases hmarked with e | e <;> exact congrArg (·.changePending) e

end

/-- Settles O43: the timer stops the curtain and raises the fault before the triggers are tested, and the increment ages
the proof before its blocks count on. -/
theorem raiseAndProofRunOut : Obligations.RaiseAndProofRunOut := by
  intro s hs
  refine ⟨fun expiry hraising htimer => ?_, fun hdue hlen => ?_, completes_proofExpired_idle hs⟩
  · have hfalls := testTriggers_falls (s.raiseStopped expiry)
    have hmove : Move drive (s.advanceTo expiry) (s.raiseStopped expiry).testTriggers :=
      raiseStopped_move.trans hfalls.move
    refine ⟨_, completes_raiseTimeout hs hraising htimer, ?_, hfalls.raiseTimer (by simp) raiseStopped_held.raiseTimer,
      (hmove.clock (by decide)).trans (advanceTo_clock s expiry), fun hquiet => ?_, hmove.advanced_frame⟩
    · rw [hfalls.stands rfl (by decide) (by simp)]
      exact raiseFault_stands _ _ _
    · rw [testTriggers_of_quiet (raiseStopped_standingTrigger.trans hquiet)]
      exact ⟨raiseStopped_held.state, raiseStopped_held.output, raiseStopped_descent⟩
  · obtain ⟨newer, hlogged⟩ := increment_loggedBy hdue
    refine ⟨s.increment, newer, completes_proofExpired hs hdue, completes_increment hs, increment_station hdue.2.2.2,
      increment_not_proven hdue, increment_pending hdue, ?_⟩
    have hlog := hlogged hlen
    rwa [List.length_cons, ← Nat.add_assoc, Nat.add_right_comm] at hlog

end Sys2Proof.Machine
end

section
/-!
THE LATEST ENTRIES OF THE RING (R176). An entry that joined the ring stands in it while fewer than 32 entries have joined
after it, however long the ring was.
-/
namespace Sys2Proof.Machine

/-- An entry of the event stands in the ring with at most `n` entries after it. -/
def Recent (n : Nat) (event : LogEvent) (s : State) : Prop :=
  ∃ entry newer, (entry :: newer) <:+ s.panel.log ∧ newer.length ≤ n ∧ entry.event = event

section
variable {m n : Nat} {event : LogEvent} {s t u : State}

theorem log_recent (s : State) (event : LogEvent) : Recent 0 event (s.log event) :=
  ⟨_, [], ⟨_, rfl⟩, Nat.le_refl 0, rfl⟩

theorem Recent.mem (h : Recent n event s) : ∃ e ∈ s.panel.log, e.event = event := by
  obtain ⟨entry, newer, hsuffix, -, hevent⟩ := h
  exact ⟨entry, hsuffix.subset (List.mem_cons_self ..), hevent⟩

theorem Recent.mono (h : Recent m event s) (hmn : m ≤ n) : Recent n event s := by
  obtain ⟨entry, newer, hsuffix, hlen, hevent⟩ := h
  exact ⟨entry, newer, hsuffix, hlen.trans hmn, hevent⟩

/-- A suffix outlasts the oldest entry where it is not the whole. -/
theorem suffix_drop_one {α : Type} {l k : List α} (h : l <:+ k) (hlen : l.length < k.length) : l <:+ k.drop 1 := by
  obtain ⟨older, rfl⟩ := h
  cases older with
  | nil => exact absurd hlen (lt_irrefl _)
  | cons _ older => exact ⟨older, rfl⟩

theorem Recent.log (h : Recent n event s) (hn : n < 31) (e : LogEvent) : Recent (n + 1) event (s.log e) := by
  obtain ⟨entry, newer, hsuffix, hlen, hevent⟩ := h
  refine ⟨entry, newer ++ [⟨s.panel.nextEntry, s.nodeTime, e, false⟩], ?_, by simpa using hlen, hevent⟩
  change (entry :: newer) ++ [_] <:+ (if s.panel.log.length < 32 then s.panel.log else s.panel.log.drop 1) ++ [_]
  refine (List.suffix_append_inj_of_length_eq rfl).mpr ⟨?_, rfl⟩
  split
  · exact hsuffix
  · exact suffix_drop_one hsuffix (by rw [List.length_cons]; omega)

/-- At most `n` entries join the ring from one state to the other. -/
def Writes (n : Nat) (s t : State) : Prop := ∀ event m, m + n < 32 → Recent m event s → Recent (m + n) event t

namespace Writes

theorem of_log_eq (h : t.panel.log = s.panel.log) : Writes n s t := by
  intro event m _ hrecent
  have hkept := hrecent.mono (Nat.le_add_right m n)
  unfold Recent at hkept ⊢
  rwa [h]

theorem refl (s : State) : Writes n s s := of_log_eq rfl

theorem trans (h : Writes m s t) (h' : Writes n t u) : Writes (m + n) s u := by
  intro event k hlen hrecent
  rw [← Nat.add_assoc] at hlen ⊢
  exact h' event (k + m) hlen (h event k (by omega) hrecent)

theorem ite {c : Prop} [Decidable c] (h : Writes n s t) (h' : Writes n s u) : Writes n s (if c then t else u) := by
  split <;> assumption

end Writes

end

section
variable (s : State)

theorem log_writes (e : LogEvent) : Writes 1 s (s.log e) := fun _ _ hlen h => h.log (by omega) e

/-- A list of faults with the entry that names its change. -/
theorem withFaults_writes (faults : List FaultEntry) (e : LogEvent) : Writes 1 s ((s.withFaults faults).log e) :=
  Writes.trans (m := 0) (.of_log_eq (withFaults_log s _)) (log_writes _ _)

theorem clearFault_writes (key : FaultKey) : Writes 1 s (s.clearFault key) := .ite (withFaults_writes s _ _) (.refl s)

theorem raiseFault_writes (key : FaultKey) (detail : FaultDetail) : Writes 1 s (s.raiseFault key detail) := by
  unfold State.raiseFault
  exact .ite (.refl s) (withFaults_writes s _ _)

theorem setFault_writes (key : FaultKey) (detail : FaultDetail) (b : Bool) : Writes 1 s (s.setFault key detail b) := by
  cases b
  · exact clearFault_writes s key
  · exact raiseFault_writes s key detail

theorem setMismatch_writes (own supervisor : Bool) : Writes 1 s (s.setMismatch own supervisor) := by
  refine Writes.trans (m := 0) (.of_log_eq ?_) (setFault_writes _ .limitMismatch .none (own || supervisor))
  unfold State.markIf
  split <;> rfl

theorem settleMismatch_writes : Writes 1 s s.settleMismatch := .ite (.refl s) (setMismatch_writes s _ _)

/-- R124, R105: the verdict of a test and the ending of a mismatch cause. -/
theorem motionEnd_writes (reason : EndReason) : Writes 2 s (s.motionEnd reason) := by
  unfold State.motionEnd
  split
  · exact .refl s
  · next motion _ =>
    have hverdict : Writes 1 s (if motion = .testing then s.writeVerdict reason else s) :=
      .ite (Writes.trans (m := 0) (.of_log_eq rfl) (log_writes _ _)) (.refl s)
    generalize (if motion = .testing then s.writeVerdict reason else s) = t at hverdict ⊢
    have hfinished : Writes 0 t (t.withDescent (t.descent.finish reason)) := .of_log_eq rfl
    dsimp only
    split
    · exact hverdict.trans (hfinished.trans (settleMismatch_writes _))
    · exact hverdict.trans (n := 1) (.of_log_eq rfl)

theorem enterState_writes (state : CurtainState) (detail : CurtainDetail) :
    Writes 2 s (s.enterState state detail) := by
  have hentered : Writes 1 s (((s.withCurtain (s.curtain.enter state s.clock.now)).command.mark).log
      (.curtain state detail)) := Writes.trans (m := 0) (.of_log_eq rfl) (log_writes _ _)
  unfold State.enterState
  dsimp only
  split
  · exact hentered.trans (clearFault_writes _ _)
  · exact hentered.trans (n := 1) (.refl _)

end

end Sys2Proof.Machine
end

section
/-!
A DRIVE DELIVERY (R95, R102, R103, R105, R107). What a delivery is taken to show, the two changes of view that move a
curtain while no trigger stands, and the recovery of the drive (O42).
-/
namespace Sys2Proof.Machine

section
variable (s : State) (inputs : DriveInputs)

/-! ### The views (R95) -/

/-- R95, R105: the position that a delivery gives. -/
def State.deliveredPosition : Option Nat :=
  if (viewOf inputs).bothClosed then none else heightOf s.curtainSettings.height inputs.reading

/-- The controller holds the views of the delivery. -/
structure ShowsDelivery (inputs : DriveInputs) (position : Option Nat) (c : Curtain) : Prop where
  view : c.view = viewOf inputs
  position : c.position = position
  delivery : c.delivery = some inputs

/-- R105: the limits have been judged too. -/
structure LimitsJudged (inputs : DriveInputs) (position : Option Nat) (s : State) : Prop where
  shows : ShowsDelivery inputs position s.curtain
  ownMismatch : s.curtain.ownMismatch = (viewOf inputs).bothClosed
  stands : s.stands .limitMismatch = (s.curtain.ownMismatch || s.curtain.supervisorMismatch)

variable {s inputs} {position : Option Nat} {t : State} {enters : CurtainState → Prop}

theorem ShowsDelivery.course (h : ShowsDelivery inputs position s.curtain) (hst : Course enters s t) :
    ShowsDelivery inputs position t.curtain :=
  ⟨hst.inputs.view.trans h.view, hst.inputs.position.trans h.position, hst.inputs.delivery.trans h.delivery⟩

theorem LimitsJudged.course (h : LimitsJudged inputs position s) (hst : Course enters s t) :
    LimitsJudged inputs position t :=
  ⟨h.shows.course hst, hst.inputs.ownMismatch.trans h.ownMismatch, hst.mismatchStands h.stands⟩

theorem judgeLimits_curtain (s : State) :
    s.judgeLimits.curtain = { s.curtain with ownMismatch := s.curtain.view.bothClosed } := setMismatch_causes s _ _

theorem judgeLimits_descent (s : State) : s.judgeLimits.descent = s.descent := setMismatch_descent s _ _

theorem judgeLimits_standingTrigger (s : State) : s.judgeLimits.standingTrigger = s.standingTrigger := by
  have hmove := judgeLimits_move s
  exact standingTrigger_congr (hmove.alarm (by decide)) (by rw [hmove.station (by decide)]) (by rw [judgeLimits_curtain])

theorem ShowsDelivery.judgeLimits (h : ShowsDelivery inputs position s.curtain) :
    LimitsJudged inputs position s.judgeLimits := by
  refine ⟨?_, ?_, ?_⟩
  · rw [judgeLimits_curtain]
    exact ⟨h.view, h.position, h.delivery⟩
  · rw [judgeLimits_curtain, h.view]
  · rw [judgeLimits_curtain]
    exact setFault_stands _ _ _ _

/-! ### The triggers that a delivery finds -/

/-- A trigger stands once the delivery is taken. -/
def State.triggeredBy (s : State) (inputs : DriveInputs) : Prop :=
  s.zoneTrigger = true ∨ s.alarm.stage = .evacuate ∨ inputs.buttonPressed = true

/-- R96: the view of the delivery decides on the button. -/
theorem standingTrigger_of_shows (hmove : Move drive s t) (h : ShowsDelivery inputs position t.curtain) :
    t.standingTrigger = none ↔ ¬s.triggeredBy inputs := by
  rw [standingTrigger_none_iff, zoneTrigger_congr (hmove.alarm (by decide)) (by rw [hmove.station (by decide)]),
    hmove.alarm (by decide), h.view]
  simp [State.triggeredBy, viewOf]

/-! ### A delivery at a curtain station that has its state (R95) -/

/-- The delivery is taken, and the reported position follows. -/
def State.tracked (s : State) (inputs : DriveInputs) : State := (s.takeInputs inputs).followPosition

theorem tracked_move : Move drive s (s.tracked inputs) := (takeInputs_move s inputs).trans (followPosition_move _)

theorem tracked_curtain : (s.tracked inputs).curtain = { s.curtain with
    view := viewOf inputs, position := s.deliveredPosition inputs, delivery := some inputs
    reported := reportedAfter s.curtain.state s.curtain.reported (s.deliveredPosition inputs) } :=
  (markIf_move (ps := []) _ _).curtain (by decide)

theorem tracked_descent : (s.tracked inputs).descent = s.descent := (markIf_move (ps := []) _ _).descent (by decide)

theorem tracked_shows : ShowsDelivery inputs (s.deliveredPosition inputs) (s.tracked inputs).curtain := by
  rw [tracked_curtain]
  exact ⟨rfl, rfl, rfl⟩

theorem judgeView_judged (h : ShowsDelivery inputs position s.curtain) (before : LimitView) :
    LimitsJudged inputs position (s.judgeView before) := by
  have hbeam : Course (fun _ => True) s
      (if s.curtain.view.beamBroken && !before.beamBroken then s.beamBreaks else s) :=
    .ite (beamBreaks_course s fun _ => trivial) (.refl s)
  have hbutton := hbeam.trans
    (.ite (c := (s.curtain.view.buttonPressed != before.buttonPressed) = true)
      (testTriggers_course _ trivial trivial) (.refl _))
  have hlimits := (h.course hbutton).judgeLimits
  exact hlimits.course (.ite (c := (s.curtain.view.topClosed && !before.topClosed) = true)
    (topCloses_course _ fun _ => trivial) (.refl _))

theorem deliver_judged : LimitsJudged inputs (s.deliveredPosition inputs) (s.deliver inputs) := by
  have hviewed : LimitsJudged inputs (s.deliveredPosition inputs) ((s.tracked inputs).judgeView s.curtain.view) :=
    judgeView_judged tracked_shows _
  exact hviewed.course (enters := fun _ => True)
    (.ite (slotSample_course _ (fun _ => trivial) _ _) (.refl _))

/-- A change of state by the views leaves the delivery without a sample. -/
theorem deliver_of_state_ne (h : ((s.tracked inputs).judgeView s.curtain.view).curtain.state ≠ s.curtain.state) :
    s.deliver inputs = (s.tracked inputs).judgeView s.curtain.view := by
  have hsample : ¬(s.descent.motion.isSome &&
      ((s.tracked inputs).judgeView s.curtain.view).curtain.state == s.curtain.state) = true := by simp [h]
  exact if_neg hsample

/-! ### The curtain stopped by the beam (R102) -/

/-- CURTAIN OBSTRUCTED is logged. -/
def State.obstructionNoted (s : State) : State := s.log (.curtainObstructed s.curtain.reported)

def State.obstructed (s : State) : State := s.obstructionNoted.stopMotion .obstructed

section
variable (hquiet : s.standingTrigger = none)
include hquiet

theorem obstructionNoted_quiet : s.obstructionNoted.standingTrigger = none :=
  ((log_move (ps := []) s _).standingTrigger (by decide) (by decide) (by decide)).trans hquiet

theorem obstructed_eq : s.obstructed =
    (s.obstructionNoted.motionEnd .obstructed).enterState .stopped (.reason .obstructed) :=
  stopMotion_of_quiet (obstructionNoted_quiet hquiet) _

theorem obstructed_held : s.obstructed.Held .stopped := stopMotion_held (obstructionNoted_quiet hquiet) _

theorem obstructed_motion : s.obstructed.descent.motion = none := stopMotion_motion (obstructionNoted_quiet hquiet) _

theorem obstructed_quiet : s.obstructed.standingTrigger = none :=
  (stopMotion_course (enters := fun _ => True) _ (fun _ => trivial) _).standingTrigger.trans
    (obstructionNoted_quiet hquiet)

theorem obstructed_proof (htesting : s.descent.motion = some .testing) :
    s.obstructed.curtain.proof.verdict = .failed .obstructed := by
  rw [obstructed_eq hquiet, enterState_curtain]
  change (s.obstructionNoted.motionEnd .obstructed).curtain.proof.verdict = _
  rw [motionEnd_proof, if_pos (show s.obstructionNoted.descent.motion = some .testing from htesting)]
  rfl

/-- CURTAIN OBSTRUCTED stands in the ring when the limits have been judged. -/
theorem obstructed_logged : ∃ e ∈ s.obstructed.judgeLimits.panel.log, e.event = .curtainObstructed s.curtain.reported := by
  have hwrites : Writes (2 + 2 + 1) s.obstructionNoted s.obstructed.judgeLimits := by
    rw [obstructed_eq hquiet]
    exact ((motionEnd_writes _ _).trans (enterState_writes _ _ _)).trans (setMismatch_writes _ _ _)
  exact (hwrites _ 0 (by decide) (log_recent s _)).mem

end

section
variable (hquiet : ¬s.triggeredBy inputs)
include hquiet

theorem tracked_quiet : (s.tracked inputs).standingTrigger = none :=
  (standingTrigger_of_shows tracked_move tracked_shows).mpr hquiet

theorem deliver_of_beamBreaks (hstate : s.curtain.state = .lowering ∨ s.curtain.state = .testing)
    (hbefore : s.curtain.view.beamBroken = false) (hbroken : inputs.beamBroken = true) :
    s.deliver inputs = (s.tracked inputs).obstructed.judgeLimits := by
  have hstopped := (obstructed_held (tracked_quiet hquiet)).state
  have hobstructed : (s.tracked inputs).beamBreaks = (s.tracked inputs).obstructed :=
    if_pos (by rw [tracked_curtain]; exact hstate)
  have hstill : (s.tracked inputs).obstructed.testTriggers = (s.tracked inputs).obstructed :=
    testTriggers_of_quiet (obstructed_quiet (tracked_quiet hquiet))
  have hlimits : (s.tracked inputs).obstructed.judgeLimits.topCloses = (s.tracked inputs).obstructed.judgeLimits :=
    if_neg (by rw [judgeLimits_curtain]; simp [hstopped])
  have hviewed : (s.tracked inputs).judgeView s.curtain.view = (s.tracked inputs).obstructed.judgeLimits := by
    unfold State.judgeView
    have hview : (s.tracked inputs).curtain.view = viewOf inputs := tracked_shows.view
    simp only [hview, hbefore, viewOf, hbroken, hobstructed, hstill, ite_self, Bool.not_false, Bool.and_self,
      if_true, hlimits]
  rw [deliver_of_state_ne, hviewed]
  rw [hviewed, judgeLimits_curtain]
  rcases hstate with h | h <;> simp [hstopped, h]

/-- R102: the curtain is held, its motion has ended, and a test has failed. -/
theorem deliver_obstructed (hstate : s.curtain.state = .lowering ∨ s.curtain.state = .testing)
    (hbefore : s.curtain.view.beamBroken = false) (hbroken : inputs.beamBroken = true) :
    (s.deliver inputs).curtain.state = .stopped ∧ (s.deliver inputs).descent.motion = none ∧
      (s.deliver inputs).curtain.output = some ⟨true, some .normal, false⟩ ∧
      (∃ e ∈ (s.deliver inputs).panel.log, e.event = .curtainObstructed (s.deliver inputs).curtain.position) ∧
      (s.descent.motion = some .testing → (s.deliver inputs).curtain.proof.verdict = .failed .obstructed) := by
  have htracked := tracked_quiet hquiet
  have hheld := obstructed_held htracked
  have hreported : (s.tracked inputs).curtain.reported = s.deliveredPosition inputs := by
    rw [tracked_curtain]
    rcases hstate with h | h <;> simp [reportedAfter, h, CurtainState.moving]
  rw [deliver_judged.shows.position, ← hreported, deliver_of_beamBreaks hquiet hstate hbefore hbroken]
  refine ⟨?_, ?_, ?_, obstructed_logged htracked, fun htesting => ?_⟩
  · rw [judgeLimits_curtain, ← hheld.state]
  · rw [judgeLimits_descent, obstructed_motion htracked]
  · rw [judgeLimits_curtain, ← hheld.output]
  · rw [judgeLimits_curtain]
    exact obstructed_proof htracked (by rw [tracked_descent]; exact htesting)

/-! ### The top limit (R103, R105) -/

/-- R103: the state that a top limit closed in RAISING leads to. -/
def toppedState (inputs : DriveInputs) : CurtainState := if inputs.bottomClosed then .stopped else .up

theorem deliver_of_topCloses (hraising : s.curtain.state = .raising) (hbefore : s.curtain.view.topClosed = false)
    (htop : inputs.topClosed = true) :
    s.deliver inputs = (s.tracked inputs).judgeLimits.enterState (toppedState inputs) .none := by
  have hstate : (s.tracked inputs).curtain.state = .raising := by rw [tracked_curtain]; exact hraising
  have hview : (s.tracked inputs).curtain.view = viewOf inputs := tracked_shows.view
  have hbeam : (s.tracked inputs).beamBreaks = s.tracked inputs := if_neg (by simp [hstate])
  have hstill : (s.tracked inputs).testTriggers = s.tracked inputs := testTriggers_of_quiet (tracked_quiet hquiet)
  have htopped : (s.tracked inputs).judgeLimits.topCloses =
      (s.tracked inputs).judgeLimits.enterState (toppedState inputs) .none := by
    have hjudged := (judgeLimits_standingTrigger _).trans (tracked_quiet hquiet)
    unfold State.topCloses
    rw [goTo_of_quiet hjudged, goTo_of_quiet hjudged, judgeLimits_curtain, hview, if_pos hstate]
    unfold toppedState
    split <;> simp_all [viewOf]
  have hviewed : (s.tracked inputs).judgeView s.curtain.view =
      (s.tracked inputs).judgeLimits.enterState (toppedState inputs) .none := by
    unfold State.judgeView
    simp only [hview, hbefore, viewOf, htop, hbeam, hstill, ite_self, Bool.not_false, Bool.and_self, if_true, htopped]
  rw [deliver_of_state_ne, hviewed]
  rw [hviewed, enterState_curtain, hraising]
  unfold toppedState
  split <;> exact nofun

theorem deliver_topped (hraising : s.curtain.state = .raising) (hbefore : s.curtain.view.topClosed = false)
    (htop : inputs.topClosed = true) :
    (s.deliver inputs).curtain.state = (if inputs.bottomClosed then .stopped else .up) ∧
      (s.deliver inputs).curtain.raiseTimer = none ∧
      (s.deliver inputs).curtain.output = some ⟨true, some .normal, false⟩ ∧ (s.deliver inputs).descent = s.descent := by
  have hstate : toppedState inputs = .stopped ∨ toppedState inputs = .up := by
    unfold toppedState
    split
    · exact .inl rfl
    · exact .inr rfl
  rw [deliver_of_topCloses hquiet hraising hbefore htop]
  obtain ⟨htopped, htimer, houtput⟩ := enterState_held (s := (s.tracked inputs).judgeLimits) _ hstate .none
  exact ⟨htopped, htimer, houtput, by rw [enterState_descent, judgeLimits_descent, tracked_descent]⟩

end

/-! ### The recovery of the drive (R107) -/

/-- DRIVE LOST is cleared and the delivery is taken, before the state is derived. -/
def State.regained (s : State) (inputs : DriveInputs) : State := ((s.clearFault .driveLost).takeInputs inputs).judgeLimits

theorem regained_judged : LimitsJudged inputs (s.deliveredPosition inputs) (s.regained inputs) := by
  refine ShowsDelivery.judgeLimits ⟨rfl, ?_, rfl⟩
  have hsettings : (s.clearFault .driveLost).curtainSettings = s.curtainSettings := by
    unfold State.curtainSettings State.image
    rw [(clearFault_moved (ps := []) s .driveLost).station (by decide)]
  change (s.clearFault .driveLost).deliveredPosition inputs = _
  unfold State.deliveredPosition
  rw [hsettings]

theorem regained_move : Move drive s (s.regained inputs) :=
  (clearFault_moved s .driveLost).trans ((takeInputs_move _ inputs).trans (judgeLimits_move _))

theorem regained_stands : (s.regained inputs).stands .driveLost = false :=
  (setMismatch_stands _ _ _ (by decide)).trans (clearFault_stands s .driveLost)

theorem recover_of_descending (h : (s.regained inputs).recovered = .descending) :
    s.recover inputs = (s.regained inputs).descend .recovery .recovery := by
  have hderived : ((s.clearFault .driveLost).takeInputs inputs).judgeLimits.recovered = .descending := h
  unfold State.recover
  dsimp only
  rw [hderived]
  rfl

theorem recover_of_entered {state : CurtainState} (h : (s.regained inputs).recovered = state)
    (hstate : state ≠ .descending) : s.recover inputs = (s.regained inputs).enterState state .recovery := by
  have hderived : ((s.clearFault .driveLost).takeInputs inputs).judgeLimits.recovered = state := h
  unfold State.recover
  dsimp only
  rw [hderived]
  split
  · exact absurd rfl hstate
  · rfl

theorem recover_course : Course (fun _ => True) (s.regained inputs) (s.recover inputs) := by
  by_cases h : (s.regained inputs).recovered = .descending
  · rw [recover_of_descending h]
    exact descend_course _ trivial (fun _ _ _ => trivial) _ _
  · rw [recover_of_entered rfl h]
    exact enterState_course _ trivial _

theorem recover_judged : LimitsJudged inputs (s.deliveredPosition inputs) (s.recover inputs) :=
  regained_judged.course recover_course

theorem recover_stands : (s.recover inputs).stands .driveLost = false :=
  (recover_course.stands rfl (by decide) (by simp)).trans regained_stands

theorem recover_reported : (s.recover inputs).curtain.reported = (s.recover inputs).curtain.position := by
  by_cases h : (s.regained inputs).recovered = .descending
  · rw [recover_of_descending h]
    exact (descend_falls _ _ _).reported
  · rw [recover_of_entered rfl h, enterState_curtain]
    rfl

/-- R107: the state derived from the limits of the delivery and the triggers. -/
theorem regained_recovered : (s.regained inputs).recovered =
    if inputs.bottomClosed && !inputs.topClosed then .down
    else if (s.regained inputs).standingTrigger.isSome then .descending
    else if inputs.topClosed && !inputs.bottomClosed then .up
    else .stopped := by
  unfold State.recovered
  rw [regained_judged.shows.view]
  rfl

theorem recover_down (hbottom : inputs.bottomClosed = true) (htop : inputs.topClosed = false) :
    (s.recover inputs).curtain.state = .down := by
  have hderived : (s.regained inputs).recovered = .down := by
    rw [regained_recovered]
    simp [hbottom, htop]
  rw [recover_of_entered hderived nofun, enterState_curtain]
  rfl

section
variable (hbottom : ¬(inputs.bottomClosed = true ∧ inputs.topClosed = false))
include hbottom

theorem recover_triggered (htrigger : s.triggeredBy inputs) : (s.recover inputs).curtain.cause = some .recovery ∧
    ((s.recover inputs).curtain.state = .descending ∨
      inputs.bottomClosed = true ∧ (s.recover inputs).curtain.state = .down) := by
  have hstands : (s.regained inputs).standingTrigger.isSome = true :=
    Option.isSome_iff_ne_none.mpr fun e =>
      (standingTrigger_of_shows regained_move regained_judged.shows).mp e htrigger
  have hderived : (s.regained inputs).recovered = .descending := by
    rw [regained_recovered, if_neg (by simpa using hbottom), if_pos hstands]
  have hfalls := descend_falls (s.regained inputs) .recovery .recovery
  rw [regained_judged.shows.delivery] at hfalls
  rw [recover_of_descending hderived]
  refine ⟨hfalls.cause, hfalls.state.imp id ?_⟩
  rintro ⟨hdown, delivered, hdelivery, hclosed⟩
  obtain rfl := Option.some.inj hdelivery
  exact ⟨hclosed, hdown⟩

theorem recover_quiet (hquiet : ¬s.triggeredBy inputs) : (s.recover inputs).curtain.state =
    if inputs.topClosed = true ∧ inputs.bottomClosed = false then .up else .stopped := by
  have hnone := (standingTrigger_of_shows regained_move regained_judged.shows).mpr hquiet
  have hderived : (s.regained inputs).recovered =
      if inputs.topClosed = true ∧ inputs.bottomClosed = false then .up else .stopped := by
    rw [regained_recovered, if_neg (by simpa using hbottom), hnone]
    simp
  rw [recover_of_entered hderived (by split <;> exact nofun), enterState_curtain]
  rfl

end

/-! ### The delivery at the bay (R164) -/

theorem curtainDelivery_of_lost (h : s.curtain.state = .driveLost) : s.curtainDelivery inputs = s.recover inputs := by
  unfold State.curtainDelivery
  rw [h]

theorem curtainDelivery_of_known (hnone : s.curtain.state ≠ .none) (hunconfigured : s.curtain.state ≠ .unconfigured)
    (hlost : s.curtain.state ≠ .driveLost) : s.curtainDelivery inputs = s.deliver inputs := by
  unfold State.curtainDelivery
  split
  · exact absurd ‹_› hnone
  · exact absurd ‹_› hunconfigured
  · exact absurd ‹_› hlost
  · rfl

theorem curtainDelivery_judged (hnone : s.curtain.state ≠ .none) (hunconfigured : s.curtain.state ≠ .unconfigured) :
    LimitsJudged inputs (s.deliveredPosition inputs) (s.curtainDelivery inputs) := by
  by_cases hlost : s.curtain.state = .driveLost
  · rw [curtainDelivery_of_lost hlost]
    exact recover_judged
  · rw [curtainDelivery_of_known hnone hunconfigured hlost]
    exact deliver_judged

theorem completes_driveDelivery (hs : s.power.running = true) {b : Bay} (honline : (s.bay b).state = .online)
    (hdrive : (s.bay b).sensed = some .drive) :
    completes (.driveDelivery b inputs) s ((s.answered b).curtainDelivery inputs) := by
  rw [completes_iff s rfl]
  change execDriveDelivery b inputs s = _
  rw [execDriveDelivery, whenRunning, if_pos hs, if_pos (by simp [State.online, honline, hdrive])]

/-- A move of the drive after an answer of a bay, written out. -/
theorem Move.answered_frame {b : Bay} (h : Move drive (s.answered b) t) :
    (t.bay b).missed = 0 ∧ t = ((((s.withBay b (t.bay b)).withCurtain t.curtain).withDescent t.descent).withPanel
      t.panel).withComposer t.composer := by
  have hbay : t.bay b = (s.answered b).bay b := by
    unfold State.bay
    rw [h.bays (by decide)]
  have hanswered : s.withBay b (t.bay b) = s.answered b := by
    rw [hbay, State.answered, bay_withBay]
  rw [hanswered]
  exact ⟨by rw [hbay, answered_missed], h.drive_frame⟩

end

/-- Settles O42: the views and the limits by what every delivery comes to, and each change of state by the delivery that
makes it. -/
theorem driveDeliveryGivesViewAndState : Obligations.DriveDeliveryGivesViewAndState := by
  intro b inputs s hs honline hdrive hnone hunconfigured
  have hmove : Move drive (s.answered b) ((s.answered b).curtainDelivery inputs) := curtainDelivery_move _ inputs
  obtain ⟨hmissed, hframe⟩ := hmove.answered_frame
  have hjudged := curtainDelivery_judged (s := s.answered b) (inputs := inputs) hnone hunconfigured
  have hdeliver (h : s.curtain.state ≠ .driveLost) :=
    curtainDelivery_of_known (s := s.answered b) (inputs := inputs) hnone hunconfigured h
  refine ⟨_, completes_driveDelivery hs honline hdrive, hmissed, hframe, hjudged.shows.view, hjudged.shows.position,
    hjudged.shows.delivery, hjudged.ownMismatch, hjudged.stands, fun hquiet hstate hbefore hbroken => ?_,
    fun hquiet hraising hbefore htop => ?_, fun hlost => ?_⟩
  · rw [hdeliver (by rcases hstate with h | h <;> simp [h])]
    exact deliver_obstructed (s := s.answered b) hquiet hstate hbefore hbroken
  · rw [hdeliver (by simp [hraising])]
    exact deliver_topped (s := s.answered b) hquiet hraising hbefore htop
  · rw [curtainDelivery_of_lost (s := s.answered b) hlost]
    exact ⟨recover_stands, recover_reported, recover_down, fun hbottom =>
      ⟨recover_triggered (s := s.answered b) hbottom, recover_quiet (s := s.answered b) hbottom⟩⟩

end Sys2Proof.Machine
end

section
/-!
OVERSPEED (R116, R118). The speed of a sample, what the third fast sample makes of the supervisor, and what the controller
makes of its notices (O45).
-/
namespace Sys2Proof.Machine

/-! ### The speed of a sample (R116) -/

section
variable (d : Supervisor) {p : Option Nat} {before now : Nat}

theorem speed_unknown (h : d.k < 4 ∨ d.validRun < 5 ∨ p = none) : d.speed p = none := by
  unfold Supervisor.speed
  split
  · next hknown =>
    obtain ⟨hk, hrun, -⟩ := hknown
    rcases h with h | h | rfl
    · omega
    · omega
    · cases d.back 4 <;> rfl
  · rfl

theorem back_four (h : d.history[3]? = some (some before)) : d.back 4 = some before := by
  simp [Supervisor.back, h]

theorem speed_known (hk : 4 ≤ d.k) (hrun : 5 ≤ d.validRun) (hencoder : d.encoderRaised = false)
    (h : d.history[3]? = some (some before)) :
    d.speed (some now) = some (Int.tdiv (((before : Int) - now) * 10) 4) := by
  unfold Supervisor.speed
  rw [if_pos ⟨hk, hrun, hencoder⟩, back_four d h]

/-- A fall: the speed is the quotient of naturals. -/
theorem tdiv_of_fall (h : now ≤ before) :
    Int.tdiv (((before : Int) - now) * 10) 4 = (((before - now) * 10 / 4 : Nat) : Int) := by
  rw [← Int.ofNat_sub h]
  exact Int.ofNat_tdiv _ 4

/-- A rise: the quotient is truncated toward zero. -/
theorem tdiv_of_rise (h : before ≤ now) :
    Int.tdiv (((before : Int) - now) * 10) 4 = -(((now - before) * 10 / 4 : Nat) : Int) := by
  rw [← tdiv_of_fall h, ← Int.neg_tdiv, ← Int.neg_mul, Int.neg_sub]

end

/-! ### The overspeed run (R118) -/

section
variable {d : Supervisor} {c : CurtainSettings} {before now : Nat} {v : Int} {bottom : Bool}

/-- R118: the limit in force for a speed between two positions. -/
def Supervisor.speedLimit (d : Supervisor) (c : CurtainSettings) (before now : Nat) : Nat :=
  if d.motion = some .lowering ∨ (before < c.slowBoundary ∧ now < c.slowBoundary) then c.slowLimit else c.mainLimit

theorem limitInForce_eq : limitInForce c d.motion (speedZone c.slowBoundary before now) = d.speedLimit c before now := by
  unfold Supervisor.speedLimit speedZone
  by_cases hlowering : d.motion = some .lowering
  · simp [hlowering, limitInForce]
  · by_cases hslow : before < c.slowBoundary ∧ now < c.slowBoundary
    all_goals
      simp only [hlowering, hslow, if_true, if_false, or_true, or_false, and_self]
      unfold limitInForce
      split <;> simp_all

theorem judgeSpeed_eq (hback : d.back 4 = some before) :
    ∃ main slow, d.judgeSpeed c (some now) (some v) = { d with
      overspeedRun := if (d.speedLimit c before now : Int) < v then min 3 (d.overspeedRun + 1) else 0
      maxMain := main, maxSlow := slow } := by
  unfold Supervisor.judgeSpeed
  rw [hback]
  dsimp only
  rw [limitInForce_eq]
  cases speedZone c.slowBoundary before now with
  | main => exact ⟨_, d.maxSlow, rfl⟩
  | slow => exact ⟨d.maxMain, _, rfl⟩

theorem onTrace_eq (d : Supervisor) (f : Trace → Trace) : ∃ trace, d.onTrace f = { d with trace := trace } := by
  unfold Supervisor.onTrace
  split
  · exact ⟨_, rfl⟩
  · exact ⟨d.trace, rfl⟩

theorem raise_overspeed_eq (d : Supervisor) : ∃ trace, d.raise .overspeed = { d with
    overspeed := true, firstReason := some (d.firstReason.getD .overspeed), trace := trace } := by
  obtain ⟨trace, htrace⟩ := onTrace_eq { d.setFlag .overspeed with
    firstReason := some (d.firstReason.getD .overspeed) } fun t => { t with raisings := t.raisings.note d.k .overspeed }
  have hfirst : (d.firstReason.orElse fun _ => some .overspeed) = some (d.firstReason.getD .overspeed) := by
    cases d.firstReason <;> rfl
  refine ⟨trace, ?_⟩
  rw [← hfirst] at htrace ⊢
  exact htrace

theorem judgeOverspeed_within (hencoder : d.encoderRaised = false) (hback : d.back 4 = some before)
    (h : v ≤ d.speedLimit c before now) : ∃ main slow, d.judgeOverspeed c (some now) (some v) bottom =
      { d with overspeedRun := 0, maxMain := main, maxSlow := slow }.silent := by
  obtain ⟨main, slow, hspeed⟩ := judgeSpeed_eq (c := c) (now := now) (v := v) hback
  rw [if_neg (by omega)] at hspeed
  refine ⟨main, slow, ?_⟩
  unfold Supervisor.judgeOverspeed
  rw [if_neg (by simp [hencoder]), hspeed]
  rfl

/-- R118: the third fast sample raises OVERSPEED. -/
theorem judgeOverspeed_above (hencoder : d.encoderRaised = false) (hflag : d.overspeed = false)
    (hrun : d.overspeedRun = 2) (hback : d.back 4 = some before) (h : (d.speedLimit c before now : Int) < v) :
    ∃ main slow trace, d.judgeOverspeed c (some now) (some v) bottom =
      { supervisor := { d with
          overspeedRun := 3, maxMain := main, maxSlow := slow, overspeed := true
          firstReason := some (d.firstReason.getD .overspeed), trace := trace }
        notices := .raised .overspeed d.k (some now) (some v) :: d.stops (some now) bottom } := by
  obtain ⟨main, slow, hspeed⟩ := judgeSpeed_eq (c := c) (now := now) (v := v) hback
  rw [if_pos h, hrun] at hspeed
  obtain ⟨trace, hraised⟩ := raise_overspeed_eq { d with overspeedRun := 3, maxMain := main, maxSlow := slow }
  refine ⟨main, slow, trace, ?_⟩
  unfold Supervisor.judgeOverspeed
  rw [if_neg (by simp [hencoder]), hspeed]
  dsimp only
  rw [if_pos ⟨rfl, hflag⟩, Supervisor.raising]
  exact congrArg (Judged.mk · _) hraised

/-- R118, R120: a stop is handed in LOWERING alone, and not at a sample that meets completion. -/
theorem stops_eq (hencoder : d.encoderRaised = false) : d.stops (some now) bottom =
    if d.motion = some .lowering ∧ (bottom = false ∨ 20 < now) then [.stop] else [] := by
  unfold Supervisor.stops Supervisor.completes Config.bottomTolerance
  cases bottom <;> simp [hencoder]

end

/-! ### The notice at the controller (R104) -/

section
variable (s : State)

theorem takeRaised_curtain (reason : DescentReason) (k : Nat) (p : Option Nat) (v : Option Int) :
    (s.takeRaised reason k p v).curtain = s.curtain := by
  unfold State.takeRaised
  split
  · rfl
  · exact (raiseFault_move _ _ _).curtain

theorem takeRaised_descent (reason : DescentReason) (k : Nat) (p : Option Nat) (v : Option Int) :
    (s.takeRaised reason k p v).descent = s.descent := by
  unfold State.takeRaised
  split
  · rfl
  · exact (raiseFault_move _ _ _).descent

theorem takeRaised_stands (reason : DescentReason) (k : Nat) (p : Option Nat) (v : Option Int) :
    (s.takeRaised reason k p v).stands (reasonKey reason) = true := by
  unfold State.takeRaised
  split
  · assumption
  · exact raiseFault_stands _ _ _

variable {key : FaultKey} (hkey : key ≠ .limitMismatch)
include hkey

theorem settleMismatch_stands : s.settleMismatch.stands key = s.stands key := by
  unfold State.settleMismatch
  split
  · rfl
  · exact setMismatch_stands s _ _ hkey

theorem motionEnd_stands (reason : EndReason) : (s.motionEnd reason).stands key = s.stands key := by
  unfold State.motionEnd
  split
  · rfl
  · next motion _ =>
    have hverdict : (if motion = .testing then s.writeVerdict reason else s).stands key = s.stands key := by
      split <;> rfl
    generalize (if motion = .testing then s.writeVerdict reason else s) = t at hverdict ⊢
    dsimp only
    split
    · exact (settleMismatch_stands _ hkey).trans hverdict
    · exact hverdict

omit hkey in
theorem enterState_stands {state : CurtainState} (hstate : state ≠ .up) (detail : CurtainDetail) :
    (s.enterState state detail).stands key = s.stands key := by
  unfold State.enterState
  dsimp only
  rw [if_neg hstate]
  rfl

theorem stopMotion_stands (hquiet : s.standingTrigger = none) (reason : EndReason) :
    (s.stopMotion reason).stands key = s.stands key := by
  rw [stopMotion_of_quiet hquiet, enterState_stands _ (by decide), motionEnd_stands _ hkey]

end

section
variable (s : State) (d : Supervisor) (k : Nat) (p : Option Nat) (v : Option Int)

/-- The controller has taken the flag notice of OVERSPEED. -/
def State.overspeedTaken : State := ((s.withDescent d).takeRaised .overspeed k p v).holdGovernor

theorem overspeedTaken_curtain : (s.overspeedTaken d k p v).curtain = { s.curtain with
    output := outputSet s.curtain.state { d with governorHeld := d.governorHeld || d.zone == some .main } } := by
  unfold State.overspeedTaken State.holdGovernor State.command
  simp only [State.withDescent_curtain, State.withCurtain_curtain, State.withDescent_descent, takeRaised_curtain,
    takeRaised_descent]

theorem overspeedTaken_stands : (s.overspeedTaken d k p v).stands .overspeed = true := takeRaised_stands _ .overspeed _ _ _

theorem overspeedTaken_quiet (hquiet : s.standingTrigger = none) :
    (s.overspeedTaken d k p v).standingTrigger = none := by
  have hcourse : Course (fun _ => True) (s.withDescent d) (s.overspeedTaken d k p v) :=
    (takeRaised_course _ _ _ _ _).trans (holdGovernor_course _)
  exact hcourse.standingTrigger.trans hquiet

theorem settleMismatch_state : s.settleMismatch.curtain.state = s.curtain.state := by
  obtain ⟨standing, h⟩ := settleMismatch_curtain s
  rw [h]

theorem settleMismatch_output : s.settleMismatch.curtain.output = s.curtain.output := by
  obtain ⟨standing, h⟩ := settleMismatch_curtain s
  rw [h]

end

/-! ### The third fast sample at the controller (R94, R104) -/

section
variable (s : State) (j : Judged)

/-- A stop acts in LOWERING alone. -/
theorem foldl_stops {t : State} (h : t.curtain.state ≠ .lowering) (d : Supervisor) (p : Option Nat) (bottom : Bool) :
    (d.stops p bottom).foldl State.takeSampleNotice t = t := by
  unfold Supervisor.stops
  split
  · exact if_neg h
  · rfl

variable {s j} {d : Supervisor} {k : Nat} {p : Option Nat} {v : Option Int} {bottom : Bool}
  (hj : j.notices = .raised .overspeed k p v :: d.stops p bottom)
include hj

theorem takeJudged_overspeed : s.takeJudged j =
    ((d.stops p bottom).foldl State.takeSampleNotice (s.overspeedTaken j.supervisor k p v)).settleMismatch := by
  unfold State.takeJudged
  rw [hj]
  rfl

/-- R104: in TESTING and DESCENDING the descent goes on. -/
theorem takeJudged_goesOn (h : s.curtain.state ≠ .lowering) :
    s.takeJudged j = (s.overspeedTaken j.supervisor k p v).settleMismatch := by
  rw [takeJudged_overspeed hj, foldl_stops]
  rw [overspeedTaken_curtain]
  exact h

theorem takeJudged_goesOn_outcome (h : s.curtain.state = .testing ∨ s.curtain.state = .descending) :
    (s.takeJudged j).stands .overspeed = true ∧ (s.takeJudged j).curtain.state = s.curtain.state ∧
      (j.supervisor.overspeed = true → j.supervisor.zone = some .main →
        (s.takeJudged j).curtain.output = some ⟨false, some .slow, false⟩) := by
  rw [takeJudged_goesOn hj (by rcases h with h | h <;> simp [h]), settleMismatch_stands _ (by decide),
    settleMismatch_state, settleMismatch_output, overspeedTaken_curtain]
  refine ⟨overspeedTaken_stands _ _ _ _ _, rfl, fun hflag hmain => ?_⟩
  rcases h with h | h <;> simp [h, outputSet, hmain, hflag, Supervisor.governor]

/-- R104: in LOWERING the curtain stops, unless the sample meets completion. -/
theorem takeJudged_stops (hstate : s.curtain.state = .lowering) : s.takeJudged j =
    (if d.stops p bottom = [] then s.overspeedTaken j.supervisor k p v
      else (s.overspeedTaken j.supervisor k p v).stopMotion .supervisorStop).settleMismatch := by
  have hlowering : (s.overspeedTaken j.supervisor k p v).curtain.state = .lowering := by
    rw [overspeedTaken_curtain]
    exact hstate
  rw [takeJudged_overspeed hj]
  unfold Supervisor.stops
  split
  · exact congrArg State.settleMismatch (if_pos hlowering)
  · rfl

theorem takeJudged_stops_outcome (hstate : s.curtain.state = .lowering) (hquiet : s.standingTrigger = none) :
    (s.takeJudged j).stands .overspeed = true ∧
      (d.stops p bottom ≠ [] → (s.takeJudged j).curtain.state = .stopped ∧ (s.takeJudged j).descent.motion = none) ∧
      (d.stops p bottom = [] → (s.takeJudged j).curtain.state = .lowering) := by
  have hquiet' := overspeedTaken_quiet s j.supervisor k p v hquiet
  have htaken := overspeedTaken_stands s j.supervisor k p v
  rw [takeJudged_stops hj hstate, settleMismatch_stands _ (by decide), settleMismatch_state, settleMismatch_descent]
  refine ⟨?_, fun hstops => ?_, fun hstops => ?_⟩
  · split
    · exact htaken
    · rw [stopMotion_stands _ (by decide) hquiet', htaken]
  · rw [if_neg hstops]
    exact ⟨(stopMotion_held hquiet' _).state, stopMotion_motion hquiet' _⟩
  · rw [if_pos hstops, overspeedTaken_curtain]
    exact hstate

end

/-- Settles O45: the speed is one quotient in both directions; the third fast sample raises the flag, and its two notices
are taken in their order. -/
theorem threeFastSamplesRaiseOverspeed : Obligations.ThreeFastSamplesRaiseOverspeed := by
  refine ⟨fun d p => speed_unknown d, fun d before now hk hrun hencoder hhistory => ?_,
    fun s before now v bottom hencoder hflag hrun hhistory => ⟨fun hwithin => ?_, fun habove => ?_⟩⟩
  · refine ⟨_, speed_known d hk hrun hencoder hhistory, tdiv_of_fall, tdiv_of_rise, ?_, ?_⟩
    · rintro rfl
      rw [tdiv_of_fall (by omega), Nat.add_sub_cancel_left]
      rfl
    · rintro rfl
      rw [tdiv_of_rise (by omega), Nat.add_sub_cancel_left]
      rfl
  · obtain ⟨main, slow, hjudged⟩ := judgeOverspeed_within (bottom := bottom) hencoder (back_four _ hhistory) hwithin
    rw [hjudged]
    exact ⟨rfl, hflag, rfl⟩
  · obtain ⟨main, slow, trace, hjudged⟩ :=
      judgeOverspeed_above (bottom := bottom) hencoder hflag hrun (back_four _ hhistory) habove
    have hsupervisor := congrArg Judged.supervisor hjudged
    have hnotices := congrArg Judged.notices hjudged
    refine ⟨by rw [hsupervisor], by rw [hsupervisor], by rw [hsupervisor], fun hstate => ?_,
      fun hstate hmotion hquiet => ?_⟩
    · obtain ⟨hstands, hkept, hslow⟩ := takeJudged_goesOn_outcome hnotices hstate
      exact ⟨hstands, hkept, fun hmain => hslow (by rw [hsupervisor]) (by rw [hsupervisor]; exact hmain)⟩
    · have hstops := stops_eq (now := now) (bottom := bottom) hencoder
      obtain ⟨hstands, hstopped, hgoesOn⟩ := takeJudged_stops_outcome hnotices hstate hquiet
      refine ⟨hstands, fun h => hstopped ?_, fun hbottom hnow => hgoesOn ?_⟩
      · rw [hstops, if_pos ⟨hmotion, h⟩]
        exact List.cons_ne_nil _ _
      · rw [hstops, if_neg (by simp [hbottom, hnow])]

end Sys2Proof.Machine
end

section
/-!
A SAMPLE AND ITS TRACE (R113, R114, R122, R125, R126). What every stage of a sample keeps of it and in which order its
notices come (O44); the release of the trace (O47).
-/
namespace Sys2Proof.Machine

/-! ### What the stages keep of a sample (R122) -/

/-- The count, the history and the runs are kept, and so is the trace but for the raisings that its header notes. -/
structure Supervisor.SameSample (d e : Supervisor) : Prop where
  k : e.k = d.k := by rfl
  history : e.history = d.history := by rfl
  validRun : e.validRun = d.validRun := by rfl
  missingRun : e.missingRun = d.missingRun := by rfl
  ownsTrace : e.ownsTrace = d.ownsTrace := by rfl
  unowned : d.ownsTrace = false → e.trace = d.trace := by exact fun _ => rfl
  header : ∀ trace, d.trace = some trace → ∃ raisings, e.trace = some { trace with raisings := raisings } := by
    exact fun _ h => ⟨_, h⟩

theorem Supervisor.SameSample.trans {d e f : Supervisor} (h : d.SameSample e) (h' : e.SameSample f) :
    d.SameSample f where
  k := h'.k.trans h.k
  history := h'.history.trans h.history
  validRun := h'.validRun.trans h.validRun
  missingRun := h'.missingRun.trans h.missingRun
  ownsTrace := h'.ownsTrace.trans h.ownsTrace
  unowned hd := (h'.unowned (h.ownsTrace.trans hd)).trans (h.unowned hd)
  header trace htrace := by
    obtain ⟨_, he⟩ := h.header trace htrace
    obtain ⟨raisings, hf⟩ := h'.header _ he
    exact ⟨raisings, hf⟩

section
variable (d : Supervisor)

/-- R125: a raising is noted in the header of the own trace. -/
theorem noted_same (note : Raisings → Raisings) :
    d.SameSample (d.onTrace fun t => { t with raisings := note t.raisings }) := by
  unfold Supervisor.onTrace
  split
  · next howns => exact { unowned := by simp [howns], header := fun trace h => ⟨note trace.raisings, by simp [h]⟩ }
  · exact {}

theorem raise_same (reason : DescentReason) : d.SameSample (d.raise reason) := by
  have hflag : d.SameSample { d.setFlag reason with firstReason := d.firstReason.orElse fun _ => some reason } := by
    cases reason <;> exact {}
  exact hflag.trans (noted_same _ (·.note d.k reason))

theorem judgeSpeed_same (c : CurtainSettings) (p : Option Nat) (v : Option Int) : d.SameSample (d.judgeSpeed c p v) := by
  unfold Supervisor.judgeSpeed Supervisor.keepMaximum
  split
  · dsimp only
    split <;> exact {}
  · exact {}

end

/-! ### The order of the notices (R122) -/

def reasonRank : DescentReason → Nat
  | .encoderLost => 1
  | .overspeed => 4
  | .stall => 5
  | .overtime => 7

/-- The place of a notice among those of a sample; a mismatch and a stop have none. -/
def Notice.rank : Notice → Option Nat
  | .raised reason _ _ _ => some (reasonRank reason)
  | .cleared _ => some 1
  | .zone _ => some 3
  | .completion => some 6
  | .mismatch _ => none
  | .stop => none

/-- A stage that starts from the supervisor `d` keeps the sample, and its notices are at most one of each rank, in the
order of `ranks`. -/
structure Judged.StageOf (d : Supervisor) (ranks : List Nat) (j : Judged) : Prop where
  same : d.SameSample j.supervisor
  order : (j.notices.filterMap Notice.rank).Sublist ranks

section
variable {d e : Supervisor} {ranks : List Nat}

theorem silent_stage (h : d.SameSample e) : e.silent.StageOf d ranks := ⟨h, List.nil_sublist _⟩

theorem raising_stage (h : d.SameSample e) (reason : DescentReason) (p : Option Nat) (v : Option Int)
    {more : List Notice} (hmore : more.filterMap Notice.rank = []) :
    (e.raising reason p v more).StageOf d [reasonRank reason] where
  same := h.trans (raise_same e reason)
  order := by simp [Supervisor.raising, Notice.rank, hmore]

theorem andThen_stage {j : Judged} {stage : Supervisor → Judged} {later : List Nat} (hj : j.StageOf d ranks)
    (hstage : ∀ f, (stage f).StageOf f later) : (j.andThen stage).StageOf d (ranks ++ later) where
  same := hj.same.trans (hstage _).same
  order := by
    rw [Judged.andThen, List.filterMap_append]
    exact hj.order.append (hstage _).order

end

/-! ### The stages one by one (R115 to R121) -/

section
variable (d : Supervisor) (p : Option Nat) (v : Option Int) (bottom : Bool) (c : CurtainSettings)

/-- R115: the runs are those that the validation leaves. -/
theorem judgeEncoder_stage : (d.judgeEncoder p).StageOf (d.validate p) [1] := by
  unfold Supervisor.judgeEncoder
  dsimp only
  split
  · exact raising_stage (reason := .encoderLost) {} p none (by split <;> rfl)
  · split
    · exact ⟨{}, .refl _⟩
    · exact silent_stage {}

theorem judgeZone_stage (boundary : Nat) : (d.judgeZone boundary p).StageOf d [3] := by
  unfold Supervisor.judgeZone
  split
  · split
    · exact silent_stage {}
    · exact ⟨{}, .refl _⟩
  · exact silent_stage {}

theorem stops_unranked (e : Supervisor) : (e.stops p bottom).filterMap Notice.rank = [] := by
  unfold Supervisor.stops
  split <;> rfl

theorem judgeOverspeed_stage : (d.judgeOverspeed c p v bottom).StageOf d [4] := by
  unfold Supervisor.judgeOverspeed
  split
  · exact silent_stage {}
  · dsimp only
    split
    · exact raising_stage (judgeSpeed_same d c p v) .overspeed p v (stops_unranked p bottom d)
    · exact silent_stage (judgeSpeed_same d c p v)

theorem judgeStall_stage : (d.judgeStall p bottom).StageOf d [5] := by
  unfold Supervisor.judgeStall
  split
  · exact raising_stage {} .stall p none (stops_unranked p bottom d)
  · exact silent_stage {}

theorem judgeCompletion_stage : (d.judgeCompletion p bottom).StageOf d [6] := by
  have hmismatch : (if d.mismatchAfter p bottom = d.mismatch then []
      else [Notice.mismatch (d.mismatchAfter p bottom)]).filterMap Notice.rank = [] := by
    split <;> rfl
  unfold Supervisor.judgeCompletion
  cases d.completes p bottom && !d.completed with
  | true => exact ⟨{}, by simp [hmismatch, Notice.rank]⟩
  | false => exact ⟨{}, by simp [hmismatch]⟩

theorem judgeOvertime_stage (limit : Nat) (completedBefore : Bool) :
    (d.judgeOvertime limit completedBefore p).StageOf d [7] := by
  unfold Supervisor.judgeOvertime
  split
  · exact raising_stage {} .overtime p none rfl
  · exact silent_stage {}

/-- R122: a sample judged whole is the stages in their order, and then the trace entry and the history. -/
theorem judge_stages : ∃ (j : Judged) (v : Option Int), j.StageOf (d.validate p) [1, 3, 4, 5, 6, 7] ∧
    d.judge c p bottom = { j with supervisor := j.supervisor.record p v } := by
  have hzone := andThen_stage (judgeEncoder_stage d p) fun e => judgeZone_stage e p c.slowBoundary
  have hall (v : Option Int) := andThen_stage (andThen_stage (andThen_stage (andThen_stage hzone
    fun e => judgeOverspeed_stage e p v bottom c) fun e => judgeStall_stage e p bottom)
    fun e => judgeCompletion_stage e p bottom) fun e => judgeOvertime_stage e p c.descentLimit d.completed
  exact ⟨_, _, hall _, rfl⟩

/-! ### The trace entry and the history (R122, R125) -/

/-- R125: the entry that a sample adds to the trace of its motion, while its count is below the size. -/
def Trace.record (t : Trace) (k : Nat) (p : Option Nat) (v : Option Int) : Trace :=
  { t with samples := if k < 400 then t.samples ++ [⟨k, p, v⟩] else t.samples }

theorem record_eq : d.record p v = { d with
    history := (p :: d.history).take 20
    trace := if d.ownsTrace then d.trace.map (·.record d.k p v) else d.trace } := by
  unfold Supervisor.record Supervisor.onTrace Trace.record Config.traceSize
  by_cases hk : d.k < 400
  · by_cases howns : d.ownsTrace = true <;> simp [hk, howns]
  · simp [hk]

end

/-- R114: the runs after a sample. -/
theorem validate_eq (d : Supervisor) (p : Option Nat) : d.validate p = { d with
    validRun := if p.isSome then d.validRun + 1 else 0
    missingRun := if p.isSome then 0 else min 2 (d.missingRun + 1) } := by
  cases p <;> rfl

/-- Settles O44: every stage keeps the sample and hands its notices in its place, and the trace entry and the history come
last. -/
theorem sampleEntersHistoryAndTrace : Obligations.SampleEntersHistoryAndTrace := by
  intro c d reading bottom p k j order
  have hk : min 65535 (d.k + 1) = k := by
    change _ = if d.k < 65535 then d.k + 1 else 65535
    split <;> omega
  have hrank : order = Notice.rank := by
    funext n
    cases n with
    | raised reason => cases reason <;> rfl
    | _ => rfl
  have hmotion : j.supervisor.motion = d.motion := next_motion d bottom c reading
  obtain ⟨i, v, ⟨hsame, horder⟩, hj⟩ : ∃ (i : Judged) (v : Option Int),
      i.StageOf ({ d with k := k }.validate p) [1, 3, 4, 5, 6, 7] ∧
      j = { i with supervisor := i.supervisor.record p v } := by
    rw [← hk]
    exact judge_stages _ _ bottom c
  rw [validate_eq] at hsame
  rw [hj, record_eq] at hmotion ⊢
  refine ⟨hsame.k, congrArg (fun history => (p :: history).take 20) hsame.history, hmotion, fun hp => ?_, fun hp => ?_,
    fun trace howns htrace => ?_, fun howns => ?_, ?_⟩
  · have hsome := Option.isSome_iff_ne_none.mpr hp
    exact ⟨hsame.validRun.trans (if_pos hsome), hsame.missingRun.trans (if_pos hsome)⟩
  · have hnone : ¬p.isSome := by simp [hp]
    exact ⟨hsame.validRun.trans (if_neg hnone), hsame.missingRun.trans (if_neg hnone)⟩
  · obtain ⟨raisings, hheader⟩ := hsame.header trace htrace
    refine ⟨{ trace with raisings := raisings }.record k p v, v, ?_, rfl, rfl, rfl, rfl, rfl⟩
    simp only [hsame.ownsTrace, hsame.k, howns, hheader, if_true, Option.map_some]
  · simp only [hsame.ownsTrace, howns, Bool.false_eq_true, if_false]
    exact hsame.unowned howns
  · rw [hrank]
    exact List.Pairwise.sublist horder (by decide)

/-! ### RELEASE TRACE (R126) -/

section
variable {s : State}

theorem answers_releaseTrace (hs : s.attends) :
    answers .releaseTrace s (requestReleaseTrace s).1 (requestReleaseTrace s).2 :=
  answers_of_owner requestReleaseTrace hs rfl rfl ((requestReleaseTrace_move s).power (by decide))

theorem withDescent_trace_self {trace : Option Trace} (h : s.descent.trace = trace) :
    s.withDescent { s.descent with trace := trace } = s := by
  subst h
  rfl

theorem requestReleaseTrace_empty (h : s.descent.trace = none) : requestReleaseTrace s = (s, { code := .accepted }) := by
  rw [requestReleaseTrace, h]
  exact congrArg (·, _) (withDescent_trace_self h)

theorem requestReleaseTrace_unheld {trace : Trace} (h : s.descent.trace = some trace) (hheld : trace.held = false) :
    requestReleaseTrace s = (s, { code := .accepted }) := by
  have hsame : { trace with held := false } = trace := by rw [← hheld]
  rw [requestReleaseTrace, h]
  dsimp only [Option.map_some]
  rw [hsame, hheld, withDescent_trace_self h]
  rfl

theorem requestReleaseTrace_held {trace : Trace} (h : s.descent.trace = some trace) (hheld : trace.held = true) :
    requestReleaseTrace s =
      ((s.withDescent { s.descent with trace := some { trace with held := false } }).log .traceReleased,
        { code := .accepted }) := by
  rw [requestReleaseTrace, h]
  dsimp only [Option.map_some]
  rw [hheld]
  rfl

end

/-- Settles O47: the held flag is cleared, with its log entry where it was set. -/
theorem releaseTraceClearsTheHeldFlag : Obligations.ReleaseTraceClearsTheHeldFlag := by
  intro s hs
  have hanswers := answers_releaseTrace hs
  refine ⟨?_, fun trace h hheld => ?_⟩
  · rintro (h | ⟨trace, h, hheld⟩)
    · rwa [requestReleaseTrace_empty h] at hanswers
    · rwa [requestReleaseTrace_unheld h hheld] at hanswers
  · rwa [requestReleaseTrace_held h hheld] at hanswers

end Sys2Proof.Machine
end

section
/-!
FADES AND TARGETS (R135, R136, R138, R139, R141). The step of a fade with its rounding and the output update (O48); the
targets of a recomputed group and the fades that they start (O50).
-/
namespace Sys2Proof.Machine

/-! ### The rounded share of a fade (R139) -/

section
variable {a n steps : Nat}

/-- Twice the share lies within one step's share of the exact value, below or at the half above it. -/
theorem roundedShare_nearest (hsteps : 0 < steps) : 2 * a * n < 2 * steps * roundedShare a n steps + steps ∧
    2 * steps * roundedShare a n steps ≤ 2 * a * n + steps := by
  have hdivision := Nat.div_add_mod (2 * a * n + steps) (2 * steps)
  have hremainder := Nat.mod_lt (2 * a * n + steps) (show 0 < 2 * steps by omega)
  change 2 * steps * roundedShare a n steps + _ = _ at hdivision
  omega

theorem roundedShare_last (hsteps : 0 < steps) : roundedShare a steps steps = a := by
  have hsum : 2 * a * steps + steps = steps + 2 * steps * a := by ring
  rw [roundedShare, hsum, Nat.add_mul_div_left _ _ (by omega), Nat.div_eq_of_lt (by omega), Nat.zero_add]

theorem roundedShare_le (hsteps : 0 < steps) (hn : n ≤ steps) : roundedShare a n steps ≤ a :=
  calc roundedShare a n steps
      ≤ roundedShare a steps steps :=
        Nat.div_le_div_right (Nat.add_le_add_right (Nat.mul_le_mul_left _ hn) _)
    _ = a := roundedShare_last hsteps

end

/-! ### The level of a fade (R139) -/

section
variable {start target n steps : Nat}

theorem fadeLevel_up (h : start ≤ target) :
    fadeLevel start target n steps = start + roundedShare (target - start) n steps := if_pos h

theorem fadeLevel_down (h : target < start) :
    fadeLevel start target n steps = start - roundedShare (start - target) n steps := if_neg h.not_ge

theorem fadeLevel_level (level : Nat) (hsteps : 0 < steps) (hn : n ≤ steps) :
    fadeLevel level level n steps = level := by
  have hshare : roundedShare (level - level) n steps ≤ level - level := roundedShare_le hsteps hn
  rw [fadeLevel_up le_rfl]
  omega

/-- The level is the start moved towards the target by the nearest whole number to its share of the way. -/
theorem fadeLevel_moves (hsteps : 0 < steps) (hn : n ≤ steps) : ∃ moved,
    (start ≤ target → fadeLevel start target n steps = start + moved ∧
      2 * (target - start) * n < 2 * steps * moved + steps ∧ 2 * steps * moved ≤ 2 * (target - start) * n + steps) ∧
    (target ≤ start → fadeLevel start target n steps + moved = start ∧
      2 * (start - target) * n < 2 * steps * moved + steps ∧ 2 * steps * moved ≤ 2 * (start - target) * n + steps) := by
  rcases Nat.lt_trichotomy start target with h | rfl | h
  · exact ⟨_, fun _ => ⟨fadeLevel_up h.le, roundedShare_nearest hsteps⟩, fun hdown => absurd h hdown.not_gt⟩
  · have hlevel : fadeLevel start start n steps = start := fadeLevel_level start hsteps hn
    refine ⟨0, fun _ => ⟨hlevel, ?_⟩, fun _ => ⟨hlevel, ?_⟩⟩ <;> simp [hsteps]
  · have hshare : roundedShare (start - target) n steps ≤ start - target := roundedShare_le hsteps hn
    refine ⟨_, fun hup => absurd h hup.not_gt, fun _ => ⟨?_, roundedShare_nearest hsteps⟩⟩
    rw [fadeLevel_down h]
    omega

theorem fadeLevel_between (hsteps : 0 < steps) (hn : n ≤ steps) :
    min start target ≤ fadeLevel start target n steps ∧ fadeLevel start target n steps ≤ max start target := by
  rcases Nat.lt_or_ge target start with h | h
  · have hshare : roundedShare (start - target) n steps ≤ start - target := roundedShare_le hsteps hn
    rw [fadeLevel_down h]
    omega
  · have hshare : roundedShare (target - start) n steps ≤ target - start := roundedShare_le hsteps hn
    rw [fadeLevel_up h]
    omega

theorem fadeLevel_last (hsteps : 0 < steps) : fadeLevel start target steps steps = target := by
  rcases Nat.lt_or_ge target start with h | h
  · rw [fadeLevel_down h, roundedShare_last hsteps]
    omega
  · rw [fadeLevel_up h, roundedShare_last hsteps]
    omega

end

/-! ### An output update (R139) -/

theorem update_resting {g : LightGroup} (h : g.fading = false ∨ g.target = none) : g.update = g := by
  unfold LightGroup.update
  split
  · next hfading htarget => simp [hfading, htarget] at h
  · rfl

theorem update_fading {g : LightGroup} {target : Nat} (hfading : g.fading = true) (htarget : g.target = some target) :
    g.update = { g with
      step := g.step + 1
      fading := decide (g.step + 1 < g.steps)
      output := fadeLevel g.start target (g.step + 1) g.steps } := by
  unfold LightGroup.update
  rw [hfading, htarget]

/-- The state after the clock has come to the next output update and every group has taken it. -/
def State.outputUpdated (s : State) : State :=
  let t := s.advanceTo (s.clock.outputAt + 20)
  (t.withClock { t.clock with outputAt := t.clock.now }).withGroups (s.lights.groups.map LightGroup.update)

section
variable {s : State}

theorem completes_outputUpdate (hs : s.power.running = true) : completes .outputUpdate s s.outputUpdated := if_pos hs

theorem outputUpdated_clock : s.outputUpdated.clock = { s.clock with
    now := max s.clock.now (s.clock.outputAt + 20), outputAt := max s.clock.now (s.clock.outputAt + 20) } := by
  change { (s.advanceTo (s.clock.outputAt + 20)).clock with
    outputAt := (s.advanceTo (s.clock.outputAt + 20)).clock.now } = _
  rw [advanceTo_clock]

theorem outputUpdated_frame : s.outputUpdated =
    ((s.withClock s.outputUpdated.clock).withLines s.outputUpdated.lines).withGroups s.outputUpdated.lights.groups := by
  unfold State.outputUpdated
  rw [advanceTo_eq]
  rfl

theorem outputUpdated_groups : s.outputUpdated.lights.groups = s.lights.groups.map LightGroup.update := rfl

end

/-- Settles O48: the update of a group by whether it fades, and the level of a fade by its rounded share. -/
theorem outputUpdateStepsEveryFade : Obligations.OutputUpdateStepsEveryFade := by
  refine ⟨fun s hs => ⟨s.outputUpdated, completes_outputUpdate hs, outputUpdated_clock, outputUpdated_frame,
    List.length_map _, fun i g hg => ⟨g.update, ?_, update_resting, fun _ => update_fading⟩⟩,
    fun start target n steps hsteps hn => ?_⟩
  · rw [outputUpdated_groups, List.getElem?_map, hg, Option.map_some]
  · obtain ⟨hlow, hhigh⟩ := fadeLevel_between (start := start) (target := target) hsteps hn
    exact ⟨fadeLevel_moves hsteps hn, hlow, hhigh, fadeLevel_last hsteps⟩

/-! ### A target and its fade (R138) -/

section
variable {g : LightGroup} {target fade : Nat}

theorem retarget_target (g : LightGroup) (target fade : Nat) : (g.retarget target fade).target = some target := by
  unfold LightGroup.retarget
  split
  · assumption
  · split <;> rfl

theorem retarget_standing (h : g.target = some target) : g.retarget target fade = g := if_pos h

theorem retarget_at_once (h : g.target ≠ some target) (hfade : fade = 0) : g.retarget target fade = { g with
    target := some target, start := g.output, steps := 0, step := 0, output := target, fading := false } :=
  (if_neg h).trans (if_pos hfade)

theorem retarget_over_fade (h : g.target ≠ some target) (hfade : 0 < fade) : g.retarget target fade = { g with
    target := some target, start := g.output, steps := fade * 5, step := 0, fading := true } :=
  (if_neg h).trans (if_neg hfade.ne')

/-- Whatever was computed of base, floor and cap, an unchanged target leaves the fade, and a changed one starts a fade
from the output. -/
theorem retarget_starts (g : LightGroup) (mix : Option Mix) (target fade : Nat) :
    let g' := { g with mix := mix }.retarget target fade
    (g.target = some target → g'.output = g.output ∧ g'.fading = g.fading ∧ g'.step = g.step) ∧
      (g.target ≠ some target →
        (fade = 0 → g'.output = target ∧ g'.fading = false) ∧
        (0 < fade → g'.output = g.output ∧ g'.fading = true ∧ g'.start = g.output ∧ g'.step = 0 ∧
          g'.steps = 5 * fade)) := by
  refine ⟨fun h => ?_, fun h => ⟨fun hfade => ?_, fun hfade => ?_⟩⟩
  · rw [retarget_standing (g := { g with mix := mix }) h]
    exact ⟨rfl, rfl, rfl⟩
  · rw [retarget_at_once (g := { g with mix := mix }) h hfade]
    exact ⟨rfl, rfl⟩
  · rw [retarget_over_fade (g := { g with mix := mix }) h hfade]
    exact ⟨rfl, rfl, rfl, rfl, Nat.mul_comm _ _⟩

end

/-! ### Base, floor and cap (R135) -/

theorem foldl_max_greatest (x : Nat) (xs : List Nat) :
    xs.foldl max x ∈ x :: xs ∧ ∀ y ∈ x :: xs, y ≤ xs.foldl max x :=
  List.max?_eq_some_iff.mp List.max?_cons'

theorem foldl_min_least (x : Nat) (xs : List Nat) :
    xs.foldl min x ∈ x :: xs ∧ ∀ y ∈ x :: xs, xs.foldl min x ≤ y :=
  List.min?_eq_some_iff.mp List.min?_cons'

section
variable (s : State) (n : Nat) {g : LightGroup}

theorem mix_base_preset (h : g.precedence = []) : (s.mix n g).base = (s.phasePreset n).level := by
  rw [State.mix, h]
  rfl

theorem mix_base_claim {ref : ClaimRef} {claim : Claim} (hhead : g.precedence.head? = some ref)
    (hclaim : s.lights.claimOf ref = some claim) : (s.mix n g).base = claim.level := by
  rw [State.mix, hhead, Option.bind_some, hclaim]

theorem mix_floor (g : LightGroup) : (s.mix n g).floor ∈ s.holdFloor n :: s.lights.levels .floor n ∧
    ∀ level ∈ s.holdFloor n :: s.lights.levels .floor n, level ≤ (s.mix n g).floor :=
  foldl_max_greatest _ _

theorem mix_cap (g : LightGroup) : (s.mix n g).cap ∈ 255 :: s.lights.levels .cap n ∧
    ∀ level ∈ 255 :: s.lights.levels .cap n, (s.mix n g).cap ≤ level :=
  foldl_min_least _ _

/-! ### A recomputed group (R135, R136) -/

variable {s n} {fade : Nat → Nat}

theorem recomputeGroup_evacuate (h : s.alarm.stage = .evacuate) : s.recomputeGroup fade n g = g.retarget 255 (fade n) :=
  if_pos h

theorem recomputeGroup_mixed (h : s.alarm.stage ≠ .evacuate) : s.recomputeGroup fade n g =
    { g with mix := some (s.mix n g) }.retarget (s.mix n g).target (fade n) :=
  if_neg h

theorem recomputeAll_group {i : Nat} (hg : s.lights.groups[i]? = some g) :
    (s.recomputeAll fade).lights.groups[i]? = some (s.recomputeGroup fade (i + 1) g) := by
  change ((numbered s.lights.groups).map _)[i]? = _
  simp only [numbered, List.getElem?_map, List.getElem?_zipIdx, hg, Option.map_some, Nat.zero_add]

end

/-- Settles O50: the target is 255 in EVACUATE and the mix of R135 else, and its fade starts alike in both. -/
theorem targetsFollowBaseFloorAndCap : Obligations.TargetsFollowBaseFloorAndCap := by
  intro s fade i g hg
  have hgroup := recomputeAll_group (fade := fade) hg
  by_cases hstage : s.alarm.stage = .evacuate
  · rw [recomputeGroup_evacuate hstage] at hgroup
    exact ⟨_, 255, hgroup, retarget_target _ _ _, fun _ => rfl, fun h => absurd hstage h,
      retarget_starts g g.mix 255 _⟩
  · rw [recomputeGroup_mixed hstage] at hgroup
    obtain ⟨hfloor, hgreatest⟩ := mix_floor s (i + 1) g
    obtain ⟨hcap, hleast⟩ := mix_cap s (i + 1) g
    refine ⟨_, _, hgroup, retarget_target _ _ _, fun h => absurd h hstage, fun _ => ?_, retarget_starts g _ _ _⟩
    exact ⟨_, _, _, rfl, mix_base_preset s _, fun _ _ => mix_base_claim s _,
      hgreatest _ List.mem_cons_self, fun x hx => hgreatest x (List.mem_cons_of_mem _ hx), List.mem_cons.mp hfloor,
      hleast _ List.mem_cons_self, fun x hx => hleast x (List.mem_cons_of_mem _ hx), List.mem_cons.mp hcap⟩

end Sys2Proof.Machine
end

section
/-!
OWN LIGHT CLAIMS (R129, R130, R132). The own claim list after LIGHT CLAIM SET and LIGHT CLAIM CLEAR, and the own claims in
the view of the own mixer (O49).
-/
namespace Sys2Proof.Machine

/-! ### The claims of one claimant in the view (R132) -/

/-- Of entries made from keys, the one with a given key is the one made from it. -/
theorem find?_filterMap_of_key {α β : Type} {make : α → Option β} {isOfKey : β → Bool} {key : α} {keys : List α}
    (hkey : ∀ k x, make k = some x → isOfKey x = true → k = key) (hmade : ∀ x, make key = some x → isOfKey x = true)
    (hmem : key ∈ keys) : (keys.filterMap make).find? isOfKey = make key := by
  cases hfound : (keys.filterMap make).find? isOfKey with
  | none =>
    refine (Option.eq_none_iff_forall_ne_some.mpr fun x hx => ?_).symm
    exact List.find?_eq_none.mp hfound x (List.mem_filterMap.mpr ⟨key, hmem, hx⟩) (hmade x hx)
  | some x =>
    obtain ⟨k, _, hk⟩ := List.mem_filterMap.mp (List.mem_of_find?_eq_some hfound)
    rw [← hkey k x hk (List.find?_some hfound), hk]

theorem takeClaims_claimOf (l : Lights) (station : Nat) (claims : List ClaimEntry) {slot : Nat} (hlow : 1 ≤ slot)
    (hhigh : slot ≤ 8) :
    (l.takeClaims station claims).claimOf ⟨station, slot⟩ = (claims.find? (·.slot == slot)).map (·.claim) := by
  have hothers : (l.view.filter (·.station != station)).find?
      (fun v => v.station == station && v.slot == slot) = none :=
    List.find?_eq_none.mpr fun v hv => by simp [bne_iff_ne.mp (List.mem_filter.mp hv).2]
  have hslot : slot ∈ List.range' 1 8 := by
    rw [List.mem_range'_1]
    omega
  rw [Lights.claimOf]
  dsimp only [Lights.takeClaims, viewAfter]
  rw [List.find?_append, hothers, Option.none_or, find?_filterMap_of_key (key := slot) ?_ ?_ hslot, Option.map_map]
  · rfl
  · intro k v hv hmatch
    obtain ⟨c, _, rfl⟩ := Option.map_eq_some_iff.mp hv
    simpa using hmatch
  · intro v hv
    obtain ⟨c, _, rfl⟩ := Option.map_eq_some_iff.mp hv
    simp

/-! ### The own claim list (R129, R130) -/

section
variable {s : State}

theorem recomputeTargets_frame (fade : Nat → Nat) :
    s.recomputeTargets fade = s.withGroups (s.recomputeTargets fade).lights.groups := by
  unfold State.recomputeTargets
  split <;> rfl

section
variable (station : Nat) (claims : List ClaimEntry) (fade : List ClaimChange → Nat → Nat)

theorem changeClaims_frame :
    s.changeClaims station claims fade = s.withLights (s.changeClaims station claims fade).lights := by
  unfold State.changeClaims
  split
  · dsimp only
    rw [recomputeTargets_frame]
    rfl
  · rfl

theorem changeClaims_claims : (s.changeClaims station claims fade).lights.claims = s.lights.claims := by
  unfold State.changeClaims
  split
  · dsimp only
    rw [recomputeTargets_frame]
    rfl
  · rfl

theorem changeClaims_claimOf (h : s.roles.lights = true) {slot : Nat} (hlow : 1 ≤ slot) (hhigh : slot ≤ 8) :
    (s.changeClaims station claims fade).lights.claimOf ⟨station, slot⟩ =
      (claims.find? (·.slot == slot)).map (·.claim) := by
  rw [State.changeClaims, if_pos h, recomputeTargets_frame]
  exact takeClaims_claimOf _ station claims hlow hhigh

end

section
variable (claims : List ClaimEntry)

theorem setOwnClaims_claims : (s.setOwnClaims claims).lights.claims = claims := changeClaims_claims _ _ _

theorem setOwnClaims_frame : s.setOwnClaims claims = (s.withLights (s.setOwnClaims claims).lights).mark := by
  conv_lhs => rw [State.setOwnClaims, changeClaims_frame]
  rfl

theorem setOwnClaims_elsewhere (h : s.roles.lights = false) :
    s.setOwnClaims claims = (s.withLights { s.lights with claims := claims }).mark :=
  if_neg (Bool.eq_false_iff.mp h)

theorem setOwnClaims_claimOf (h : s.roles.lights = true) {slot : Nat} (hlow : 1 ≤ slot) (hhigh : slot ≤ 8) :
    (s.setOwnClaims claims).lights.claimOf ⟨s.own, slot⟩ = (claims.find? (·.slot == slot)).map (·.claim) :=
  changeClaims_claimOf (s := (s.withLights { s.lights with claims := claims }).mark) s.own claims _ h hlow hhigh

end

/-! ### The requests (R129, R130) -/

theorem answers_lightClaimSet (hs : s.attends) (slot group : Nat) (kind : Option ClaimKind) (level : Byte) (fade : Nat) :
    answers (.lightClaimSet slot group kind level fade) s (setClaim s slot group kind level.toNat fade).1
      (setClaim s slot group kind level.toNat fade).2 :=
  answers_of_owner (setClaim · slot group kind level.toNat fade) hs rfl rfl
    ((setClaim_move s slot group kind level.toNat fade).power (by decide))

theorem answers_lightClaimClear (hs : s.attends) (selection : SlotSelection) :
    answers (.lightClaimClear selection) s (clearClaims s selection).1 (clearClaims s selection).2 :=
  answers_of_owner (clearClaims · selection) hs rfl rfl ((clearClaims_move s selection).power (by decide))

variable (hdesk : s.roles.desk = true) (hlights : s.authorities.lights = true)
include hdesk hlights

/-- A request of good form by a desk with authority: a claim that stands in its slot is left, another one put there. -/
theorem setClaim_eq {slot group : Nat} (kind : ClaimKind) (level fade : Nat) (hslot : 1 ≤ slot ∧ slot ≤ 8)
    (hgroup : 1 ≤ group ∧ group ≤ 16) :
    setClaim s slot group (some kind) level fade =
      let entry : ClaimEntry := ⟨slot, ⟨group, kind, level, min 600 fade⟩⟩
      (if entry ∈ s.lights.claims then s else s.setOwnClaims (putClaim s.lights.claims entry),
        { code := if 600 < fade then .clamped else .accepted }) := by
  have hform : decide (1 ≤ slot ∧ slot ≤ 8 ∧ 1 ≤ group ∧ group ≤ 16) = true := by simp [hslot, hgroup]
  simp only [setClaim, hdesk, hlights, hform, Bool.and_self, Bool.not_true, Bool.false_eq_true, if_false,
    Nat.min_comm fade 600, List.contains_iff_mem]
  split <;> rfl

theorem clearClaims_slot {slot : Nat} (hlow : 1 ≤ slot) (hhigh : slot ≤ 8) :
    clearClaims s (.slot slot) =
      if ∃ x ∈ s.lights.claims, x.slot = slot then
        (s.setOwnClaims (s.lights.claims.filter (·.slot ≠ slot)), { code := .accepted })
      else (s, { code := .refusedState .notSet }) := by
  have hany : s.lights.claims.any (·.slot == slot) = true ↔ ∃ x ∈ s.lights.claims, x.slot = slot := by simp
  have hkeep : s.lights.claims.filter (·.slot != slot) = s.lights.claims.filter (·.slot ≠ slot) :=
    List.filter_congr fun x _ => by rw [Bool.eq_iff_iff]; simp
  simp only [clearClaims, hdesk, hlights, hlow, hhigh, hany, hkeep, and_self, decide_true, Bool.and_self, Bool.not_true,
    Bool.false_eq_true, if_false]

theorem clearClaims_all : clearClaims s .all =
    (if s.lights.claims = [] then s else s.setOwnClaims [], { code := .accepted }) := by
  simp only [clearClaims, hdesk, hlights, Bool.and_self, Bool.not_true, Bool.false_eq_true, if_false,
    List.isEmpty_iff]
  split <;> rfl

end

/-- Settles O49: each request by whether the claim or the slot stands, and the own claim list after a change of it. -/
theorem lightClaimsFillAndLeaveTheirSlots : Obligations.LightClaimsFillAndLeaveTheirSlots := by
  intro s hs hdesk hlights changed
  have hchanged (claims : List ClaimEntry) : changed (s.setOwnClaims claims) claims :=
    ⟨setOwnClaims_claims claims, setOwnClaims_frame claims, setOwnClaims_elsewhere claims,
      fun h _ => setOwnClaims_claimOf claims h⟩
  refine ⟨fun slot group kind level fade hslot hslot' hgroup hgroup' => ?_, fun slot hlow hhigh => ?_, fun h => ?_,
    fun h => ?_⟩
  · have hanswers := answers_lightClaimSet hs slot group (some kind) level fade
    rw [setClaim_eq hdesk hlights kind _ fade ⟨hslot, hslot'⟩ ⟨hgroup, hgroup'⟩] at hanswers
    dsimp only at hanswers
    refine ⟨fun h => ?_, fun h => ⟨_, ?_, hchanged _⟩⟩
    · rwa [if_pos h] at hanswers
    · rwa [if_neg h] at hanswers
  · have hanswers := answers_lightClaimClear hs (.slot slot)
    rw [clearClaims_slot hdesk hlights hlow hhigh] at hanswers
    refine ⟨fun h => ?_, fun h => ⟨_, ?_, hchanged _⟩⟩
    · rwa [if_neg (by simpa using h)] at hanswers
    · rwa [if_pos h] at hanswers
  · have hanswers := answers_lightClaimClear hs .all
    rwa [clearClaims_all hdesk hlights, if_pos h] at hanswers
  · have hanswers := answers_lightClaimClear hs .all
    rw [clearClaims_all hdesk hlights, if_neg h] at hanswers
    exact ⟨_, hanswers, hchanged []⟩

end Sys2Proof.Machine
end

section
/-!
THE CALL SEQUENCER'S OWN CHANGES (R145 to R156). Each operation of the Call Sequencer changes the calls, the bays and the
panel alone, leaves the own request list, and keeps the queue within its 16 entries.
-/
namespace Sys2Proof.Machine

/-! ### The relation -/

/-- From `s` to `t` the Call Sequencer has acted: elsewhere nothing has changed, the own request list stands (R146), and a
queue within its bound is within it still (R145). -/
structure Sequenced (s t : State) : Prop where
  frame : t = ((s.withCalls t.calls).withBays t.bays).withPanel t.panel
  requests : t.calls.requests = s.calls.requests
  bounded : s.calls.queueBounded → t.calls.queueBounded

namespace Sequenced

variable {s t u : State}

theorem refl (s : State) : Sequenced s s := ⟨rfl, rfl, id⟩

theorem trans (h : Sequenced s t) (h' : Sequenced t u) : Sequenced s u :=
  ⟨h'.frame.trans (by rw [h.frame]; rfl), h'.requests.trans h.requests, h'.bounded ∘ h.bounded⟩

theorem ite {c : Prop} [Decidable c] (h : Sequenced s t) (h' : Sequenced s u) : Sequenced s (if c then t else u) := by
  split <;> assumption

theorem foldl {α : Type} {f : State → α → State} (h : ∀ t x, Sequenced t (f t x)) (xs : List α) (s : State) :
    Sequenced s (xs.foldl f s) := by
  induction xs generalizing s with
  | nil => exact refl s
  | cons x xs ih => exact (h s x).trans (ih _)

theorem log (s : State) (e : LogEvent) : Sequenced s (s.log e) := ⟨rfl, rfl, id⟩

theorem logIf (s : State) (b : Bool) (e : LogEvent) : Sequenced s (s.logIf b e) := .ite (.log s e) (.refl s)

theorem bay (s : State) (b : Bay) (x : BayRecord) : Sequenced s (s.withBay b x) := ⟨rfl, rfl, id⟩

/-- A change of the calls beside the queue and the request list. -/
theorem calls (s : State) (x : Calls) (hqueue : x.queue = s.calls.queue := by rfl)
    (hrequests : x.requests = s.calls.requests := by rfl) : Sequenced s (s.withCalls x) :=
  ⟨rfl, hrequests, fun h => (congrArg List.length hqueue).trans_le h⟩

/-- The same, with the entry of the log that names it. -/
theorem callsLog (s : State) (x : Calls) (e : LogEvent) (hqueue : x.queue = s.calls.queue := by rfl)
    (hrequests : x.requests = s.calls.requests := by rfl) : Sequenced s ((s.withCalls x).log e) :=
  (calls s x hqueue hrequests).trans (.log _ e)

/-- A queue put in place that is within the bound. -/
theorem queued (h : Sequenced s t) {queue : List QueueEntry} (hqueue : s.calls.queueBounded → queue.length ≤ 16) :
    Sequenced s (t.withQueue queue) :=
  ⟨by conv_lhs => rw [h.frame]
      rfl, h.requests, hqueue⟩

/-- Entries leave the queue. -/
theorem shortened (s : State) {queue : List QueueEntry} (h : queue.length ≤ s.calls.queue.length) :
    Sequenced s (s.withQueue queue) :=
  (refl s).queued h.trans

end Sequenced

section
variable (s : State)

/-! ### Modules and the drain flag (R152, R168) -/

theorem playOn_sequenced (set : PerBay Bool) (message : Nat) (zones : List Nat) :
    Sequenced s (s.playOn set message zones) :=
  .foldl (fun t _ => .ite (.bay t _ _) (.refl t)) _ _

theorem stopOn_sequenced (set : PerBay Bool) : Sequenced s (s.stopOn set) :=
  .foldl (fun t _ => .ite (.bay t _ _) (.refl t)) _ _

theorem setCurrent_sequenced (call : CurrentCall) (outstanding : PerBay Bool) :
    Sequenced s (s.setCurrent call outstanding) := .calls s _

theorem stopCurrent_sequenced : Sequenced s s.stopCurrent := (stopOn_sequenced s _).trans (setCurrent_sequenced _ _ _)

/-- A play begins on a set of bays and is the current call. -/
theorem play_sequenced (set : PerBay Bool) (message : Nat) (zones : List Nat) (call : CurrentCall)
    (outstanding : PerBay Bool) : Sequenced s ((s.playOn set message zones).setCurrent call outstanding) :=
  (playOn_sequenced s _ _ _).trans (setCurrent_sequenced _ _ _)

theorem drainOnJoin_sequenced : Sequenced s s.drainOnJoin := .ite (.callsLog s _ _) (.refl s)

theorem drainOnLeave_sequenced : Sequenced s s.drainOnLeave := .ite (.callsLog s _ _) (.refl s)

/-! ### Offers and the start test (R148, R150) -/

/-- R148: an entry joins where the queue holds fewer than 16. -/
theorem enqueue_sequenced (message : Nat) (zones : List Nat) (repeats source : Nat) (cls : CallClass) :
    Sequenced s (s.enqueue message zones repeats source cls) := by
  unfold State.enqueue
  refine .ite (.refl s) ?_
  split
  · exact (Sequenced.shortened s (List.length_map _).le).trans <| (Sequenced.calls _ _).trans (.logIf _ _ _)
  · split
    · exact .callsLog s _ _
    · next hroom =>
      refine ((Sequenced.refl s).queued fun _ => ?_).trans (drainOnJoin_sequenced _)
      rw [List.length_append]
      exact not_le.mp hroom

/-- The head leaves the queue, and the drain flag follows (R152). -/
theorem headLeaves_sequenced {e : QueueEntry} {rest : List QueueEntry} (h : s.calls.queue = e :: rest) :
    Sequenced s (s.withQueue rest).drainOnLeave :=
  (Sequenced.shortened s (by simp [h])).trans (drainOnLeave_sequenced _)

theorem startTestUpTo_sequenced (n : Nat) : Sequenced s (startTestUpTo n s) := by
  induction n generalizing s with
  | zero => exact .refl s
  | succ n ih =>
    unfold startTestUpTo
    refine .ite ?_ (.refl s)
    split
    · exact .refl s
    · next e rest hqueue =>
      have hleft := headLeaves_sequenced s hqueue
      exact .ite (hleft.trans ((Sequenced.callsLog _ _ _).trans (ih _)))
        (.ite (hleft.trans (play_sequenced _ _ _ _ _ _)) (hleft.trans ((Sequenced.log _ _).trans (ih _))))

theorem startTest_sequenced : Sequenced s s.startTest := startTestUpTo_sequenced s _

theorem offer_sequenced (message : Nat) (zones : List Nat) (repeats source : Nat) (cls : CallClass) :
    Sequenced s (s.offer message zones repeats source cls) :=
  .ite ((enqueue_sequenced s _ _ _ _ _).trans (startTest_sequenced _)) (.refl s)

/-! ### Standing calls (R153) -/

theorem startEvacuation_sequenced : Sequenced s s.startEvacuation := .ite (play_sequenced s _ _ _ _ _) (.refl s)

theorem startStaff_sequenced : Sequenced s s.startStaff := by
  have htimer : Sequenced s (s.withCalls { s.calls with staffRepeat := some (s.clock.now + Config.staffMs) }) :=
    .calls s _
  exact .ite (htimer.trans ((play_sequenced _ _ _ _ _ _).trans (.calls _ _))) htimer

theorem startStanding_sequenced : Sequenced s s.startStanding :=
  .ite (.ite (.ite (.refl s) (startEvacuation_sequenced s)) (.ite (startStaff_sequenced s) (.refl s))) (.refl s)

/-! ### Preemption (R154) -/

/-- R154: at a full queue the tail entry is dropped before the preempted one returns. -/
def State.makeRoom (s : State) : State :=
  match s.calls.queue.getLast?, decide (Config.queueSize ≤ s.calls.queue.length) with
  | some tail, true =>
    (((s.withQueue s.calls.queue.dropLast).countDroppedFull).log (.queueFull tail.message tail.source)).drainOnLeave
  | _, _ => s

theorem drainOnLeave_queue : s.drainOnLeave.calls.queue = s.calls.queue := by
  unfold State.drainOnLeave
  split <;> rfl

theorem makeRoom_sequenced : Sequenced s s.makeRoom := by
  unfold State.makeRoom
  split
  · exact (Sequenced.shortened s (List.length_dropLast.trans_le (Nat.sub_le _ _))).trans <|
      (Sequenced.callsLog _ _ _).trans (drainOnLeave_sequenced _)
  · exact .refl s

theorem makeRoom_length (h : s.calls.queueBounded) : s.makeRoom.calls.queue.length < 16 := by
  unfold State.makeRoom
  split
  · next hlast _ =>
    rw [drainOnLeave_queue]
    change s.calls.queue.dropLast.length < 16
    have hne : s.calls.queue ≠ [] := fun e => by simp [e] at hlast
    have hpos := List.length_pos_iff.mpr hne
    have hlength : s.calls.queue.length ≤ 16 := h
    rw [List.length_dropLast]
    omega
  · next hroom =>
    by_contra hfull
    have hne : s.calls.queue ≠ [] := fun e => hfull (by simp [e])
    exact hroom _ (List.getLast?_eq_some_getLast hne) (decide_eq_true (not_lt.mp hfull))

/-- An entry returns to the head of a queue with room for it. -/
theorem returned_sequenced (e : QueueEntry) : Sequenced s (s.makeRoom.withQueue (e :: s.makeRoom.calls.queue)) :=
  (makeRoom_sequenced s).queued fun h => makeRoom_length s h

/-- The queued entry with the same message gives way to the merged one at the head. -/
theorem merged_length {queue : List QueueEntry} {x : QueueEntry} {message : Nat} (x' : QueueEntry)
    (h : queue.find? (fun y => y.message == message) = some x) :
    (x' :: queue.filter fun y => y.message != message).length ≤ queue.length := by
  have hmessage : x.message = message := by simpa using List.find?_some h
  exact List.length_filter_lt_length_iff_exists.mpr ⟨x, List.mem_of_find?_eq_some h, by simp [hmessage]⟩

theorem returnToHead_sequenced (e : QueueEntry) : Sequenced s (s.returnToHead e) := by
  refine (Sequenced.log s (.callPreempted e.message)).trans ?_
  unfold State.returnToHead
  dsimp only
  generalize s.log (.callPreempted e.message) = t
  split
  · next x hx =>
    exact (Sequenced.shortened t (merged_length _ hx)).trans <| (Sequenced.calls _ _).trans (.logIf _ _ _)
  · exact (returned_sequenced t _).trans (drainOnJoin_sequenced _)

theorem preempt_sequenced : Sequenced s s.preempt := by
  unfold State.preempt
  split
  · exact .ite ((stopCurrent_sequenced s).trans (.callsLog _ _ _))
      ((stopCurrent_sequenced s).trans (returnToHead_sequenced _ _))
  · exact .refl s

theorem standingDue_sequenced : Sequenced s s.standingDue := (preempt_sequenced s).trans (startStanding_sequenced _)

theorem staffBecomesDue_sequenced : Sequenced s s.staffBecomesDue :=
  .ite (.refl s) ((Sequenced.calls s _).trans (standingDue_sequenced _))

/-! ### The end of a play (R151) -/

theorem startGap_sequenced : Sequenced s s.startGap := .ite (startTest_sequenced s) (.calls s _)

theorem playDone_sequenced : Sequenced s s.playDone := by
  have hended : Sequenced s (s.setCurrent .none noBays) := setCurrent_sequenced s _ _
  unfold State.playDone
  split
  · exact .refl s
  · exact .ite (play_sequenced s _ _ _ _ _) (hended.trans (startGap_sequenced _))
  · exact .ite (hended.trans (startStaff_sequenced _)) (hended.trans (startGap_sequenced _))
  · exact hended.trans (startStanding_sequenced _)

theorem bayDone_sequenced (b : Bay) : Sequenced s (s.bayDone b) := by
  have hleft : Sequenced s (s.withCalls { s.calls with outstanding := s.calls.outstanding.set b false }) :=
    .calls s _
  exact .ite (.ite hleft (hleft.trans (playDone_sequenced _))) (.refl s)

theorem bayFault_sequenced (b : Bay) : Sequenced s (s.bayFault b) :=
  .ite ((Sequenced.log s _).trans (bayDone_sequenced _ b)) (.refl s)

/-! ### Notices (R149, R153 to R156) -/

/-- Entries that leave the queue, each with its note, and the drain flag after the last of them. -/
theorem dropEntries_sequenced (kept : QueueEntry → Bool) (out : List QueueEntry) {note : State → QueueEntry → State}
    (h : ∀ t e, Sequenced t (note t e)) :
    Sequenced s (if out.isEmpty then out.foldl note (s.withQueue (s.calls.queue.filter kept))
      else (out.foldl note (s.withQueue (s.calls.queue.filter kept))).drainOnLeave) :=
  have hout := (Sequenced.shortened s (List.length_filter_le kept s.calls.queue)).trans (Sequenced.foldl h out _)
  .ite hout (hout.trans (drainOnLeave_sequenced _))

theorem withdraw_sequenced (p : Phase) : Sequenced s (s.withdraw p) :=
  dropEntries_sequenced s _ _ fun t _ => .log t _

theorem callsPhase_sequenced (p : Phase) : Sequenced s (s.callsPhase p) := by
  unfold State.callsPhase
  refine .ite ?_ (.refl s)
  dsimp only
  split
  · exact (withdraw_sequenced s p).trans (offer_sequenced _ _ _ _ _ _)
  · exact withdraw_sequenced s p

theorem callsMark_sequenced (mark : IntervalMark) : Sequenced s (s.callsMark mark) := offer_sequenced s _ _ _ _ _

theorem discardStale_sequenced : Sequenced s s.discardStale :=
  dropEntries_sequenced s _ _ fun t _ => .callsLog t _ _

/-- A call of the given kind is stopped where it is the current one. -/
theorem stopIf_sequenced (call : CurrentCall) : Sequenced s (if s.calls.current = call then s.stopCurrent else s) :=
  .ite (stopCurrent_sequenced s) (.refl s)

theorem endStaff_sequenced : Sequenced s s.endStaff := (stopIf_sequenced s .staff).trans (.calls _ _)

theorem callsStage_sequenced (old new : Stage) : Sequenced s (s.callsStage old new) := by
  have hstale := (stopIf_sequenced s .evacuation).trans (discardStale_sequenced _)
  have hleft := (hstale.trans (.ite (c := new = .alert) (staffBecomesDue_sequenced _) (.refl _))).trans
    (startTest_sequenced _)
  unfold State.callsStage
  exact .ite (.refl s) <| .ite ((endStaff_sequenced s).trans (standingDue_sequenced _)) <| .ite hleft <|
    .ite (staffBecomesDue_sequenced s) <| .ite ((endStaff_sequenced s).trans (startTest_sequenced _)) (.refl s)

theorem callsSilence_sequenced : Sequenced s s.callsSilence :=
  .ite (.ite (stopIf_sequenced s .evacuation) (startStanding_sequenced s)) (.refl s)

theorem callLost_sequenced (b : Bay) : Sequenced s (s.callLost b) := by
  unfold State.callLost
  split
  · exact .refl s
  · exact .ite ((stopOn_sequenced s _).trans <| (Sequenced.callsLog _ _ _).trans (startTest_sequenced _))
      (setCurrent_sequenced s _ _)
  · exact bayDone_sequenced s b

theorem callCameOnline_sequenced (b : Bay) : Sequenced s (s.callCameOnline b) := by
  have hjoins (t : State) (message : Nat) (outputs : List Nat) (call : CurrentCall) (outstanding : PerBay Bool) :
      Sequenced t ((t.bayPlays b message outputs).setCurrent call outstanding) :=
    (Sequenced.bay t b _).trans (setCurrent_sequenced _ _ _)
  exact .ite (.refl s) <| Sequenced.trans (.ite (.ite (hjoins s _ _ _ _) (.refl s)) (startStanding_sequenced s))
    (startTest_sequenced _)

/-! ### Peer requests (R147) -/

theorem judgeSlot_sequenced (station : Nat) (resync live : Bool) (slot : Nat) :
    Sequenced s (s.judgeSlot station resync live slot) := by
  have hseen (epoch : Option Byte) : Sequenced s (s.setSeenRequest station slot epoch) := .calls s _
  unfold State.judgeSlot
  dsimp only
  split
  · exact hseen _
  · exact hseen _
  · exact .refl s
  · split
    · exact hseen _
    · exact .ite ((hseen _).trans (offer_sequenced _ _ _ _ _ _)) (.refl s)

theorem callsAccept_sequenced (station : Nat) (resync live : Bool) :
    Sequenced s (s.callsAccept station resync live) :=
  .ite (.foldl (fun t _ => judgeSlot_sequenced t _ _ _ _) _ _) (.refl s)

end

end Sys2Proof.Machine
end

section
/-!
THE CALL QUEUE UNDER EVERY OPERATION (R145). Every operation keeps away from the calls or hands its notice to the Call
Sequencer, whose queue stays within its bound.
-/
namespace Sys2Proof.Machine

/-- From `s` to `t` a queue within its bound is within it still. -/
def KeepsQueue (s t : State) : Prop := s.calls.queueBounded → t.calls.queueBounded

section
variable {s t u : State}

namespace KeepsQueue

theorem refl (s : State) : KeepsQueue s s := id

theorem trans (h : KeepsQueue s t) (h' : KeepsQueue t u) : KeepsQueue s u := h' ∘ h

theorem of_calls_eq (h : t.calls = s.calls) : KeepsQueue s t := fun hs => h ▸ hs

theorem ite {c : Prop} [Decidable c] (h : KeepsQueue s t) (h' : KeepsQueue s u) : KeepsQueue s (if c then t else u) := by
  split <;> assumption

theorem ite_fst {c : Prop} [Decidable c] {x y : State × Answer} (h : KeepsQueue s x.1) (h' : KeepsQueue s y.1) :
    KeepsQueue s (if c then x else y).1 := by
  split <;> assumption

theorem foldl {α : Type} {f : State → α → State} (h : ∀ t x, KeepsQueue t (f t x)) (xs : List α) (s : State) :
    KeepsQueue s (xs.foldl f s) := by
  induction xs generalizing s with
  | nil => exact refl s
  | cons x xs ih => exact (h s x).trans (ih _)

end KeepsQueue

theorem Sequenced.keepsQueue (h : Sequenced s t) : KeepsQueue s t := h.bounded

theorem Move.keepsQueue {ps : List Part} (h : Move ps s t) (hp : .calls ∉ ps) : KeepsQueue s t :=
  .of_calls_eq (h.calls hp)

theorem Within.keepsQueue {ps : List Part} (h : Within ps s t) (hp : .calls ∉ ps) : KeepsQueue s t :=
  .of_calls_eq (h .calls hp)

end

section
variable (s : State)

/-! ### The Alarm Stage Unit (R75, R78, R82, R90) -/

theorem stageNotice_keepsQueue (old new : Stage) : KeepsQueue s (s.stageNotice old new) :=
  ((detectionStage_move s old new).keepsQueue (by decide)).trans <|
    ((lightsStage_move _ old new).keepsQueue (by decide)).trans <|
    (callsStage_sequenced _ old new).keepsQueue.trans ((testTriggers_move _).keepsQueue (by decide))

theorem mergedNotice_keepsQueue (before : Alarm) : KeepsQueue s (s.mergedNotice before) :=
  (mergedNotice_move s before).keepsQueue (by decide)

theorem silenceNotice_keepsQueue (before : Alarm) : KeepsQueue s (s.silenceNotice before) :=
  .ite (.refl s) (callsSilence_sequenced s).keepsQueue

theorem handNotices_keepsQueue (before : Alarm) : KeepsQueue s (s.handNotices before) := by
  have hmerged := mergedNotice_keepsQueue s before
  exact KeepsQueue.trans (.ite hmerged (hmerged.trans (stageNotice_keepsQueue _ _ _)))
    (silenceNotice_keepsQueue _ before)

theorem reevaluateBy_keepsQueue {stage : State → State} (h : ∀ t, Move [.alarm] t (stage t)) :
    KeepsQueue s (s.reevaluateBy stage) :=
  ((evaluateBy_move s h).keepsQueue (by decide)).trans (handNotices_keepsQueue _ _)

theorem reevaluate_keepsQueue : KeepsQueue s s.reevaluate := reevaluateBy_keepsQueue s evalStage_move

theorem react_keepsQueue : KeepsQueue s s.react :=
  react_keeps (P := KeepsQueue s) (fun t r h => h.trans <|
    (((withZone_move t r).trans (mark_move _)).keepsQueue (by decide)).trans (reevaluate_keepsQueue _)) (.refl s)

theorem review_keepsQueue : KeepsQueue s s.review := (reevaluate_keepsQueue s).trans (react_keepsQueue _)

/-- A change of the alarm or the Detection Unit, and what it brings about. -/
theorem reacted_keepsQueue {t : State} (h : Move [.detection, .alarm] s t) : KeepsQueue s t.react :=
  (h.keepsQueue (by decide)).trans (react_keepsQueue t)

theorem takeGeneration_keepsQueue (g : Byte) (way : GenerationWay) (adopts : Bool) :
    KeepsQueue s (s.takeGeneration g way adopts) := by
  rw [takeGeneration_eq]
  exact ((inGeneration_move s g way adopts).keepsQueue (by decide)).trans <| (mergedNotice_keepsQueue _ _).trans <|
    (stageNotice_keepsQueue _ _ _).trans <| (silenceNotice_keepsQueue _ _).trans (react_keepsQueue _)

theorem alarmAccept_keepsQueue (station : Nat) : KeepsQueue s (s.alarmAccept station) := by
  unfold State.alarmAccept
  split
  · exact takeGeneration_keepsQueue s _ _ _
  · exact review_keepsQueue s

theorem endJoiningReview_keepsQueue (adopts : Bool) : KeepsQueue s (s.endJoiningReview adopts) :=
  ((withStation_move s (ps := [.station]) (by decide) _).keepsQueue (by decide)).trans <|
    ((adoptEvacuate_move _ adopts).keepsQueue (by decide)).trans <|
    ((evaluateBy_move _ evalStage_move).keepsQueue (by decide)).trans <|
    (handNotices_keepsQueue _ _).trans (react_keepsQueue _)

theorem alarmJoined_keepsQueue (source : Option PeerRecord) : KeepsQueue s (s.alarmJoined source) := by
  have hview (t : State) : KeepsQueue t t.endJoiningView :=
    (((withStation_move t (ps := [.station, .alarm]) (by decide) _).trans
      ((rebuildMerged_move _).mono (by decide))).keepsQueue (by decide)).trans (mergedNotice_keepsQueue _ _)
  unfold State.alarmJoined
  split
  · exact .ite (endJoiningReview_keepsQueue s _) ((takeGeneration_keepsQueue s _ _ _).trans (hview _))
  · exact endJoiningReview_keepsQueue s _

/-! ### The Phase Tracker (R3, R9, R11, R12) -/

theorem phaseNotice_keepsQueue : KeepsQueue s s.phaseNotice :=
  (review_keepsQueue s).trans <| ((lightsPhase_move _).keepsQueue (by decide)).trans
    (callsPhase_sequenced _ _).keepsQueue

theorem takeView_keepsQueue (view : PhaseSection) (restart : Bool) : KeepsQueue s (s.takeView view restart) := by
  have htaken : KeepsQueue s ((s.withPhase (s.phase.take view restart)).markIf
      (s.phase.section != (s.phase.take view restart).section)) :=
    ((withPhase_move s (ps := [.phase]) (by decide) _).trans (markIf_move _ _)).keepsQueue (by decide)
  exact .ite (htaken.trans (phaseNotice_keepsQueue _))
    (.ite (htaken.trans ((lightsPhase_move _).keepsQueue (by decide))) htaken)

theorem phaseAccept_keepsQueue (station : Nat) : KeepsQueue s (s.phaseAccept station) := by
  unfold State.phaseAccept
  split
  · exact .ite (takeView_keepsQueue s _ _) (.refl s)
  · exact .refl s

theorem phaseJoined_keepsQueue (source : Option PeerRecord) : KeepsQueue s (s.phaseJoined source) := by
  unfold State.phaseJoined
  split
  · exact .ite (takeView_keepsQueue s _ _) (.refl s)
  · exact .refl s

theorem intervalSecond_keepsQueue : KeepsQueue s s.intervalSecond := by
  have hcounted : KeepsQueue s (s.withPhase { s.phase with remaining := s.phase.remaining - 1 }) := .of_calls_eq rfl
  exact .ite (hcounted.trans (.foldl (fun t mark => (callsMark_sequenced t mark).keepsQueue) _ _)) (.refl s)

/-! ### The requests -/

/-- A change of the own requests that is marked and reviewed. -/
theorem marked_review_keepsQueue (f : Alarm → Alarm) : KeepsQueue s ((s.setAlarm f).mark).review :=
  KeepsQueue.trans (t := (s.setAlarm f).mark) (.of_calls_eq rfl) (review_keepsQueue _)

theorem requestAck_keepsQueue : KeepsQueue s (requestAck s).1 :=
  .ite_fst (.refl s) <| .ite_fst (.refl s) <| .ite_fst (.refl s) (marked_review_keepsQueue s _)

theorem requestSilence_keepsQueue : KeepsQueue s (requestSilence s).1 :=
  .ite_fst (.refl s) <| .ite_fst (.refl s) <| .ite_fst (.refl s) (marked_review_keepsQueue s _)

theorem requestReset_keepsQueue : KeepsQueue s (requestReset s).1 := by
  unfold requestReset
  refine .ite_fst (.refl s) (.ite_fst (.refl s) ?_)
  split
  · exact .refl s
  · dsimp only
    exact takeGeneration_keepsQueue s _ .ownReset false

theorem setDisablements_keepsQueue (zones : List Nat) (event : LogEvent) :
    KeepsQueue s (s.setDisablements zones event) :=
  reacted_keepsQueue s <| (setAlarm_move s (by decide) _).trans <| (log_move _ event).trans <| (mark_move _).trans
    ((recomputeDisabled_move _).mono (by decide))

theorem requestDisable_keepsQueue (z : Nat) : KeepsQueue s (requestDisable s z).1 :=
  .ite_fst (.refl s) <| .ite_fst (.refl s) <| .ite_fst (.refl s) <| .ite_fst (.refl s) <| .ite_fst (.refl s)
    (setDisablements_keepsQueue s _ _)

theorem requestEnable_keepsQueue (z : Nat) : KeepsQueue s (requestEnable s z).1 :=
  .ite_fst (.refl s) <| .ite_fst (.refl s) <| .ite_fst (.refl s) (setDisablements_keepsQueue s _ _)

theorem changeWindows_keepsQueue (windows : List WindowEntry) : KeepsQueue s (s.changeWindows windows) :=
  reacted_keepsQueue s <| Move.mono (ps := [.detection])
    ((withWindows_move s windows).trans ((mark_move _).trans (recomputeWindows_move _))) (by decide)

theorem requestOpen_keepsQueue (zones : List Nat) (duration : Nat) : KeepsQueue s (requestOpen s zones duration).1 :=
  .ite_fst (.refl s) <| .ite_fst (.refl s) <| .ite_fst (.refl s) <| .ite_fst (changeWindows_keepsQueue s _) (.refl s)

theorem requestClose_keepsQueue (selection : WindowSelection) : KeepsQueue s (requestClose s selection).1 := by
  refine .ite_fst (.refl s) ?_
  cases selection with
  | all => exact .ite (.refl s) (changeWindows_keepsQueue s _)
  | zones zones => exact .ite_fst (.refl s) (.ite_fst (changeWindows_keepsQueue s _) (.refl s))

theorem requestPhase_keepsQueue (target : Option Phase) (minutes : Nat) :
    KeepsQueue s (requestPhase s target minutes).1 := by
  refine .ite_fst (.refl s) ?_
  split
  · exact .refl s
  · refine .ite_fst (.refl s) (.ite_fst (.refl s) ?_)
    split
    · exact .refl s
    · exact takeView_keepsQueue s _ _

theorem requestHold_keepsQueue (hold : Bool) : KeepsQueue s (requestHold s hold).1 :=
  .ite_fst (.refl s) <| .ite_fst (.refl s) <| .ite_fst (.refl s) (takeView_keepsQueue s _ _)

/-- R146: an accepted request is put in its slot, and offered. -/
theorem requestCall_keepsQueue (slot message : Nat) (zones : List Nat) (repeats : Nat) :
    KeepsQueue s (requestCall s slot message zones repeats).1 := by
  have hplaced (requests : List RequestSlot) : KeepsQueue s (s.withCalls { s.calls with requests := requests }).mark := id
  exact .ite_fst (.refl s) <| .ite_fst (.refl s) <| (hplaced _).trans (offer_sequenced _ _ _ _ _ _).keepsQueue

/-! ### The Peer Table (R36 to R49) -/

theorem detectionPeer_keepsQueue (station : Nat) : KeepsQueue s (s.detectionPeer station) :=
  (reacted_keepsQueue s (((alignCopies_move s station).trans (recomputeWindows_move _)).mono (by decide))).trans
    (reacted_keepsQueue _ ((recomputeDisabled_move _).mono (by decide)))

theorem acceptNotices_keepsQueue (station : Nat) (resync live : Bool) :
    KeepsQueue s (s.acceptNotices station resync live) :=
  (phaseAccept_keepsQueue s station).trans <| (alarmAccept_keepsQueue _ station).trans <|
    (detectionPeer_keepsQueue _ station).trans <| ((curtainAccept_move _ station resync).keepsQueue (by decide)).trans <|
    ((lightsAccept_move _ station).keepsQueue (by decide)).trans (callsAccept_sequenced _ station resync live).keepsQueue

theorem accept_keepsQueue (r : PeerRecord) (report : Report) (missed : Nat) (resync : Bool) :
    KeepsQueue s (s.accept r report missed resync) :=
  ((acceptRecord_move s r report missed).keepsQueue (by decide)).trans (acceptNotices_keepsQueue _ _ _ _)

theorem takeReport_keepsQueue (note : Option (Byte × Byte)) (report : Report) :
    KeepsQueue s (s.takeReport note report) := by
  have hsequence (r : PeerRecord) : KeepsQueue s (s.judgeSequence r report) :=
    .ite (.of_calls_eq rfl) (.ite (accept_keepsQueue s _ _ _ _) (.refl s))
  unfold State.takeReport
  refine .ite (.ite (.refl s) ((duplicateSeen_move s).keepsQueue (by decide))) ?_
  split
  · exact .refl s
  · exact .ite (accept_keepsQueue s _ _ _ _) (hsequence _)

theorem handReport_keepsQueue (l : Line) (report : Report) : KeepsQueue s (s.handReport l report) :=
  .ite (takeReport_keepsQueue s _ _) (.refl s)

theorem classified_keepsQueue (l : Line) (own : Bool) (verdict : FrameVerdict) :
    KeepsQueue s (s.classified l own verdict) := by
  have hcrc : KeepsQueue s (s.countCrc l) := .of_calls_eq rfl
  have hpoisoned (n : Nat) : KeepsQueue s ((s.credit l).handPoisoned n) :=
    (credit_handPoisoned_move s l n).keepsQueue (by decide)
  cases verdict with
  | crcFailure => exact hcrc
  | formatFailure n => exact .ite (hpoisoned n) hcrc
  | poisoned n => exact .ite (.refl s) (hpoisoned n)
  | good report =>
    exact .ite (handReport_keepsQueue s l report)
      (((goodLine_move s l).keepsQueue (by decide)).trans (handReport_keepsQueue _ l report))

theorem frameEnds_keepsQueue (l : Line) (frame : List Byte) : KeepsQueue s (s.frameEnds l frame) :=
  KeepsQueue.trans (t := s.withLine l (s.line l).fallIdle) (.of_calls_eq rfl) (classified_keepsQueue _ _ _ _)

theorem silenceNotices_keepsQueue (station : Nat) : KeepsQueue s (s.silenceNotices station) :=
  (review_keepsQueue s).trans <| (detectionPeer_keepsQueue _ station).trans
    ((lightsSilence_move _ station).keepsQueue (by decide))

theorem joinedReaders_keepsQueue (source : Option PeerRecord) : KeepsQueue s (s.joinedReaders source) :=
  (alarmJoined_keepsQueue s source).trans <| ((lightsPhase_move _).keepsQueue (by decide)).trans <|
    (reacted_keepsQueue _ ((detectionJoined_move _).mono (by decide))).trans <|
    (reacted_keepsQueue _ ((recomputeDisabled_move _).mono (by decide))).trans
      ((curtainJoined_move _).keepsQueue (by decide))

theorem endJoining_keepsQueue : KeepsQueue s s.endJoining := by
  have hflag (t : State) : KeepsQueue t t.endFlag := .of_calls_eq rfl
  rw [endJoining_eq]
  exact (phaseJoined_keepsQueue s _).trans <| (joinedReaders_keepsQueue _ _).trans (hflag _)

/-! ### Node time (R184) -/

theorem afterProof_keepsQueue : KeepsQueue s s.afterProof :=
  (intervalSecond_keepsQueue s).trans <| (reacted_keepsQueue _ ((countDownWindows_move _).mono (by decide))).trans <|
    ((leak_move _).keepsQueue (by decide)).trans (.ite (review_keepsQueue _) (.refl _))

theorem increment_keepsQueue : KeepsQueue s s.increment :=
  ((second_move s).keepsQueue (by decide)).trans <|
    ((proofAges_move (ps := []) s.second s.proven).keepsQueue (by decide)).trans (afterProof_keepsQueue _)

/-! ### The bays (R158 to R165) -/

theorem changeBay_keepsQueue (b : Bay) (record : BayRecord) : KeepsQueue s (s.changeBay b record) :=
  (changeBay_move s b record).keepsQueue (by decide)

theorem userLoses_keepsQueue (b : Bay) (type : Option ModuleType) : KeepsQueue s (s.userLoses b type) := by
  cases type with
  | none => exact .refl s
  | some type =>
    cases type with
    | loop => exact reacted_keepsQueue s ((loopLost_move s b).mono (by decide))
    | drive => exact (driveLost_move s).keepsQueue (by decide)
    | call => exact (callLost_sequenced s b).keepsQueue
    | dimmer => exact .refl s

theorem leave_keepsQueue (b : Bay) (record : BayRecord) (cause : Option LostCause) {logged : State → State}
    (h : ∀ t, KeepsQueue t (logged t)) : KeepsQueue s (s.leave b record cause logged) := by
  have hchanged : KeepsQueue s (logged (s.changeBay b record)) := (changeBay_keepsQueue s b record).trans (h _)
  have hnotice (t : State) : KeepsQueue t (t.lostNotice b cause (s.bay b).sensed) :=
    (Sequenced.bay t b _).keepsQueue.trans (userLoses_keepsQueue _ b _)
  exact .ite (hchanged.trans (hnotice _)) hchanged

theorem failBay_keepsQueue (b : Bay) (reason : FailureReason) : KeepsQueue s (s.failBay b reason) :=
  leave_keepsQueue s b _ _ .refl

theorem takePresence_keepsQueue (b : Bay) (presence : Presence) : KeepsQueue s (s.takePresence b presence) := by
  have hremove : KeepsQueue s (s.removeModule b) := leave_keepsQueue s b _ _ fun t => (Sequenced.log t _).keepsQueue
  have hrecord (record : BayRecord) : KeepsQueue s (s.withBay b record) := .of_calls_eq rfl
  unfold State.takePresence
  split
  · exact .refl s
  · exact changeBay_keepsQueue s b _
  · exact changeBay_keepsQueue s b _
  · exact changeBay_keepsQueue s b _
  · exact hremove
  · exact changeBay_keepsQueue s b _
  · exact hrecord _
  · exact hrecord _
  · exact hrecord _

theorem debounced_keepsQueue (b : Bay) (sense : ModuleType) : KeepsQueue s (s.debounced b sense) := by
  unfold State.debounced
  split
  · exact (typeRead_move s b sense).keepsQueue (by decide)
  · exact changeBay_keepsQueue s b _
  · exact leave_keepsQueue s b _ _ .refl
  · exact leave_keepsQueue s b _ _ .refl
  · exact .of_calls_eq rfl

theorem onlineNotice_keepsQueue (b : Bay) (type : ModuleType) : KeepsQueue s (s.onlineNotice b type) := by
  cases type with
  | drive => exact (driveOnline_move s).keepsQueue (by decide)
  | call => exact (callCameOnline_sequenced s b).keepsQueue
  | loop => exact .refl s
  | dimmer => exact .refl s

theorem unanswered_keepsQueue (b : Bay) : KeepsQueue s (s.unanswered b) := by
  unfold State.unanswered
  dsimp only
  have hlost : KeepsQueue s (s.lostExchange b) := .of_calls_eq rfl
  generalize s.lostExchange b = r at hlost ⊢
  have hsample : KeepsQueue s (if (s.bay b).sensed = some .drive then r.missingSample else r) :=
    .ite (hlost.trans ((missingSample_move r).keepsQueue (by decide))) hlost
  generalize (if (s.bay b).sensed = some .drive then r.missingSample else r) = t at hsample ⊢
  have hmissed (record : BayRecord) : KeepsQueue s (t.withBay b record) := hsample
  exact .ite ((hmissed _).trans (failBay_keepsQueue _ b _)) (hmissed _)

/-- R168: a play event, where it is handed, is the Call Sequencer's. -/
theorem playEvent_keepsQueue (b : Bay) (play : Byte) {event : State → State} (h : ∀ t, Sequenced t (event t)) :
    KeepsQueue s (s.playEvent b play event) := by
  have hends : KeepsQueue s (s.playEnds b play) := .of_calls_eq rfl
  exact .ite (.ite (hends.trans (h _).keepsQueue) hends) (.refl s)

end

end Sys2Proof.Machine
end

section
/-!
THE CALL QUEUE AT EVERY STEP (O8). Each command keeps away from the calls or keeps the queue within its bound; a start
begins with an empty queue.
-/
namespace Sys2Proof.Machine

section
variable {s t : State}

/-! ### The shapes of a command -/

theorem keepsQueue_of_next {u : State} (h : KeepsQueue s u) (ht : (Host.Outcome.next u : Result) = .next t) :
    KeepsQueue s t := Host.Outcome.next.inj ht ▸ h

theorem settleAt_keepsQueue (u : State) (idle : Option Line) : KeepsQueue u (u.settleAt idle) :=
  (settleAt_within u idle).keepsQueue (by decide)

theorem whenRunning_keepsQueue {effect : State → State} (h : KeepsQueue s (effect s))
    (ht : whenRunning s effect = .next t) : KeepsQueue s t := by
  rcases whenRunning_cases s effect with ⟨-, e⟩ | ⟨-, e⟩ <;> rw [e] at ht
  · exact keepsQueue_of_next (h.trans (settleAt_keepsQueue _ none)) ht
  · exact keepsQueue_of_next (.refl s) ht

theorem whenDue_keepsQueue {due : Bool} (ht : whenDue s due = .next t) : KeepsQueue s t := by
  refine whenRunning_keepsQueue ?_ ht
  exact .ite (increment_keepsQueue s) (.refl s)

theorem operatorRequest_keepsQueue {owner : State → State × Answer} (h : KeepsQueue s (owner s).1)
    (ht : operatorRequest s owner = .next t) : KeepsQueue s t := by
  have hend (u : State) (body : AnswerBody) : KeepsQueue u (u.judged body none).concluded :=
    (judged_concluded_within u body none).keepsQueue (by decide)
  unfold operatorRequest at ht
  split at ht
  · exact keepsQueue_of_next (h.trans (hend _ _)) ht
  · exact keepsQueue_of_next (hend s _) ht

theorem advanceTo_keepsQueue (u : State) (time : Nat) : KeepsQueue u (u.advanceTo time) :=
  (advanceTo_moved u time).keepsQueue (by decide)

/-! ### The events -/

theorem frameReceived_keepsQueue {l : Line} {frame : List Byte} (ht : execFrameReceived l frame s = .next t) :
    KeepsQueue s t := by
  rcases execFrameReceived_cases s l frame with ⟨-, e⟩ | ⟨-, e⟩ <;> rw [e] at ht
  · exact keepsQueue_of_next ((frameEnds_keepsQueue s l frame).trans (settleAt_keepsQueue _ _)) ht
  · exact keepsQueue_of_next (.refl s) ht

theorem peerSilent_keepsQueue {n : Nat} (ht : execPeerSilent n s = .next t) : KeepsQueue s t := by
  refine whenRunning_keepsQueue ?_ ht
  split
  · exact .ite ((advanceTo_keepsQueue s _).trans <| ((silenceRecord_move _ _).keepsQueue (by decide)).trans
      (silenceNotices_keepsQueue _ _)) (.refl s)
  · exact .refl s

theorem endOfJoining_keepsQueue (ht : execEndOfJoining s = .next t) : KeepsQueue s t := by
  refine whenRunning_keepsQueue ?_ ht
  exact .ite ((advanceTo_keepsQueue s _).trans (endJoining_keepsQueue _)) (.refl s)

theorem nodeTimeIncrement_keepsQueue (ht : execNodeTimeIncrement s = .next t) : KeepsQueue s t := by
  unfold execNodeTimeIncrement at ht
  split at ht
  · exact keepsQueue_of_next ((increment_keepsQueue s).trans (settleAt_keepsQueue _ none)) ht
  · split at ht
    · exact keepsQueue_of_next ((second_move s).keepsQueue (by decide)) ht
    · exact keepsQueue_of_next (.refl s) ht

/-- R79, R80: a timer of the Alarm Stage Unit stops and expires in its stage. -/
theorem alarmTimer_keepsQueue (s : State) (time : Nat) (f : Alarm → Alarm) (stage : Stage) (cause : StageCause) :
    KeepsQueue s (((s.advanceTo time).setAlarm f).reevaluateBy (expiryStage stage cause)).react :=
  (advanceTo_keepsQueue s time).trans <| ((setAlarm_move (ps := [.alarm]) _ (by decide) f).keepsQueue (by decide)).trans <|
    (reevaluateBy_keepsQueue _ fun u => expiryStage_move u stage cause).trans (react_keepsQueue _)

theorem ackWindow_keepsQueue (ht : execAckWindowExpiry s = .next t) : KeepsQueue s t := by
  refine whenRunning_keepsQueue ?_ ht
  split
  · exact alarmTimer_keepsQueue s _ _ _ _
  · exact .refl s

theorem investigation_keepsQueue (ht : execInvestigationTimeout s = .next t) : KeepsQueue s t := by
  refine whenRunning_keepsQueue ?_ ht
  split
  · exact alarmTimer_keepsQueue s _ _ _ _
  · exact .refl s

/-- R151: at the end of the gap the start test is made. -/
theorem gap_keepsQueue (ht : execGapExpiry s = .next t) : KeepsQueue s t := by
  refine whenRunning_keepsQueue ?_ ht
  dsimp only
  split
  · exact (advanceTo_keepsQueue s _).trans ((Sequenced.calls _ _).trans (startTest_sequenced _)).keepsQueue
  · exact .refl s

/-- R153: the staff call becomes due in ALERT. -/
theorem staffRepeat_keepsQueue (ht : execStaffRepeatExpiry s = .next t) : KeepsQueue s t := by
  refine whenRunning_keepsQueue ?_ ht
  dsimp only
  split
  · next time _ =>
    have hstopped : Sequenced (s.advanceTo time)
        ((s.advanceTo time).withCalls { (s.advanceTo time).calls with staffRepeat := none }) := .calls _ _
    exact .ite ((advanceTo_keepsQueue s _).trans (hstopped.trans (staffBecomesDue_sequenced _)).keepsQueue)
      ((advanceTo_keepsQueue s _).trans hstopped.keepsQueue)
  · exact .refl s

theorem loopSample_keepsQueue {b : Bay} {readings : Vector Byte 32} (ht : execLoopSample b readings s = .next t) :
    KeepsQueue s t := by
  refine whenRunning_keepsQueue ?_ ht
  exact .ite (((answered_move s (ps := [.bays]) (by decide) b).keepsQueue (by decide)).trans
    (reacted_keepsQueue _ ((sampleBay_move _ b readings).mono (by decide)))) (.refl s)

theorem presenceChange_keepsQueue {b : Bay} {presence : Presence} (ht : execPresenceChange b presence s = .next t) :
    KeepsQueue s t := by
  refine whenRunning_keepsQueue ?_ ht
  exact .ite (.refl s) (takePresence_keepsQueue s b presence)

theorem debounce_keepsQueue {b : Bay} {sense : ModuleType} (ht : execDebounceExpiry b sense s = .next t) :
    KeepsQueue s t := by
  refine whenRunning_keepsQueue ?_ ht
  split
  · exact (advanceTo_keepsQueue s _).trans (debounced_keepsQueue _ b sense)
  · exact .refl s

theorem readyAnswer_keepsQueue {b : Bay} {type : ModuleType} (ht : execReadyAnswer b type s = .next t) :
    KeepsQueue s t := by
  refine whenRunning_keepsQueue ?_ ht
  exact .ite (.refl s) (.ite ((changeBay_keepsQueue s b _).trans <| (Sequenced.log _ _).keepsQueue.trans <|
    (onlineNotice_keepsQueue _ b type).trans ((beginExchange_move _ b type).keepsQueue (by decide)))
    (failBay_keepsQueue s b _))

theorem readyTimer_keepsQueue {b : Bay} (ht : execReadyTimerExpiry b s = .next t) : KeepsQueue s t := by
  refine whenRunning_keepsQueue ?_ ht
  split
  · exact (advanceTo_keepsQueue s _).trans (failBay_keepsQueue _ b _)
  · exact .refl s

theorem overcurrent_keepsQueue {b : Bay} {supply : Supply} (ht : execOvercurrent b supply s = .next t) :
    KeepsQueue s t := by
  refine whenRunning_keepsQueue ?_ ht
  split
  · exact failBay_keepsQueue s b _
  · exact failBay_keepsQueue s b _
  · exact .refl s

theorem exchangeNoAnswer_keepsQueue {b : Bay} (ht : execExchangeNoAnswer b s = .next t) : KeepsQueue s t :=
  whenRunning_keepsQueue (.ite (unanswered_keepsQueue s b) (.refl s)) ht

theorem playComplete_keepsQueue {b : Bay} {play : Byte} (ht : execPlayComplete b play s = .next t) : KeepsQueue s t :=
  whenRunning_keepsQueue (playEvent_keepsQueue s b play fun u => bayDone_sequenced u b) ht

theorem playerFault_keepsQueue {b : Bay} {play : Byte} (ht : execPlayerFault b play s = .next t) : KeepsQueue s t :=
  whenRunning_keepsQueue (playEvent_keepsQueue s b play fun u => bayFault_sequenced u b) ht

/-- Each command but those that begin a start keeps the queue within its bound. -/
theorem exec_keepsQueue {c : Instr} (hstart : beginsStart c = false) (ht : exec c s = .next t) : KeepsQueue s t := by
  by_cases hpart : .calls ∉ composing ++ touches c
  · exact (exec_within c hstart s t ht).keepsQueue hpart
  cases c with
  | frameReceived l frame => exact frameReceived_keepsQueue ht
  | peerSilent n => exact peerSilent_keepsQueue ht
  | endOfJoining => exact endOfJoining_keepsQueue ht
  | nodeTimeIncrement => exact nodeTimeIncrement_keepsQueue ht
  | intervalMark mark => exact whenDue_keepsQueue ht
  | intervalTimerExpiry => exact whenDue_keepsQueue ht
  | effectsWindowExpiry z => exact whenDue_keepsQueue ht
  | windowCopyExpiry desk z => exact whenDue_keepsQueue ht
  | realarmWindowEnd => exact whenDue_keepsQueue ht
  | proofExpired => exact whenDue_keepsQueue ht
  | ackWindowExpiry => exact ackWindow_keepsQueue ht
  | investigationTimeout => exact investigation_keepsQueue ht
  | gapExpiry => exact gap_keepsQueue ht
  | staffRepeatExpiry => exact staffRepeat_keepsQueue ht
  | loopSample b readings => exact loopSample_keepsQueue ht
  | presenceChange b presence => exact presenceChange_keepsQueue ht
  | debounceExpiry b sense => exact debounce_keepsQueue ht
  | readyAnswer b type => exact readyAnswer_keepsQueue ht
  | readyTimerExpiry b => exact readyTimer_keepsQueue ht
  | overcurrent b supply => exact overcurrent_keepsQueue (supply := supply) ht
  | exchangeNoAnswer b => exact exchangeNoAnswer_keepsQueue ht
  | playComplete b play => exact playComplete_keepsQueue ht
  | playerFault b play => exact playerFault_keepsQueue ht
  | setPhase target minutes =>
    exact operatorRequest_keepsQueue (owner := (requestPhase · target _)) (requestPhase_keepsQueue s target _) ht
  | holdOn => exact operatorRequest_keepsQueue (owner := (requestHold · true)) (requestHold_keepsQueue s true) ht
  | holdOff => exact operatorRequest_keepsQueue (owner := (requestHold · false)) (requestHold_keepsQueue s false) ht
  | ack => exact operatorRequest_keepsQueue (requestAck_keepsQueue s) ht
  | silence => exact operatorRequest_keepsQueue (requestSilence_keepsQueue s) ht
  | reset => exact operatorRequest_keepsQueue (requestReset_keepsQueue s) ht
  | disable z => exact operatorRequest_keepsQueue (owner := (requestDisable · z)) (requestDisable_keepsQueue s z) ht
  | enable z => exact operatorRequest_keepsQueue (owner := (requestEnable · z)) (requestEnable_keepsQueue s z) ht
  | effectsOpen zones duration =>
    exact operatorRequest_keepsQueue (owner := (requestOpen · zones duration)) (requestOpen_keepsQueue s zones duration) ht
  | effectsClose selection =>
    exact operatorRequest_keepsQueue (owner := (requestClose · selection)) (requestClose_keepsQueue s selection) ht
  | callRequest slot message zones repeats =>
    exact operatorRequest_keepsQueue (owner := (requestCall · slot message zones repeats))
      (requestCall_keepsQueue s slot message zones repeats) ht
  | _ => exact absurd (by simp [touches]) hpart

/-! ### Starts (R157, R185) -/

/-- R157: the Call Sequencer starts with an empty queue. -/
theorem setRecords_keepsQueue (u : State) (kind : StartKind) (memory : ConfigMemory) :
    KeepsQueue u (u.setRecords kind memory) := by
  cases kind <;> exact fun _ => Nat.zero_le 16

theorem takeValues_keepsQueue (u : State) (presence : PerBay Presence) :
    KeepsQueue u (((u.startView).startStandingCalls).readPresence presence) := by
  have hview : KeepsQueue u u.startView := .of_calls_eq rfl
  have hcalls (v : State) : KeepsQueue v v.startStandingCalls :=
    .ite (staffBecomesDue_sequenced v).keepsQueue (.refl v)
  exact hview.trans ((hcalls _).trans (.foldl (fun v b => takePresence_keepsQueue v b _) _ _))

theorem makeStep_keepsQueue (p : StartProgress) (u : State) (step : StartStep) :
    KeepsQueue u (State.makeStep p u step) := by
  change KeepsQueue u (u.stepEffect p step)
  cases step with
  | recordsSet => exact setRecords_keepsQueue u p.kind p.memory
  | valuesTaken => exact takeValues_keepsQueue u p.presence
  | kindDecided => exact .refl u
  | imageValidated => exact .refl u
  | countFixed => exact .of_calls_eq rfl
  | startLogged => exact .of_calls_eq rfl

theorem makeSteps_keepsQueue (p : StartProgress) (steps : List StartStep) (u : State) :
    KeepsQueue u (u.makeSteps p steps) := .foldl (makeStep_keepsQueue p) steps u

theorem completeStart_keepsQueue (u : State) : KeepsQueue u u.completeStart :=
  (completeStart_within u).keepsQueue (by decide)

theorem finishStart_keepsQueue (u : State) : KeepsQueue u u.finishStart := by
  unfold State.finishStart
  split
  · exact (makeSteps_keepsQueue _ _ u).trans (completeStart_keepsQueue _)
  · exact .refl u

theorem start_keepsQueue (u : State) (kind : StartKind) (memory : ConfigMemory) (presence : PerBay Presence)
    (reached : Option StartStep) : KeepsQueue u (u.start kind memory presence reached) := by
  have hbegin : KeepsQueue u (u.beginStart kind memory presence) := .of_calls_eq rfl
  cases reached with
  | none => exact (hbegin.trans (makeSteps_keepsQueue _ _ _)).trans (completeStart_keepsQueue _)
  | some step => exact hbegin.trans (makeSteps_keepsQueue _ _ _)

/-- The beginnings of a start: with RESET asserted or supply away no start runs. -/
theorem beginsStart_keepsQueue {c : Instr} (h : beginsStart c = true) (ht : exec c s = .next t) : KeepsQueue s t := by
  have hpower (power : Power) : KeepsQueue s (s.withPower power) := .of_calls_eq rfl
  have hstarted (power : Power) (kind : StartKind) (memory : ConfigMemory) (course : StartCourse) :
      KeepsQueue s ((s.withPower power).start kind memory course.presence course.reached) :=
    (hpower power).trans (start_keepsQueue _ _ _ _ _)
  cases c with
  | powerOn good memory course =>
    simp only [exec, execPowerOn] at ht
    split at ht
    · exact keepsQueue_of_next (hpower _) ht
    · exact keepsQueue_of_next (hstarted _ _ _ course) ht
  | supplyDip retain memory course =>
    simp only [exec, execSupplyDip] at ht
    split at ht
    · exact keepsQueue_of_next (hpower _) ht
    · exact keepsQueue_of_next (hstarted _ _ _ course) ht
  | resetReleased retain memory course =>
    simp only [exec, execResetReleased] at ht
    split at ht
    · exact keepsQueue_of_next (hstarted _ _ _ course) ht
    · exact keepsQueue_of_next (hpower _) ht
  | _ => exact Bool.noConfusion h

end

/-- Settles O8: a step is a command, or an idle millisecond in which a start in progress may complete. -/
theorem everyStepKeepsTheCallQueueBounded : Obligations.EveryStepKeepsTheCallQueueBounded := by
  intro s t hs hstep
  unfold step at hstep
  split at hstep
  · exact keepsQueue_of_next ((advanceTo_keepsQueue s _).trans (finishStart_keepsQueue _)) hstep hs
  · next c rest _ =>
    cases hstart : beginsStart c with
    | true => exact beginsStart_keepsQueue (s := s.withPending rest) hstart hstep hs
    | false => exact exec_keepsQueue (s := s.withPending rest) hstart hstep hs

end Sys2Proof.Machine
end

section
/-!
CALL REQUEST (R146). How a CALL REQUEST is judged, and what an accepted one makes of its slot (O51).
-/
namespace Sys2Proof.Machine

section
variable {s : State} {slot message repeats : Nat} {zones : List Nat}

theorem answers_callRequest (hs : s.attends) (slot message : Nat) (zones : List Nat) (repeats : Nat) :
    answers (.callRequest slot message zones repeats) s (requestCall s slot message zones repeats).1
      (requestCall s slot message zones repeats).2 :=
  answers_of_owner (requestCall · slot message zones repeats) hs rfl rfl
    ((requestCall_move s slot message zones repeats).power (by decide))

/-- R146, test 2: what a well-formed request names. -/
theorem callRequestGood_iff : callRequestGood slot message zones repeats = true ↔
    (1 ≤ slot ∧ slot ≤ 4) ∧ (1 ≤ message ∧ message ≤ 200) ∧ zones ≠ [] ∧ (∀ z ∈ zones, 1 ≤ z ∧ z ≤ 16) ∧
      1 ≤ repeats ∧ repeats ≤ 3 := by
  simp only [callRequestGood, Bool.and_eq_true, decide_eq_true_iff, List.all_eq_true, Bool.not_eq_true',
    List.isEmpty_eq_false_iff]
  tauto

theorem requestCall_noAuthority (h : s.roles.desk = false ∨ s.authorities.calls = false) :
    requestCall s slot message zones repeats = (s, { code := .noAuthority }) := by
  have hno : (s.roles.desk && s.authorities.calls) = false := by rcases h with h | h <;> simp [h]
  simp [requestCall, hno]

theorem requestCall_badRequest (hdesk : s.roles.desk = true) (hcalls : s.authorities.calls = true)
    (hform : callRequestGood slot message zones repeats = false) :
    requestCall s slot message zones repeats = (s, { code := .badRequest }) := by
  simp [requestCall, hdesk, hcalls, hform]

/-- R146: the request has taken its slot with the next epoch, and the desk section is marked. -/
def State.requested (s : State) (slot message : Nat) (zones : List Nat) (repeats : Nat) : State :=
  (s.withCalls { s.calls with requests := placeRequest s.calls.requests slot message (fohSet zones) repeats }).mark

/-- R146: the state that an accepted request leaves: a station with CALLS has taken it as an offer too. -/
def State.called (s : State) (slot message : Nat) (zones : List Nat) (repeats : Nat) : State :=
  (s.requested slot message zones repeats).offer message (fohSet zones) repeats s.own .desk

theorem requestCall_accepted (hdesk : s.roles.desk = true) (hcalls : s.authorities.calls = true)
    (hform : callRequestGood slot message zones repeats = true) :
    requestCall s slot message zones repeats = (s.called slot message zones repeats, { code := .accepted }) := by
  simp only [requestCall, hdesk, hcalls, hform, Bool.and_self, Bool.not_true, Bool.false_eq_true, if_false]
  rfl

/-- The offer leaves the request in its slot. -/
theorem called_requests : (s.called slot message zones repeats).calls.requests =
    placeRequest s.calls.requests slot message (fohSet zones) repeats :=
  (offer_sequenced (s.requested slot message zones repeats) _ _ _ _ _).requests

theorem called_frame : s.called slot message zones repeats =
    (((s.withCalls (s.called slot message zones repeats).calls).withBays
      (s.called slot message zones repeats).bays).withPanel (s.called slot message zones repeats).panel).mark :=
  (offer_sequenced (s.requested slot message zones repeats) _ _ _ _ _).frame

/-- A desk without CALLS has no queue of its own to offer to. -/
theorem called_elsewhere (h : s.roles.calls = false) :
    s.called slot message zones repeats = s.requested slot message zones repeats :=
  if_neg (Bool.eq_false_iff.mp h)

end

/-- Settles O51: the tests of R146 in their order, and what the accepted request leaves. -/
theorem callRequestTakesANewEpoch : Obligations.CallRequestTakesANewEpoch := by
  intro slot message zones repeats s hs c
  have hanswers : answers c s _ _ := answers_callRequest hs slot message zones repeats
  refine ⟨fun h => ?_, fun hdesk hcalls =>
    ⟨fun hbad => ?_, fun hslot hslot' hmessage hmessage' hzones hall hlow hhigh => ?_⟩⟩
  · rwa [requestCall_noAuthority h] at hanswers
  · have hform : callRequestGood slot message zones repeats = false := by
      rw [Bool.eq_false_iff, ne_eq, callRequestGood_iff]
      rintro ⟨hslot, hmessage, hzones, hall, hrepeats⟩
      rcases hbad with h | h | h | ⟨z, hz, h⟩ | h
      · exact h hslot
      · exact h hmessage
      · exact hzones h
      · exact h (hall z hz)
      · exact h hrepeats
    rwa [requestCall_badRequest hdesk hcalls hform] at hanswers
  · have hform := callRequestGood_iff.mpr ⟨⟨hslot, hslot'⟩, ⟨hmessage, hmessage'⟩, hzones, hall, hlow, hhigh⟩
    rw [requestCall_accepted hdesk hcalls hform] at hanswers
    refine ⟨_, hanswers, called_requests, called_frame, fun h => ?_⟩
    rw [called_requests, called_elsewhere h]
    rfl

end Sys2Proof.Machine
end

section
/-!
PLAYS (R150, R151, R153, R168). What one play command makes of each bay of a set, and when a set holds a bay.
-/
namespace Sys2Proof.Machine

/-! ### Sets of bays -/

theorem mem_bayList (b : Bay) : b ∈ bayList := by cases b <;> decide

theorem anyBay_iff (set : PerBay Bool) : anyBay set = true ↔ ∃ b, set.get b = true := by
  simp only [anyBay, List.any_eq_true, mem_bayList, true_and]

theorem anyBay_eq_false_iff (set : PerBay Bool) : anyBay set = false ↔ ∀ b, set.get b = false := by
  simp only [← Bool.not_eq_true, anyBay_iff, not_exists]

theorem bayset_get (test : Bay → Bool) (b : Bay) : (bayset test).get b = test b := by cases b <;> rfl

section
variable (s : State)

/-- R144: a bay that serves a zone holds an ONLINE CALL module. -/
theorem anyCallOnline_of_serves {zones : List Nat} (h : anyBay (bayset (s.serves zones)) = true) :
    bayList.any s.callOnline = true := by
  obtain ⟨b, hb⟩ := (anyBay_iff _).mp h
  rw [bayset_get] at hb
  exact List.any_eq_true.mpr ⟨b, mem_bayList b, (Bool.and_eq_true_iff.mp hb).1⟩

/-! ### One play command to each bay of a set (R168) -/

/-- R168: a bay's record after a play command, under its next play number. -/
def BayRecord.plays (bay : BayRecord) (message : Nat) (outputs : List Nat) : BayRecord :=
  { bay with play := bay.play + 1, commands := bay.commands ++ [.play ⟨message, outputs, bay.play + 1⟩] }

/-- A bay's record after one play command to each bay of a set. -/
def State.playedBay (set : PerBay Bool) (message : Nat) (zones : List Nat) (b : Bay) : BayRecord :=
  if set.get b then (s.bay b).plays message (s.outputsFor b zones) else s.bay b

theorem bayPlays_if (p : Bool) (b : Bay) (message : Nat) (outputs : List Nat) :
    (if p then s.bayPlays b message outputs else s) =
      s.withBay b (if p then (s.bay b).plays message outputs else s.bay b) := by
  split
  · rfl
  · exact (withBay_self s b).symm

theorem playOn_eq (set : PerBay Bool) (message : Nat) (zones : List Nat) :
    s.playOn set message zones = s.withBays ⟨s.playedBay set message zones .b1, s.playedBay set message zones .b2,
      s.playedBay set message zones .b3, s.playedBay set message zones .b4⟩ := by
  simp only [State.playOn, bayList, List.foldl_cons, List.foldl_nil, bayPlays_if]
  rfl

theorem playOn_bay (set : PerBay Bool) (message : Nat) (zones : List Nat) (b : Bay) :
    (s.playOn set message zones).bay b = s.playedBay set message zones b := by
  rw [playOn_eq]
  cases b <;> rfl

theorem playOn_calls (set : PerBay Bool) (message : Nat) (zones : List Nat) :
    (s.playOn set message zones).calls = s.calls := by rw [playOn_eq]; rfl

theorem playOn_panel (set : PerBay Bool) (message : Nat) (zones : List Nat) :
    (s.playOn set message zones).panel = s.panel := by rw [playOn_eq]; rfl

end

end Sys2Proof.Machine
end

section
/-!
CALL TIMERS (R150, R151, R153). The start of the head of the queue at the end of the gap, and the staff call at the expiry
of its repeat timer (O52).
-/
namespace Sys2Proof.Machine

/-! ### The start test (R150) -/

section
variable (s : State)

theorem drainOnLeave_eq : s.drainOnLeave =
    (s.withCalls { s.calls with drain := s.drainOnLeave.calls.drain }).withPanel s.drainOnLeave.panel := by
  unfold State.drainOnLeave
  split <;> rfl

/-- R150: the head of the queue leaves it and plays on the bays that serve its played zones. -/
def State.startHead (e : QueueEntry) (rest : List QueueEntry) : State :=
  let zones := s.playedZones e
  let set := bayset (s.serves zones)
  ((s.withQueue rest).drainOnLeave.playOn set e.message zones).setCurrent
    (.queue { entry := e, zones := zones, bays := set }) set

variable {s} {e : QueueEntry} {rest : List QueueEntry}

theorem startTest_of_cannot (h : s.canStart = false) : s.startTest = s := if_neg (Bool.eq_false_iff.mp h)

theorem startTest_eq_startHead (hstart : s.canStart = true) (hqueue : s.calls.queue = e :: rest)
    (hzones : s.playedZones e ≠ []) (hbays : anyBay (bayset (s.serves (s.playedZones e))) = true) :
    s.startTest = s.startHead e rest := by
  have hplayed : (s.withQueue rest).drainOnLeave.playedZones e = s.playedZones e := by rw [drainOnLeave_eq]; rfl
  have hserves (zones : List Nat) : (s.withQueue rest).drainOnLeave.serves zones = s.serves zones := by
    rw [drainOnLeave_eq]
    rfl
  rw [State.startTest, startTestUpTo, if_pos hstart]
  simp only [hqueue, hplayed, hserves, hbays, List.isEmpty_eq_false_iff.mpr hzones, if_true, Bool.false_eq_true, if_false]
  rfl

theorem startHead_calls : (s.startHead e rest).calls = { s.calls with
    queue := rest, drain := (s.withQueue rest).drainOnLeave.calls.drain
    current := .queue { entry := e, zones := s.playedZones e, bays := bayset (s.serves (s.playedZones e)) }
    outstanding := bayset (s.serves (s.playedZones e)) } := by
  dsimp only [State.startHead, State.setCurrent, State.withCalls_calls]
  rw [playOn_calls, drainOnLeave_eq]
  rfl

theorem startHead_bay (b : Bay) : (s.startHead e rest).bay b =
    s.playedBay (bayset (s.serves (s.playedZones e))) e.message (s.playedZones e) b := by
  change ((s.withQueue rest).drainOnLeave.playOn _ _ _).bay b = _
  rw [playOn_bay, drainOnLeave_eq]
  rfl

end

/-! ### The staff call (R153) -/

section
variable {s : State}

theorem staffBecomesDue_of_none (h : s.staffZones = []) : s.staffBecomesDue = s := if_pos (List.isEmpty_iff.mpr h)

theorem preempt_of_none (h : s.calls.current = .none) : s.preempt = s := by simp only [State.preempt, h]

theorem startStanding_of_staffDue (hcurrent : s.calls.current = .none) (hstage : s.alarm.stage ≠ .evacuate)
    (hdue : s.calls.staffDue = true) : s.startStanding = s.startStaff := by
  rw [State.startStanding, if_pos hcurrent, if_neg hstage, if_pos hdue]

/-- R153: the staff call is due. -/
def State.staffMadeDue (s : State) : State := s.withCalls { s.calls with staffDue := true }

/-- With nothing to preempt and no evacuation the staff call starts where the station has a STAFF zone. -/
theorem staffBecomesDue_starts (hzones : s.staffZones ≠ []) (hcurrent : s.calls.current = .none)
    (hstage : s.alarm.stage ≠ .evacuate) : s.staffBecomesDue = s.staffMadeDue.startStaff := by
  have hpreempt : s.staffMadeDue.preempt = s.staffMadeDue := preempt_of_none hcurrent
  calc s.staffBecomesDue
    _ = s.staffMadeDue.preempt.startStanding := if_neg (mt List.isEmpty_iff.mp hzones)
    _ = s.staffMadeDue.startStanding := by rw [hpreempt]
    _ = s.staffMadeDue.startStaff := startStanding_of_staffDue hcurrent hstage rfl

/-- The repeat timer runs anew from the start of the staff call. -/
abbrev State.staffTimed (s : State) : Calls := { s.calls with staffRepeat := some (s.clock.now + 30000) }

theorem startStaff_waits (h : anyBay (bayset (s.serves s.staffZones)) = false) :
    s.startStaff = s.withCalls s.staffTimed := if_neg (Bool.eq_false_iff.mp h)

theorem startStaff_plays (h : anyBay (bayset (s.serves s.staffZones)) = true) : s.startStaff =
    (s.playOn (bayset (s.serves s.staffZones)) s.image.messages.staffAlert s.staffZones).withCalls
      { s.staffTimed with current := .staff, outstanding := bayset (s.serves s.staffZones), staffDue := false } := by
  refine (if_pos h).trans ?_
  rw [playOn_eq, playOn_eq]
  rfl

end

/-! ### The timers (R151, R153) -/

section
variable {s : State} {expiry : Nat}

/-- R151: the gap has ended. -/
abbrev Calls.gapOver (c : Calls) : Calls := { c with gap := none }

/-- R153: the staff repeat timer has expired. -/
abbrev Calls.staffOver (c : Calls) : Calls := { c with staffRepeat := none }

/-- A call timer has expired: the clock stands at its expiry or later, and the calls have taken note of it. -/
def State.timed (s : State) (expiry : Nat) (lines : PerLine LineController) (calls : Calls) : State :=
  ((s.withClock { s.clock with now := max s.clock.now expiry }).withLines lines).withCalls calls

theorem advanceTo_withCalls (calls : Calls) :
    (s.advanceTo expiry).withCalls calls = s.timed expiry (s.advanceTo expiry).lines calls := by
  conv_lhs => rw [advanceTo_eq, advanceTo_clock]
  rfl

theorem advanceTo_calls : (s.advanceTo expiry).calls = s.calls := (advanceTo_moved s expiry).calls (by decide)

/-- What the Call Sequencer makes of an expired timer changes nothing elsewhere but the clock and the lines. -/
theorem Sequenced.timed_frame {u : State} {lines : PerLine LineController} {calls : Calls}
    (h : Sequenced (s.timed expiry lines calls) u) :
    u = ((((s.withClock { s.clock with now := max s.clock.now expiry }).withLines u.lines).withCalls u.calls).withBays
      u.bays).withPanel u.panel := by
  have hlines : u.lines = lines := by
    rw [h.frame]
    rfl
  rw [hlines]
  exact h.frame

theorem completes_gapExpiry (hs : s.power.running = true) (hgap : s.calls.gap = some expiry) :
    ∃ lines, completes .gapExpiry s (s.timed expiry lines s.calls.gapOver).startTest := by
  refine ⟨(s.advanceTo expiry).lines, ?_⟩
  rw [completes_iff s rfl, ← advanceTo_withCalls]
  change execGapExpiry s = _
  simp only [execGapExpiry, whenRunning, if_pos hs, hgap, advanceTo_calls]

theorem completes_staffRepeatExpiry (hs : s.power.running = true) (htimer : s.calls.staffRepeat = some expiry) :
    ∃ lines, completes .staffRepeatExpiry s
      (if s.alarm.stage = .alert then (s.timed expiry lines s.calls.staffOver).staffBecomesDue
        else s.timed expiry lines s.calls.staffOver) := by
  refine ⟨(s.advanceTo expiry).lines, ?_⟩
  have halarm : (s.advanceTo expiry).alarm = s.alarm := (advanceTo_moved s expiry).alarm (by decide)
  rw [completes_iff s rfl, ← advanceTo_withCalls]
  change execStaffRepeatExpiry s = _
  simp only [execStaffRepeatExpiry, whenRunning, if_pos hs, htimer, advanceTo_calls, State.withCalls_alarm, halarm]

end

section
variable {s : State} {expiry : Nat} {lines : PerLine LineController}

/-- R150: what the start test asks of the calls holds once the gap has gone. -/
theorem timed_canStart {e : QueueEntry} {rest : List QueueEntry} (hroles : s.roles.calls = true)
    (hqueue : s.calls.queue = e :: rest) (hcurrent : s.calls.current = .none) (hstage : s.alarm.stage ≠ .evacuate)
    (hstaff : s.calls.staffDue = false) (honline : bayList.any s.callOnline = true) :
    (s.timed expiry lines s.calls.gapOver).canStart = true := by
  change (s.roles.calls && s.calls.current == .none && s.alarm.stage != .evacuate && true && !s.calls.staffDue &&
    !s.calls.queue.isEmpty && bayList.any s.callOnline) = true
  simp [hroles, hqueue, hcurrent, hstage, hstaff, honline]

theorem timed_cannotStart (hqueue : s.calls.queue = []) :
    (s.timed expiry lines s.calls.gapOver).canStart = false := by
  simp [State.canStart, State.timed, hqueue]

end

/-- Settles O52: the gap by whether the queue holds an entry, the staff repeat timer by the stage and the STAFF zones. -/
theorem callTimersStartTheirCalls : Obligations.CallTimersStartTheirCalls := by
  intro s expiry hs now frame plays
  constructor
  · intro hgap
    obtain ⟨lines, hcompletes⟩ := completes_gapExpiry hs hgap
    have hframe := (startTest_sequenced (s.timed expiry lines s.calls.gapOver)).timed_frame
    constructor
    · intro hqueue
      rw [startTest_of_cannot (timed_cannotStart hqueue)] at hcompletes hframe
      exact ⟨_, hcompletes, hframe, rfl, rfl, rfl⟩
    · intro e rest hroles hqueue hcurrent hstage hstaff zones set hzones hbays
      have hstart := timed_canStart (expiry := expiry) (lines := lines) hroles hqueue hcurrent hstage hstaff
        (anyCallOnline_of_serves s hbays)
      rw [startTest_eq_startHead hstart hqueue hzones hbays] at hcompletes hframe
      refine ⟨_, hcompletes, hframe, ?_, ?_, ?_, ?_, ?_, startHead_bay⟩ <;> rw [startHead_calls] <;> rfl
  · intro htimer
    obtain ⟨lines, hcompletes⟩ := completes_staffRepeatExpiry hs htimer
    constructor
    · intro hidle
      have hleft : (if s.alarm.stage = .alert then
          (s.timed expiry lines s.calls.staffOver).staffBecomesDue
          else s.timed expiry lines s.calls.staffOver) =
          s.timed expiry lines s.calls.staffOver :=
        ite_eq_right_iff.mpr fun halert => staffBecomesDue_of_none (hidle.resolve_left (not_not_intro halert))
      rw [hleft] at hcompletes
      exact ⟨_, hcompletes, rfl, rfl, rfl, rfl⟩
    · intro hstage hzones hcurrent set
      have hbelow : s.alarm.stage ≠ .evacuate := by rw [hstage]; decide
      have hframe := (staffBecomesDue_sequenced (s.timed expiry lines s.calls.staffOver)).timed_frame
      rw [if_pos hstage] at hcompletes
      rw [staffBecomesDue_starts (s := s.timed expiry lines s.calls.staffOver) hzones hcurrent hbelow]
        at hcompletes hframe
      refine ⟨_, hcompletes, hframe, ?_⟩
      cases hbays : anyBay set with
      | false =>
        rw [startStaff_waits (s := (s.timed expiry lines s.calls.staffOver).staffMadeDue) hbays]
        exact ⟨rfl, rfl, rfl, nofun, fun _ => ⟨hcurrent, rfl, rfl⟩⟩
      | true =>
        rw [startStaff_plays (s := (s.timed expiry lines s.calls.staffOver).staffMadeDue) hbays]
        exact ⟨rfl, rfl, playOn_panel _ _ _ _, fun _ => ⟨rfl, rfl, rfl, playOn_bay _ _ _ _⟩, nofun⟩

end Sys2Proof.Machine
end

section
/-!
PLAY EVENTS (R151, R168). What PLAY_COMPLETE and PLAYER_FAULT make of the module's record and of the outstanding set (O53).
-/
namespace Sys2Proof.Machine

/-! ### At the module (R168) -/

/-- R168: of the commands that an exchange carries the last one decides what plays. -/
theorem foldl_take (commands : List CallCommand) (playing : Option Play) :
    commands.foldl (fun _ c => c.take) playing = commands.getLast?.elim playing CallCommand.take := by
  rcases commands.eq_nil_or_concat with rfl | ⟨init, last, rfl⟩
  · rfl
  · simp

/-- What a module plays after the exchange under way has reached it. -/
theorem playingAfter_eq (playing : Option Play) (sent : Option ControllerPart) :
    playingAfter playing sent = match sent with
      | some (.callCommands commands) =>
        (match commands.getLast? with
          | some (.play p) => some p
          | some .stop => none
          | none => playing)
      | _ => playing := by
  rcases sent with _ | _ | _ | _ | commands
  case some.callCommands =>
    refine (foldl_take commands playing).trans ?_
    dsimp only
    rcases commands.getLast? with _ | _ | _ <;> rfl
  all_goals rfl

section
variable {s : State} {b : Bay} {play : Byte}

/-- R168: the answer with the play event has reached the module, and the play of its number has ended there. -/
def BayRecord.played (bay : BayRecord) (play : Byte) (now : Nat) : BayRecord :=
  { bay with
    missed := 0, sent := none, taken := bay.sent.orElse fun _ => bay.taken, reachedAt := now
    playing := if (playingAfter bay.playing bay.sent).map (·.number) = some play then none
      else playingAfter bay.playing bay.sent }

theorem withBay_withBay (x y : BayRecord) : (s.withBay b x).withBay b y = s.withBay b y := by cases b <;> rfl

theorem playEnds_eq : s.playEnds b play = s.withBay b ((s.bay b).played play s.clock.now) := by
  have hended (x : BayRecord) : x.endPlay play =
      { x with playing := if x.playing.map (·.number) = some play then none else x.playing } := by
    unfold BayRecord.endPlay
    split <;> rfl
  rw [State.playEnds, State.answered, bay_withBay, withBay_withBay, hended]
  rfl

/-! ### At the Call Sequencer (R151) -/

theorem bayDone_of_not_outstanding (h : s.calls.outstanding.get b = false) : s.bayDone b = s :=
  if_neg (Bool.eq_false_iff.mp h)

/-- A bay leaves an outstanding set that holds another one. -/
theorem bayDone_left (h : s.calls.outstanding.get b = true)
    (hleft : anyBay (s.calls.outstanding.set b false) = true) :
    s.bayDone b = s.withCalls { s.calls with outstanding := s.calls.outstanding.set b false } :=
  (if_pos h).trans (if_pos hleft)

/-- The last bay leaves the outstanding set of a queue call's last repeat, without drain: the call ends, and the gap
starts. -/
theorem bayDone_last {call : PlayingCall} (h : s.calls.outstanding.get b = true)
    (hleft : anyBay (s.calls.outstanding.set b false) = false) (hcurrent : s.calls.current = .queue call)
    (hrepeats : call.entry.repeats ≤ 1) (hdrain : s.calls.drain = false) :
    s.bayDone b = s.withCalls { s.calls with
      outstanding := noBays, current := .none, gap := some (s.clock.now + 2000) } := by
  have hdone : s.bayDone b =
      (s.withCalls { s.calls with outstanding := s.calls.outstanding.set b false }).playDone :=
    (if_pos h).trans (if_neg (Bool.eq_false_iff.mp hleft))
  have hlast : ¬0 < call.entry.repeats - 1 := by omega
  simp only [hdone, State.playDone, State.withCalls_calls, hcurrent, hlast, false_and, if_false, State.startGap,
    State.setCurrent, hdrain, Bool.false_eq_true]
  rfl

/-- R151: a fault at a bay of the outstanding set is logged before the bay leaves it; another one is not heard. -/
theorem bayFault_eq :
    s.bayFault b = if s.calls.outstanding.get b then (s.log (.callPlayerFault b)).bayDone b else s := rfl

/-! ### The events -/

/-- A play event of an ONLINE CALL module is handed where its number is the bay's. -/
theorem playEvent_eq (hstate : (s.bay b).state = .online) (hcall : (s.bay b).sensed = some .call) (event : State → State) :
    s.playEvent b play event =
      if (s.bay b).play = play then event (s.playEnds b play) else s.playEnds b play := by
  have honline : s.online b .call = true := by simp [State.online, hstate, hcall]
  exact if_pos honline

/-- The two play events end the play at the module, and under the bay's number each is handed to the Call Sequencer. -/
theorem completes_playEvents (hs : s.power.running = true) (hstate : (s.bay b).state = .online)
    (hcall : (s.bay b).sensed = some .call) :
    completes (.playComplete b play) s
        (if (s.bay b).play = play then (s.playEnds b play).bayDone b else s.playEnds b play) ∧
      completes (.playerFault b play) s
        (if (s.bay b).play = play then (s.playEnds b play).bayFault b else s.playEnds b play) := by
  have hevent (event : State → State) : whenRunning s (fun t => t.playEvent b play event) =
      .next (if (s.bay b).play = play then event (s.playEnds b play) else s.playEnds b play).settle := by
    rw [whenRunning, if_pos hs, playEvent_eq hstate hcall]
  exact ⟨(completes_iff s rfl).mpr (hevent (State.bayDone · b)), (completes_iff s rfl).mpr (hevent (State.bayFault · b))⟩

/-- An event under another number, or at a bay that is not outstanding, ends the play at the module alone. -/
theorem completes_unheard (hs : s.power.running = true) (hstate : (s.bay b).state = .online)
    (hcall : (s.bay b).sensed = some .call) (h : (s.bay b).play ≠ play ∨ s.calls.outstanding.get b = false) :
    completes (.playComplete b play) s (s.playEnds b play) ∧ completes (.playerFault b play) s (s.playEnds b play) := by
  have hevents := completes_playEvents (play := play) hs hstate hcall
  rcases h with hnumber | hout
  · rwa [if_neg hnumber, if_neg hnumber] at hevents
  · have hout' : (s.playEnds b play).calls.outstanding.get b = false := hout
    rwa [bayDone_of_not_outstanding hout', bayFault_eq, if_neg (Bool.eq_false_iff.mp hout'), ite_self] at hevents

/-- An event under the bay's number at an outstanding bay is taken by the Call Sequencer; a fault after its entry. -/
theorem completes_heard (hs : s.power.running = true) (hstate : (s.bay b).state = .online)
    (hcall : (s.bay b).sensed = some .call) (hnumber : (s.bay b).play = play)
    (hout : s.calls.outstanding.get b = true) :
    completes (.playComplete b play) s ((s.playEnds b play).bayDone b) ∧
      completes (.playerFault b play) s (((s.playEnds b play).log (.callPlayerFault b)).bayDone b) := by
  have hevents := completes_playEvents (play := play) hs hstate hcall
  have hout' : (s.playEnds b play).calls.outstanding.get b = true := hout
  rwa [if_pos hnumber, if_pos hnumber, bayFault_eq, if_pos hout'] at hevents

end

/-- Settles O53: the event is heard or not, and a heard one leaves the outstanding set with a bay or with none. -/
theorem playEventsEmptyTheOutstandingSet : Obligations.PlayEventsEmptyTheOutstandingSet := by
  intro b play s hs hstate hcall bay playing answered both
  have hanswered : s.playEnds b play = answered := by
    rw [playEnds_eq, BayRecord.played, playingAfter_eq] <;> rfl
  refine ⟨fun h => ?_, fun hnumber hout => ⟨fun hleft => ?_, fun call hleft hcurrent hrepeats hdrain => ?_⟩⟩
  · have hunheard := completes_unheard hs hstate hcall h
    rwa [hanswered] at hunheard
  · have hany := (anyBay_iff _).mpr hleft
    have hheard := completes_heard hs hstate hcall hnumber hout
    rw [hanswered] at hheard
    rwa [bayDone_left (s := answered) hout hany, bayDone_left (s := answered.log _) hout hany] at hheard
  · have hnone := (anyBay_eq_false_iff _).mpr hleft
    have hheard := completes_heard hs hstate hcall hnumber hout
    rw [hanswered] at hheard
    rwa [bayDone_last (s := answered) hout hnone hcurrent hrepeats hdrain,
      bayDone_last (s := answered.log _) hout hnone hcurrent hrepeats hdrain] at hheard

end Sys2Proof.Machine
end

section
/-!
USERS OF A LOST MODULE (R165). What the notices of the Bay Controller leave of every bay's record: all but the play number
and the commands not yet carried, which the Call Sequencer writes.
-/
namespace Sys2Proof.Machine

/-! ### Records that differ in the call commands alone -/

/-- The record after the Call Sequencer's commands to the bay, if any (R168). -/
def BayRecord.Commanded (before after : BayRecord) : Prop :=
  ∃ play commands, after = { before with play := play, commands := commands }

theorem BayRecord.Commanded.refl (x : BayRecord) : x.Commanded x := ⟨x.play, x.commands, rfl⟩

theorem BayRecord.Commanded.trans {x y z : BayRecord} (h : x.Commanded y) (h' : y.Commanded z) : x.Commanded z := by
  obtain ⟨_, _, rfl⟩ := h
  obtain ⟨play, commands, rfl⟩ := h'
  exact ⟨play, commands, rfl⟩

theorem withBay_commanded (s : State) (b c : Bay) (play : Byte) (commands : List CallCommand) :
    (s.bay c).Commanded ((s.withBay b { s.bay b with play := play, commands := commands }).bay c) := by
  by_cases h : c = b
  · subst h
    rw [bay_withBay]
    exact ⟨play, commands, rfl⟩
  · rw [bay_withBay_of_ne s h]
    exact .refl _

theorem Move.bay {ps : List Part} {s t : State} (h : Move ps s t) (hp : .bays ∉ ps) (b : Bay) : t.bay b = s.bay b :=
  congrArg (PerBay.get · b) (h.bays hp)

theorem Reaction.commanded {s t : State} (h : Reaction s t) (b : Bay) : (s.bay b).Commanded (t.bay b) := by
  induction h with
  | trans _ _ ih ih' => exact ih.trans ih'
  | command s c play commands => exact withBay_commanded s c b play commands
  | fault h _ =>
    rw [(h.move (ps := [])).bay (by decide)]
    exact .refl _
  | eval s z =>
    rw [(evalZone_move s z).bay (by decide)]
    exact .refl _
  | _ => exact .refl _

/-! ### The relation -/

/-- From `s` to `t` the bays' records stand but for call commands, and so do the faults of the bays and the generation. -/
structure Spares (s t : State) : Prop where
  reacts : Reacts s t
  bays : ∀ b, (s.bay b).Commanded (t.bay b)

namespace Spares

variable {s t u : State}

theorem refl (s : State) : Spares s s := ⟨.refl s, fun _ => .refl _⟩

theorem trans (h : Spares s t) (h' : Spares t u) : Spares s u :=
  ⟨h.reacts.trans h'.reacts, fun b => (h.bays b).trans (h'.bays b)⟩

theorem ite {c : Prop} [Decidable c] (h : Spares s t) (h' : Spares s u) : Spares s (if c then t else u) := by
  split <;> assumption

theorem log (s : State) (e : LogEvent) : Spares s (s.log e) := ⟨log_reacts s e, fun _ => .refl _⟩

theorem calls (s : State) (x : Calls) : Spares s (s.withCalls x) := ⟨withCalls_reacts s x, fun _ => .refl _⟩

theorem of_reaction (hreacts : Reacts s t) (h : Reaction s t) : Spares s t := ⟨hreacts, h.commanded⟩

theorem of_move {ps : List Part} (hreacts : Reacts s t) (h : Move ps s t) (hp : .bays ∉ ps) : Spares s t :=
  ⟨hreacts, fun b => by rw [h.bay hp]; exact .refl _⟩

end Spares

section
variable (s : State)

/-! ### A CALL module (R156) -/

theorem startTest_spares : Spares s s.startTest := .of_reaction (startTest_reacts s) (startTest_reaction s)

theorem stopOn_spares (set : PerBay Bool) : Spares s (s.stopOn set) :=
  .of_reaction (.foldl (fun t _ => .ite (withBay_reacts t _ _) (.refl t)) _ s)
    (.foldl (fun t _ => .ite (.command t _ _ _) (.refl t)) _ s)

theorem startGap_spares : Spares s s.startGap := .ite (startTest_spares s) (.calls s _)

theorem playDone_spares : Spares s s.playDone := by
  have hended : Spares s (s.setCurrent .none noBays) := .calls s _
  unfold State.playDone
  split
  · exact .refl s
  · exact .ite (.of_reaction (play_reacts s _ _ _ _ _) (play_reaction s _ _ _ _ _)) (hended.trans (startGap_spares _))
  · exact .ite (hended.trans (.of_reaction (startStaff_reacts _) (startStaff_reaction _)))
      (hended.trans (startGap_spares _))
  · exact hended.trans (.of_reaction (startStanding_reacts _) (startStanding_reaction _))

theorem bayDone_spares (b : Bay) : Spares s (s.bayDone b) :=
  have hleft : Spares s (s.withCalls { s.calls with outstanding := s.calls.outstanding.set b false }) := .calls s _
  .ite (.ite hleft (hleft.trans (playDone_spares _))) (.refl s)

theorem callLost_spares (b : Bay) : Spares s (s.callLost b) := by
  unfold State.callLost
  split
  · exact .refl s
  · exact .ite ((stopOn_spares s _).trans <| (Spares.calls _ _).trans <| (Spares.log _ _).trans (startTest_spares _))
      (.calls s _)
  · exact bayDone_spares s b

/-- A CALL module that comes ONLINE may be given a call at once (R156). -/
theorem callCameOnline_reaction (b : Bay) : Reaction s (s.callCameOnline b) :=
  .ite (.refl s) <| .trans (.ite (.ite (.trans (.command s b _ _) (.calls _ _)) (.refl s)) (startStanding_reaction s))
    (startTest_reaction _)

/-! ### A DRIVE module and a LOOP module (R60, R106) -/

theorem driveLost_reacts : Reacts s s.driveLost := by
  unfold State.driveLost
  split
  · exact .refl s
  · exact .refl s
  · exact raiseFault_reacts s rfl _
  · exact ((motionEnd_reacts s _).trans ((withCurtain_reacts _ _).trans (enterState_reacts _ _ _))).trans
      (raiseFault_reacts _ rfl _)

theorem loopLost_reacts (b : Bay) : Reacts s (s.loopLost b) :=
  (withDetection_reacts s _).trans (.foldl evalZone_reacts _ _)

/-! ### The notices -/

theorem userLoses_spares (b : Bay) (type : Option ModuleType) : Spares s (s.userLoses b type) := by
  cases type with
  | none => exact .refl s
  | some type =>
    cases type with
    | loop =>
      exact (Spares.of_move (loopLost_reacts s b) (loopLost_move s b) (by decide)).trans
        (.of_reaction (react_reacts _) (react_reaction _))
    | drive => exact .of_move (driveLost_reacts s) (driveLost_move s) (by decide)
    | call => exact callLost_spares s b
    | dimmer => exact .refl s

theorem onlineNotice_commanded (b : Bay) (type : ModuleType) (c : Bay) :
    (s.bay c).Commanded ((s.onlineNotice b type).bay c) := by
  cases type with
  | drive =>
    rw [State.onlineNotice, (driveOnline_move s).bay (by decide)]
    exact .refl _
  | call => exact (callCameOnline_reaction s b).commanded c
  | loop => exact .refl _
  | dimmer => exact .refl _

end

end Sys2Proof.Machine
end

section
/-!
A BAY'S RECORD, ITS KEY AND ITS LEAVING (R158, R163, R165). What a change of a bay's record makes of the state, and what a
bay comes to that leaves its seat or its use.
-/
namespace Sys2Proof.Machine

/-! ### A changed record (R158) -/

/-- Beside the clock, the lines and the panel nothing but the one bay's record has changed, a mark apart. -/
def OnlyBay (s : State) (b : Bay) (record : BayRecord) (u : State) : Prop :=
  u = (((s.withClock u.clock).withLines u.lines).withBay b record).withPanel u.panel ∨
    u = ((((s.withClock u.clock).withLines u.lines).withBay b record).withPanel u.panel).mark

namespace OnlyBay

variable {s u : State} {b : Bay} {record : BayRecord}

theorem log (h : OnlyBay s b record u) (e : LogEvent) : OnlyBay s b record (u.log e) := by
  rcases h with heq | heq
  · exact .inl ((congrArg (State.withPanel · (u.log e).panel) heq).trans rfl)
  · exact .inr ((congrArg (State.withPanel · (u.log e).panel) heq).trans rfl)

theorem of_advanced {time : Nat} (h : OnlyBay (s.advanceTo time) b record u) : OnlyBay s b record u := by
  rw [advanceTo_eq] at h
  exact h

end OnlyBay

section
variable (s : State) (b : Bay) (record : BayRecord)

/-- The key of MISSEATED follows first, then that of FAILED. -/
theorem changeBay_faults : ∃ t, FaultMove (.bayMisseated b) (s.withBay b record) t ∧
    t.stands (.bayMisseated b) = (record.state == .misseated) ∧
    FaultMove (.bayFailed b) t (s.changeBay b record) ∧
    (s.changeBay b record).stands (.bayFailed b) = (record.state == .failed) := by
  unfold State.changeBay State.bayKey
  simp only [bay_withBay]
  exact ⟨_, setFault_move _ _ _ _, setFault_stands _ _ _ _, setFault_move _ _ _ _, setFault_stands _ _ _ _⟩

theorem changeBay_failed : (s.changeBay b record).stands (.bayFailed b) = (record.state == .failed) := by
  obtain ⟨_, -, -, -, hfailed⟩ := changeBay_faults s b record
  exact hfailed

theorem changeBay_misseated : (s.changeBay b record).stands (.bayMisseated b) = (record.state == .misseated) := by
  obtain ⟨_, -, hmisseated, hmove, -⟩ := changeBay_faults s b record
  rw [hmove.stands_other (other := .bayMisseated b) nofun, hmisseated]

theorem changeBay_bay : (s.changeBay b record).bay b = record := by
  obtain ⟨_, hfirst, -, hsecond, -⟩ := changeBay_faults s b record
  rw [(hsecond.move (ps := [])).bay (by decide), (hfirst.move (ps := [])).bay (by decide), bay_withBay]

theorem changeBay_clock : (s.changeBay b record).clock = s.clock := (changeBay_move s b record).clock (by decide)

theorem changeBay_only : OnlyBay s b record (s.changeBay b record) := by
  obtain ⟨t, hfirst, -, hsecond, -⟩ := changeBay_faults s b record
  have hframe : s.changeBay b record = ((s.withBay b record).withPanel (s.changeBay b record).panel).withComposer
      (s.changeBay b record).composer := by
    conv_lhs => rw [hsecond.frame, hfirst.frame]
    rfl
  have hmove := changeBay_move s b record
  unfold OnlyBay
  rw [hmove.clock (by decide), hmove.lines (by decide)]
  refine (hfirst.composer.trans hsecond.composer).imp (fun hmark => ?_) (fun hmark => ?_) <;>
    (conv_lhs => rw [hframe, hmark]) <;> rfl

theorem changeBay_only_bay : OnlyBay s b ((s.changeBay b record).bay b) (s.changeBay b record) := by
  rw [changeBay_bay]
  exact changeBay_only s b record

/-! ### The clock that comes to an expiry -/

theorem advanceTo_bay (time : Nat) : (s.advanceTo time).bay b = s.bay b := (advanceTo_moved s time).bay (by decide) b

theorem advanceTo_wanted (time : Nat) (sense : ModuleType) : (s.advanceTo time).wanted b sense = s.wanted b sense := by
  rw [advanceTo_eq]
  cases sense <;> rfl

end

/-! ### A bay that leaves its seat or its use (R163, R165) -/

/-- The state `u` is what `s` comes to when the bay takes the record and an ONLINE one hands a lost notice of the cause. -/
structure Leaves (s : State) (b : Bay) (record : BayRecord) (cause : Option LostCause) (u : State) : Prop where
  bay : BayRecord.Commanded { record with lost := if (s.bay b).state = .online then cause else record.lost } (u.bay b)
  misseated : u.stands (.bayMisseated b) = (record.state == .misseated)
  failed : u.stands (.bayFailed b) = (record.state == .failed)
  generation : u.alarm.generation = s.alarm.generation
  move : Move alarmParts s u

section
variable {s : State} {b : Bay} {record : BayRecord} {cause : Option LostCause} {logged : State → State}

theorem leave_of_online (h : (s.bay b).state = .online) : s.leave b record cause logged =
    (logged (s.changeBay b record)).lostNotice b cause (s.bay b).sensed := if_pos h

theorem leave_of_not_online (h : (s.bay b).state ≠ .online) :
    s.leave b record cause logged = logged (s.changeBay b record) := if_neg h

theorem lostNotice_bay (t : State) (type : Option ModuleType) :
    BayRecord.Commanded { t.bay b with lost := cause } ((t.lostNotice b cause type).bay b) := by
  have hspares := (userLoses_spares (t.withBay b { t.bay b with lost := cause }) b type).bays b
  rwa [bay_withBay] at hspares

theorem lostNotice_reacts (t : State) (type : Option ModuleType) : Reacts t (t.lostNotice b cause type) :=
  (withBay_reacts t b _).trans (userLoses_spares _ b type).reacts

theorem leave_leaves (hspares : ∀ t, Spares t (logged t)) (hmoves : ∀ t, Move [.bays] t (logged t)) :
    Leaves s b record cause (s.leave b record cause logged) := by
  have hlogged : Spares (s.changeBay b record) (logged (s.changeBay b record)) := hspares _
  have hrecord := hlogged.bays b
  rw [changeBay_bay] at hrecord
  have hreacts : Reacts (s.changeBay b record) (s.leave b record cause logged) :=
    .ite (hlogged.reacts.trans (lostNotice_reacts _ _)) hlogged.reacts
  refine ⟨?_, ?_, ?_, ?_, leave_move s b record cause hmoves⟩
  · by_cases honline : (s.bay b).state = .online
    · rw [leave_of_online honline, if_pos honline]
      obtain ⟨play, commands, hbay⟩ := hrecord
      have hlost := lostNotice_bay (b := b) (cause := cause) (logged (s.changeBay b record)) (s.bay b).sensed
      rw [hbay] at hlost
      exact BayRecord.Commanded.trans ⟨play, commands, rfl⟩ hlost
    · rw [leave_of_not_online honline, if_neg honline]
      exact hrecord
  · rw [hreacts.stands _ rfl, changeBay_misseated]
  · rw [hreacts.stands _ rfl, changeBay_failed]
  · rw [hreacts.generation, (changeBay_move s b record).alarm (by decide)]

theorem removeModule_leaves : Leaves s b (s.bay b).vacate (some .removed) (s.removeModule b) :=
  leave_leaves (fun t => .log t _) fun t => log_move t _

/-- The record with no log entry of its own to follow. -/
theorem leave_id_leaves : Leaves s b record cause (s.leave b record cause id) := leave_leaves .refl (.refl _)

theorem leave_id_only (h : (s.bay b).state ≠ .online) :
    OnlyBay s b ((s.leave b record cause id).bay b) (s.leave b record cause id) := by
  rw [leave_of_not_online h]
  exact changeBay_only_bay s b _

theorem failBay_leaves (reason : FailureReason) :
    Leaves s b ((s.bay b).fail reason) reason.lostCause (s.failBay b reason) := leave_id_leaves

end

end Sys2Proof.Machine
end

section
/-!
SEATING (R159, R160, R163). What a change of the presence reading and the expiry of the debounce make of a bay, by its
state (O54).
-/
namespace Sys2Proof.Machine

section
variable {s : State} {b : Bay}

/-! ### A change of the presence reading -/

theorem completes_presenceChange_same (hs : s.power.running = true) : completes (.presenceChange b (s.bay b).presence) s s := by
  rw [completes_iff s rfl]
  change execPresenceChange b (s.bay b).presence s = _
  rw [execPresenceChange, whenRunning, if_pos hs, if_pos rfl]

theorem completes_presenceChange {p : Presence} (hs : s.power.running = true) (h : (s.bay b).presence ≠ p) :
    completes (.presenceChange b p) s (s.takePresence b p) := by
  rw [completes_iff s rfl]
  change execPresenceChange b p s = _
  rw [execPresenceChange, whenRunning, if_pos hs, if_neg h]

theorem takePresence_of_first {p : Presence} (hstate : (s.bay b).state = .empty) (hp : p ≠ .none) :
    s.takePresence b p = s.settleBay b p := by
  unfold State.takePresence
  cases p with
  | none => exact absurd rfl hp
  | one => rw [hstate]
  | both => rw [hstate]

theorem takePresence_of_rocking {p : Presence} (hstate : (s.bay b).state = .online ∨ (s.bay b).state = .powering)
    (hp : p ≠ .none) : s.takePresence b p = s.rock b p := by
  unfold State.takePresence
  cases p with
  | none => exact absurd rfl hp
  | one => rcases hstate with hstate | hstate <;> rw [hstate]
  | both => rcases hstate with hstate | hstate <;> rw [hstate]

theorem takePresence_of_removal
    (hstate : (s.bay b).state = .powering ∨ (s.bay b).state = .online ∨ (s.bay b).state = .failed) :
    s.takePresence b .none = s.removeModule b := by
  unfold State.takePresence
  rcases hstate with hstate | hstate | hstate <;> rw [hstate]

/-- R163: MODULE REMOVED is the newest entry where no lost notice follows it (log entry 78). -/
theorem removeModule_of_unused (h : (s.bay b).state ≠ .online) :
    (s.removeModule b).panel.log.getLast?.map (·.event) = some (.moduleRemoved b) ∧
      OnlyBay s b ((s.removeModule b).bay b) (s.removeModule b) := by
  rw [State.removeModule, leave_of_not_online h, log_newest]
  exact ⟨rfl, (changeBay_only_bay s b _).log _⟩

/-! ### The expiry of the debounce -/

section
variable {expiry : Nat} {sense : ModuleType}

theorem completes_debounceExpiry (hs : s.power.running = true) (h : (s.bay b).debounce = some expiry) :
    completes (.debounceExpiry b sense) s ((s.advanceTo expiry).debounced b sense) := by
  rw [completes_iff s rfl]
  change execDebounceExpiry b sense s = _
  simp only [execDebounceExpiry, whenRunning, if_pos hs, h]

theorem completes_debounceExpiry_seated (hs : s.power.running = true) (h : (s.bay b).debounce = some expiry)
    (hstate : (s.bay b).state = .settling) (hpresence : (s.bay b).presence = .both) :
    completes (.debounceExpiry b sense) s ((s.advanceTo expiry).typeRead b sense) := by
  have hcompletes := completes_debounceExpiry (sense := sense) hs h
  rwa [State.debounced, advanceTo_bay, hstate, hpresence] at hcompletes

theorem completes_debounceExpiry_halfSeated (hs : s.power.running = true) (h : (s.bay b).debounce = some expiry)
    (hstate : (s.bay b).state = .settling) (hpresence : (s.bay b).presence = .one) :
    completes (.debounceExpiry b sense) s ((s.advanceTo expiry).changeBay b (s.bay b).misseat) := by
  have hcompletes := completes_debounceExpiry (sense := sense) hs h
  rwa [State.debounced, advanceTo_bay, hstate, hpresence] at hcompletes

theorem completes_debounceExpiry_rocking (hs : s.power.running = true) (h : (s.bay b).debounce = some expiry)
    (hstate : (s.bay b).state = .powering ∨ (s.bay b).state = .online) (hpresence : (s.bay b).presence = .one) :
    completes (.debounceExpiry b sense) s
      ((s.advanceTo expiry).leave b (s.bay b).misseat (some .misseated) id) := by
  have hcompletes := completes_debounceExpiry (sense := sense) hs h
  rcases hstate with hstate | hstate <;>
    rwa [State.debounced, advanceTo_bay, hstate, hpresence] at hcompletes

/-- R160: the record of a wanted module. -/
theorem typeRead_of_wanted (h : s.wanted b sense = true) : s.typeRead b sense = s.changeBay b { s.bay b with
    state := .powering, sensed := some sense, debounce := none, ready := some (s.clock.now + 2000)
    supplies := ⟨true, sense == .loop, sense == .drive || sense == .call⟩ } := by
  have hsupplies : suppliesFor sense = ⟨true, sense == .loop, sense == .drive || sense == .call⟩ := by
    cases sense <;> rfl
  rw [← hsupplies]
  exact if_pos h

/-- R160: the record of an unwanted module. -/
theorem typeRead_of_unwanted (h : s.wanted b sense = false) : s.typeRead b sense =
    s.changeBay b (BayRecord.fail { s.bay b with sensed := some sense, debounce := none } .unwanted) :=
  if_neg (Bool.eq_false_iff.mp h)

end

end

/-- Settles O54: each clause by the branch of R159, R160 or R163 that its presence and its state take. -/
theorem seatingFollowsTheDebounce : Obligations.SeatingFollowsTheDebounce := by
  intro b s hs bay only
  refine ⟨fun p hstate hpresence hp => ?_, fun hstate => ⟨fun hpresence => ?_, fun hpresence => ?_⟩, fun p hpresence => ?_,
    fun expiry sense hstate hdebounce => ?_, fun hstate hpresence => ?_, fun expiry sense hstate hpresence hdebounce => ?_⟩
  · have hcompletes := completes_presenceChange hs (show (s.bay b).presence ≠ p from hpresence ▸ hp.symm)
    rw [takePresence_of_first hstate hp] at hcompletes
    exact ⟨_, hcompletes, changeBay_clock s b _, changeBay_only s b _⟩
  · have hcompletes := completes_presenceChange (b := b) (p := .one) hs (by rw [hpresence]; decide)
    rwa [takePresence_of_rocking hstate (by decide)] at hcompletes
  · have hcompletes := completes_presenceChange (b := b) (p := .both) hs (by rw [hpresence]; decide)
    rwa [takePresence_of_rocking hstate (by decide)] at hcompletes
  · subst hpresence
    exact completes_presenceChange_same hs
  · have hclock := advanceTo_clock s expiry
    refine ⟨fun hpresence hwanted => ?_, fun hpresence hwanted => ?_, fun hpresence => ?_⟩
    · have hcompletes := completes_debounceExpiry_seated (sense := sense) hs hdebounce hstate hpresence
      rw [typeRead_of_wanted (by rw [advanceTo_wanted, hwanted]), advanceTo_bay, hclock] at hcompletes
      exact ⟨_, hcompletes, (changeBay_clock _ b _).trans hclock, (changeBay_only _ b _).of_advanced⟩
    · have hcompletes := completes_debounceExpiry_seated (sense := sense) hs hdebounce hstate hpresence
      rw [typeRead_of_unwanted (by rw [advanceTo_wanted, hwanted])] at hcompletes
      refine ⟨_, hcompletes, ?_⟩
      rw [changeBay_bay]
      exact ⟨rfl, rfl, rfl, changeBay_failed _ b _, (changeBay_only _ b _).of_advanced⟩
    · refine ⟨_, completes_debounceExpiry_halfSeated hs hdebounce hstate hpresence, ?_⟩
      rw [changeBay_bay]
      exact ⟨rfl, rfl, changeBay_misseated _ b _, (changeBay_only _ b _).of_advanced⟩
  · have hcompletes := completes_presenceChange hs hpresence
    rw [takePresence_of_removal hstate] at hcompletes
    have hleaves := removeModule_leaves (s := s) (b := b)
    have hunused := removeModule_of_unused (s := s) (b := b)
    obtain ⟨play, commands, hrecord⟩ := hleaves.bay
    refine ⟨_, hcompletes, ?_⟩
    rw [hrecord] at hunused ⊢
    exact ⟨rfl, rfl, rfl, rfl, rfl, rfl, rfl, hleaves.misseated, hleaves.failed, hleaves.move.clock (by decide),
      hleaves.move.peers (by decide), hleaves.move.phase (by decide), hleaves.move.station (by decide),
      fun honline => if_pos honline, hunused⟩
  · have hleaves := leave_id_leaves (s := s.advanceTo expiry) (b := b) (record := bay.misseat) (cause := some .misseated)
    have hunused := leave_id_only (s := s.advanceTo expiry) (b := b) (record := bay.misseat) (cause := some .misseated)
    have hmove := ((advanceTo_moved s expiry).mono (by decide)).trans
      (hleaves.move.mono (qs := [.clock, .lines] ++ alarmParts) (by decide))
    obtain ⟨play, commands, hrecord⟩ := hleaves.bay
    refine ⟨_, completes_debounceExpiry_rocking hs hdebounce hstate hpresence, ?_⟩
    rw [advanceTo_bay] at hunused hrecord
    rw [hrecord] at hunused ⊢
    exact ⟨rfl, hpresence, rfl, rfl, rfl, hleaves.misseated,
      (hleaves.move.clock (by decide)).trans (advanceTo_clock s expiry), hmove.peers (by decide), hmove.phase (by decide),
      hmove.station (by decide), fun honline => if_pos honline,
      fun hpowering => (hunused (by rw [hpowering]; decide)).of_advanced⟩

end Sys2Proof.Machine
end

section
/-!
READY ANSWERS, FAILURES AND EXCHANGES (R161, R162, R164). What the answer of a module in POWERING makes of its bay, and the
events that fail it (O55); what an exchange with no answer leaves at the bay.
-/
namespace Sys2Proof.Machine

/-! ### An exchange with no answer (R164) -/

section
variable {s : State} {b : Bay}

theorem completes_exchangeNoAnswer (hs : s.power.running = true) (h : (s.bay b).state = .online) :
    completes (.exchangeNoAnswer b) s (s.unanswered b) := by
  rw [completes_iff s rfl]
  change execExchangeNoAnswer b s = _
  rw [execExchangeNoAnswer, whenRunning, if_pos hs, if_pos h]

/-- Log entry 26: the module has been reached or not, by a free value. -/
theorem lostExchange_eq : s.lostExchange b = (s.withBay b (if Config.exchangeReached s.draws then
    (s.bay b).reach s.clock.now else { s.bay b with sent := none })).withDraws (s.draws + 1) := by
  unfold State.lostExchange
  dsimp only
  cases Config.exchangeReached s.draws <;> rfl

theorem lostExchange_bay : (s.lostExchange b).bay b = if Config.exchangeReached s.draws then
    (s.bay b).reach s.clock.now else { s.bay b with sent := none } := by
  rw [lostExchange_eq]
  exact bay_withBay s b _

theorem lostExchange_keeps : ((s.lostExchange b).bay b).state = (s.bay b).state ∧
    ((s.lostExchange b).bay b).missed = (s.bay b).missed := by
  rw [lostExchange_bay]
  split <;> exact ⟨rfl, rfl⟩

/-- The missed run is one longer, and no fault has been judged. -/
def State.missedOnce (t : State) (b : Bay) : State :=
  t.withBay b { t.bay b with missed := min 3 ((t.bay b).missed + 1) }

/-- The exchange that was lost, with the missing sample that a DRIVE bay's is to the curtain (R122). -/
def State.exchangeLost (s : State) (b : Bay) : State :=
  if (s.bay b).sensed = some .drive then (s.lostExchange b).missingSample else s.lostExchange b

theorem unanswered_eq : s.unanswered b =
    if (((s.exchangeLost b).missedOnce b).bay b).missed = 3 then ((s.exchangeLost b).missedOnce b).failBay b .linkLost
    else (s.exchangeLost b).missedOnce b := rfl

theorem exchangeLost_move : Move (.draws :: .bays :: drive) s (s.exchangeLost b) :=
  have hlost : Move (.draws :: .bays :: drive) s (s.lostExchange b) := (lostExchange_move s b).mono (by decide)
  .ite (hlost.trans ((missingSample_move _).mono (by decide))) hlost

theorem exchangeLost_bay : (s.exchangeLost b).bay b = (s.lostExchange b).bay b := by
  unfold State.exchangeLost
  split
  · exact (missingSample_move _).bay (by decide) b
  · rfl

theorem missedOnce_bay : ((s.exchangeLost b).missedOnce b).bay b =
    { (s.lostExchange b).bay b with missed := min 3 ((s.bay b).missed + 1) } := by
  rw [State.missedOnce, bay_withBay, exchangeLost_bay, lostExchange_keeps.2]

/-- R164: the third exchange without answer in a row fails the bay. -/
theorem unanswered_of_third (h : (s.bay b).missed = 2) :
    s.unanswered b = ((s.exchangeLost b).missedOnce b).failBay b .linkLost := by
  rw [unanswered_eq, missedOnce_bay, h]
  exact if_pos rfl

/-- R164: an exchange without answer before the third raises the run alone, at a bay that is no DRIVE bay. -/
theorem unanswered_of_fewer (h : (s.bay b).missed < 2) (hdrive : (s.bay b).sensed ≠ some .drive) :
    s.unanswered b = (s.withBay b { (if Config.exchangeReached s.draws then (s.bay b).reach s.clock.now
      else { s.bay b with sent := none }) with missed := (s.bay b).missed + 1 }).withDraws (s.draws + 1) := by
  have hrun : min 3 ((s.bay b).missed + 1) = (s.bay b).missed + 1 := by omega
  have hnot : (((s.exchangeLost b).missedOnce b).bay b).missed ≠ 3 := by
    rw [missedOnce_bay, hrun]
    exact ne_of_lt (show (s.bay b).missed + 1 < 3 by omega)
  rw [unanswered_eq, if_neg hnot, State.missedOnce, exchangeLost_bay, lostExchange_keeps.2, hrun, lostExchange_bay,
    State.exchangeLost, if_neg hdrive, lostExchange_eq]
  exact congrArg (State.withDraws · (s.draws + 1)) (withBay_withBay _ _)

end

/-! ### The ready answer (R161) -/

section
variable {s : State} {b : Bay} {type : ModuleType}

/-- R161, R164: the bay is ONLINE and its online notice has acted; the first exchange begins next (log entry 80). -/
def State.cameOnline (s : State) (b : Bay) (type : ModuleType) : State :=
  ((s.changeBay b ((s.bay b).comeOnline s.clock.now)).log (.moduleOnline b type)).onlineNotice b type

theorem completes_readyAnswer (hs : s.power.running = true) (hstate : (s.bay b).state = .powering) :
    completes (.readyAnswer b type) s (if (s.bay b).sensed = some type then (s.cameOnline b type).beginExchange b type
      else s.failBay b .wrongType) := by
  rw [completes_iff s rfl]
  change execReadyAnswer b type s = _
  rw [execReadyAnswer, whenRunning, if_pos hs, if_neg (not_not_intro hstate)]
  rfl

theorem beginExchange_bay (t : State) : (t.beginExchange b type).bay b = { t.bay b with
    sent := some (t.partFor b type), commands := [], exchangeAt := t.clock.now + periodOf type } := bay_withBay t b _

theorem cameOnline_bay :
    BayRecord.Commanded ((s.bay b).comeOnline s.clock.now) ((s.cameOnline b type).bay b) := by
  have hnotice := onlineNotice_commanded
    ((s.changeBay b ((s.bay b).comeOnline s.clock.now)).log (.moduleOnline b type)) b type b
  rwa [show ((s.changeBay b ((s.bay b).comeOnline s.clock.now)).log (.moduleOnline b type)).bay b =
    (s.bay b).comeOnline s.clock.now from changeBay_bay s b _] at hnotice

/-- Beside the bays the online notice may touch the drive or the calls. -/
theorem cameOnline_move : Move (.bays :: .calls :: drive) s (s.cameOnline b type) := by
  have hnotice (t : State) : Move (.bays :: .calls :: drive) t (t.onlineNotice b type) := by
    cases type with
    | drive => exact (driveOnline_move t).mono (by decide)
    | call => exact (callCameOnline_move t b).mono (by decide)
    | loop => exact .refl _ t
    | dimmer => exact .refl _ t
  exact ((changeBay_move s b _).mono (by decide)).trans ((log_move _ _).trans (hnotice _))

/-- The levels of a DIMMER module depend on the configuration and the groups alone (R140). -/
theorem channelLevels_congr {t : State} (hstation : t.station = s.station) (hlights : t.lights = s.lights) :
    t.channelLevels b = s.channelLevels b := by
  simp only [State.channelLevels, State.groupOutput, State.image, hstation, hlights]

/-- R161: but for a CALL module the entry of MODULE ONLINE is the newest one. -/
theorem cameOnline_log (h : type ≠ .call) :
    (s.cameOnline b type).panel.log.getLast?.map (·.event) = some (.moduleOnline b type) := by
  have hpanel (t : State) : (t.onlineNotice b type).panel = t.panel := by
    cases type with
    | call => exact absurd rfl h
    | drive =>
      change t.driveOnline.panel = _
      unfold State.driveOnline
      dsimp only
      split <;> rfl
    | loop => rfl
    | dimmer => rfl
  rw [State.cameOnline, hpanel, log_newest]
  rfl

end

/-! ### The events that fail a bay (R161, R162) -/

/-- The command fails the bay for the reason: every supply is off, the key stands, and a bay that was ONLINE has named the
cause of its loss. -/
def FailsBay (s : State) (b : Bay) (c : Instr) (reason : FailureReason) (lost : Option LostCause) : Prop :=
  ∃ u, completes c s u ∧ (u.bay b).state = .failed ∧ (u.bay b).reason = some reason ∧
    (u.bay b).supplies = ⟨false, false, false⟩ ∧ (u.bay b).debounce = none ∧ (u.bay b).ready = none ∧
    u.stands (.bayFailed b) = true ∧ u.peers = s.peers ∧ u.phase = s.phase ∧ u.station = s.station ∧
    u.alarm.generation = s.alarm.generation ∧ ((s.bay b).state = .online → (u.bay b).lost = lost)

section
variable {s t : State} {b : Bay} {c : Instr} {reason : FailureReason}

/-- The parts that may change before a bay fails. -/
abbrev beforeFailing : List Part := [.clock, .lines, .draws, .bays] ++ drive

theorem failsBay_of_failBay (hmove : Move beforeFailing s t) (hstate : (t.bay b).state = (s.bay b).state)
    (hcompletes : completes c s (t.failBay b reason)) : FailsBay s b c reason reason.lostCause := by
  have hleaves := failBay_leaves (s := t) (b := b) reason
  have hfailed : Move (beforeFailing ++ alarmParts) s (t.failBay b reason) :=
    (hmove.mono (by decide)).trans (hleaves.move.mono (by decide))
  obtain ⟨play, commands, hrecord⟩ := hleaves.bay
  refine ⟨_, hcompletes, ?_⟩
  rw [hrecord]
  exact ⟨rfl, rfl, rfl, rfl, rfl, hleaves.failed, hfailed.peers (by decide), hfailed.phase (by decide),
    hfailed.station (by decide), by rw [hleaves.generation, hmove.alarm (by decide)],
    fun honline => if_pos (hstate.trans honline)⟩

theorem readyAnswer_fails {type : ModuleType} (hs : s.power.running = true) (hstate : (s.bay b).state = .powering)
    (htype : (s.bay b).sensed ≠ some type) : FailsBay s b (.readyAnswer b type) .wrongType none := by
  have hcompletes := completes_readyAnswer (type := type) hs hstate
  rw [if_neg htype] at hcompletes
  exact failsBay_of_failBay (.refl _ s) rfl hcompletes

theorem readyTimer_fails {expiry : Nat} (hs : s.power.running = true) (hstate : (s.bay b).state = .powering)
    (hready : (s.bay b).ready = some expiry) : FailsBay s b (.readyTimerExpiry b) .noAnswer none := by
  have hcompletes : completes (.readyTimerExpiry b) s ((s.advanceTo expiry).failBay b .noAnswer) := by
    rw [completes_iff s rfl]
    change execReadyTimerExpiry b s = _
    simp only [execReadyTimerExpiry, whenRunning, if_pos hs, hstate, hready]
  exact failsBay_of_failBay ((advanceTo_moved s expiry).mono (by decide)) (by rw [advanceTo_bay]) hcompletes

theorem overcurrent_fails {supply : Supply} (hs : s.power.running = true)
    (hstate : (s.bay b).state = .powering ∨ (s.bay b).state = .online) :
    FailsBay s b (.overcurrent b supply) .overcurrent (some .overcurrent) := by
  have hcompletes : completes (.overcurrent b supply) s (s.failBay b .overcurrent) := by
    rw [completes_iff s rfl]
    change execOvercurrent b supply s = _
    rcases hstate with hstate | hstate <;> simp only [execOvercurrent, whenRunning, if_pos hs, hstate]
  exact failsBay_of_failBay (.refl _ s) rfl hcompletes

theorem exchangeNoAnswer_fails (hs : s.power.running = true) (hstate : (s.bay b).state = .online)
    (hmissed : (s.bay b).missed = 2) : FailsBay s b (.exchangeNoAnswer b) .linkLost (some .linkLost) := by
  have hcompletes := completes_exchangeNoAnswer hs hstate
  rw [unanswered_of_third hmissed] at hcompletes
  refine failsBay_of_failBay ?_ ?_ hcompletes
  · exact (exchangeLost_move.mono (by decide)).trans (withBay_move _ (by decide) _ _)
  · rw [missedOnce_bay]
    exact lostExchange_keeps.1

end

/-- Settles O55: the ready answer of the sensed type by what its bay comes to ONLINE with, the failures by their events. -/
theorem readyAnswerOrFailure : Obligations.ReadyAnswerOrFailure := by
  intro b s hs bay fails
  refine ⟨fun hstate => ⟨fun type htype => ?_, fun type htype => readyAnswer_fails hs hstate htype, fun expiry hready =>
    readyTimer_fails hs hstate hready⟩, fun hstate supply => overcurrent_fails hs hstate, fun hstate hmissed =>
    exchangeNoAnswer_fails hs hstate hmissed⟩
  have hcompletes := completes_readyAnswer (type := type) hs hstate
  rw [if_pos htype] at hcompletes
  have hmove : Move (.bays :: .calls :: drive) s (s.cameOnline b type) := cameOnline_move
  have hclock := hmove.clock (by decide)
  have hlevels := channelLevels_congr (b := b) (hmove.station (by decide)) (hmove.lights (by decide))
  obtain ⟨play, commands, hrecord⟩ := cameOnline_bay (s := s) (b := b) (type := type)
  refine ⟨_, hcompletes, ?_⟩
  rw [beginExchange_bay, hrecord, hclock]
  refine ⟨rfl, rfl, rfl, rfl, rfl, ?_, hmove.peers (by decide), hmove.phase (by decide), hmove.station (by decide),
    hmove.alarm (by decide), hclock, cameOnline_log⟩
  cases type with
  | loop => exact ⟨rfl, rfl⟩
  | drive => exact ⟨rfl, rfl⟩
  | dimmer => exact ⟨congrArg some (congrArg ControllerPart.dimmerLevels hlevels), rfl⟩
  | call => exact ⟨⟨_, rfl⟩, rfl⟩

end Sys2Proof.Machine
end

section
/-!
EXCHANGES AND WHAT A MODULE PRESENTS (R164, R166 to R168). What an exchange sends, what its answer makes of the record, and
what a module presents of what it has taken (O56).
-/
namespace Sys2Proof.Machine

section
variable {s : State} {b : Bay} {type : ModuleType}

/-! ### An exchange and its answer (R164) -/

/-- The record with an exchange begun at a moment. -/
def State.exchanging (s : State) (b : Bay) (type : ModuleType) (moment : Nat) : BayRecord :=
  { s.bay b with sent := some (s.partFor b type), commands := [], exchangeAt := moment + periodOf type }

theorem exchange_eq : ∃ lines, s.exchange b type =
    ((s.withClock { s.clock with now := max s.clock.now (s.bay b).exchangeAt }).withLines lines).withBay b
      (s.exchanging b type (max s.clock.now (s.bay b).exchangeAt)) := by
  refine ⟨(s.advanceTo (max s.clock.now (s.bay b).exchangeAt)).lines, ?_⟩
  have hpart (time : Nat) : (s.advanceTo time).partFor b type = s.partFor b type := by
    rw [advanceTo_eq]
    cases type <;> rfl
  rw [State.exchange, State.beginExchange, advanceTo_bay, hpart, advanceTo_clock]
  conv_lhs => rw [advanceTo_eq, advanceTo_clock, max_eq_right (le_max_left _ _)]
  rfl

theorem completes_bayExchange (hs : s.power.running = true) (hstate : (s.bay b).state = .online)
    (hsensed : (s.bay b).sensed = some type) : completes (.bayExchange b) s (s.exchange b type) := by
  rw [completes_iff s rfl]
  change execBayExchange b s = _
  simp only [execBayExchange, whenRunning, if_pos hs, hstate, hsensed]

/-- The answer of a module that hands nothing to its user. -/
theorem whenRunning_answered (hs : s.power.running = true) (hstate : (s.bay b).state = .online)
    (hsensed : (s.bay b).sensed = some type) :
    whenRunning s (fun s => if s.online b type then s.answered b else s) = .next (s.answered b).settle := by
  have honline : s.online b type = true := by simp [State.online, hstate, hsensed]
  rw [whenRunning, if_pos hs, if_pos honline]

theorem completes_dimmerAcknowledgement (hs : s.power.running = true) (hstate : (s.bay b).state = .online)
    (hsensed : (s.bay b).sensed = some .dimmer) : completes (.dimmerAcknowledgement b) s (s.answered b) :=
  (completes_iff s rfl).mpr (whenRunning_answered hs hstate hsensed)

theorem completes_callExchangeAnswer (hs : s.power.running = true) (hstate : (s.bay b).state = .online)
    (hsensed : (s.bay b).sensed = some .call) : completes (.callExchangeAnswer b) s (s.answered b) :=
  (completes_iff s rfl).mpr (whenRunning_answered hs hstate hsensed)

/-! ### What a module presents (R166 to R168) -/

theorem dimmerPresents_of_dark (h : (s.bay b).supplies.logic = false) : s.dimmerPresents b = List.replicate 8 0 :=
  if_neg (Bool.eq_false_iff.mp h)

theorem dimmerPresents_of_taken {levels : List Nat} (h : (s.bay b).supplies.logic = true)
    (htaken : (s.bay b).taken = some (.dimmerLevels levels)) : s.dimmerPresents b = levels := by
  rw [State.dimmerPresents, if_pos h, htaken]

theorem callPresents_eq :
    s.callPresents b = if (s.bay b).supplies.field then (s.bay b).playing else none := rfl

theorem drivePresents_of_unpowered (h : (s.bay b).supplies.field = false) : s.drivePresents b = ⟨false, none, false⟩ :=
  if_neg (Bool.eq_false_iff.mp h)

/-- R167: the set taken, until 300 ms have passed with no exchange reaching the module. -/
theorem drivePresents_of_taken {o : OutputSet} (h : (s.bay b).supplies.field = true)
    (htaken : (s.bay b).taken = some (.driveOutputs (some o))) : s.drivePresents b =
      if (s.bay b).reachedAt + 300 ≤ s.clock.now then ⟨false, some (o.governor.getD .normal), false⟩
      else ⟨o.hold, some (o.governor.getD .normal), o.motor⟩ := by
  rw [State.drivePresents, if_pos h, htaken]
  by_cases hlate : (s.bay b).reachedAt + 300 ≤ s.clock.now
  · have hsafe : s.failsSafe b = true := decide_eq_true hlate
    simp only [hsafe, if_pos hlate, Bool.not_true, Bool.and_false]
  · have hsafe : s.failsSafe b = false := decide_eq_false hlate
    simp only [hsafe, if_neg hlate, Bool.not_false, Bool.and_true]

end

/-- Settles O56: the exchange of each type by the part that it sends, its end by the answer, and the outputs by supply. -/
theorem exchangesCarryAndAreAnswered : Obligations.ExchangesCarryAndAreAnswered := by
  intro b s bay at' carries reached answered
  have hreached : bay.reach s.clock.now = reached :=
    congrArg (fun playing => { reached with playing := playing }) (playingAfter_eq bay.playing bay.sent)
  have hanswered : s.answered b = answered := by
    change s.withBay b { bay.reach s.clock.now with missed := 0 } = _
    rw [hreached]
  refine ⟨fun hs hstate => ?_, fun hlogic => dimmerPresents_of_dark hlogic, fun hlogic levels htaken =>
    dimmerPresents_of_taken hlogic htaken, fun hfield => ?_, fun hfield => ?_⟩
  · have hcarries (type : ModuleType) : carries type (s.partFor b type) (periodOf type) := by
      intro hsensed
      obtain ⟨lines, hexchange⟩ := exchange_eq (s := s) (b := b) (type := type)
      refine ⟨_, completes_bayExchange hs hstate hsensed, ?_⟩
      rw [hexchange]
      rfl
    refine ⟨hcarries .loop, hcarries .drive, hcarries .dimmer, hcarries .call, fun hsensed => ?_, fun hsensed => ?_,
      fun hdrive hmissed => ?_⟩
    · rw [← hanswered]
      exact completes_dimmerAcknowledgement hs hstate hsensed
    · rw [← hanswered]
      exact completes_callExchangeAnswer hs hstate hsensed
    · have hcompletes := completes_exchangeNoAnswer hs hstate
      rwa [unanswered_of_fewer hmissed hdrive, hreached] at hcompletes
  · rw [callPresents_eq, hfield, drivePresents_of_unpowered hfield]
    exact ⟨rfl, rfl, rfl⟩
  · rw [callPresents_eq, hfield]
    exact ⟨rfl, fun o htaken => drivePresents_of_taken hfield htaken⟩

end Sys2Proof.Machine
end

section
/-!
THE INCIDENT LOG AND THE FAULT LIST UNDER EVERY OPERATION (R174 to R176). Nearly every operation reaches them by new
entries and by fault keys raised or cleared; the rest are the read mark of the panel port, the end of a transaction and
the records that a start sets.
-/
namespace Sys2Proof.Machine

/-! ### The relation -/

/-- From `s` to `t` the log stays a ring with its unread entries newest, and the fault keys stay distinct. -/
structure KeepsPanel (s t : State) : Prop where
  ring : s.panel.ringGood → t.panel.ringGood
  keys : s.panel.keysDistinct → t.panel.keysDistinct

section
variable {s t u : State}

namespace KeepsPanel

theorem refl (s : State) : KeepsPanel s s := ⟨id, id⟩

theorem trans (h : KeepsPanel s t) (h' : KeepsPanel t u) : KeepsPanel s u := ⟨h'.ring ∘ h.ring, h'.keys ∘ h.keys⟩

theorem of_panel_eq (h : t.panel = s.panel) : KeepsPanel s t := ⟨fun hs => h ▸ hs, fun hs => h ▸ hs⟩

/-- What comes of a state depends on its panel alone. -/
theorem from_panel_eq (h : KeepsPanel t u) (e : t.panel = s.panel) : KeepsPanel s u := (of_panel_eq e).trans h

theorem ite {c : Prop} [Decidable c] (h : KeepsPanel s t) (h' : KeepsPanel s u) : KeepsPanel s (if c then t else u) := by
  split <;> assumption

end KeepsPanel

theorem Move.keepsPanel {ps : List Part} (h : Move ps s t) : KeepsPanel s t := ⟨h.panel.ring, h.panel.keys⟩

end

/-! ### The read mark (R176) -/

/-- Within a ring two entries of one number are the same one: the numbers before the next are 32 at most, and all
different. -/
theorem position_eq_of_number_eq {p : Panel} (h : p.ringGood) {i j : Nat} {e f : LogEntry} (hi : p.log[i]? = some e)
    (hj : p.log[j]? = some f) (hnumber : e.number = f.number) : i = j := by
  obtain ⟨hlen, hnumbered, -⟩ := h
  have hdistance : e.number + BitVec.ofNat 16 (p.log.length - i) = e.number + BitVec.ofNat 16 (p.log.length - j) := by
    rw [hnumbered i e hi, hnumber, hnumbered j f hj]
  have hmod := congrArg BitVec.toNat (add_left_cancel hdistance)
  rw [BitVec.toNat_ofNat, BitVec.toNat_ofNat] at hmod
  obtain ⟨hilen, -⟩ := List.getElem?_eq_some_iff.mp hi
  obtain ⟨hjlen, -⟩ := List.getElem?_eq_some_iff.mp hj
  omega

/-- The entry with the read mark, where it has the number. -/
def LogEntry.readAt (n : Half) (e : LogEntry) : LogEntry := if e.number = n then { e with read := true } else e

@[simp] theorem LogEntry.readAt_number (n : Half) (e : LogEntry) : (e.readAt n).number = e.number := by
  unfold LogEntry.readAt
  split <;> rfl

theorem LogEntry.readAt_unread {n : Half} {e : LogEntry} : (e.readAt n).read = false ↔ e.number ≠ n ∧ e.read = false := by
  unfold LogEntry.readAt
  split
  · next h => simp [h]
  · next h => simp [h]

theorem markRead_eq (p : Panel) (n : Half) :
    p.markRead n = if p.oldestUnread = some n then { p with log := p.log.map (LogEntry.readAt n) } else p := rfl

/-- The entries before the oldest unread one are read. -/
theorem oldestUnread_split {p : Panel} {n : Half} (h : p.oldestUnread = some n) :
    ∃ (k : Nat) (oldest : LogEntry), p.log[k]? = some oldest ∧ oldest.number = n ∧
      ∀ (i : Nat) (e : LogEntry), p.log[i]? = some e → i < k → e.read = true := by
  obtain ⟨oldest, hfound, hnumber⟩ := Option.map_eq_some_iff.mp h
  obtain ⟨-, k, hk, holdest, hbefore⟩ := List.find?_eq_some_iff_getElem.mp hfound
  refine ⟨k, oldest, List.getElem?_eq_some_iff.mpr ⟨hk, holdest⟩, hnumber, fun i e he hik => ?_⟩
  obtain ⟨hi, rfl⟩ := List.getElem?_eq_some_iff.mp he
  simpa using hbefore i hik

/-- R176: the oldest unread entry becomes the newest read one, so that the unread ones are the newest still. -/
theorem markRead_ringGood {p : Panel} (h : p.ringGood) (n : Half) : (p.markRead n).ringGood := by
  rw [markRead_eq]
  split
  next holdest =>
    obtain ⟨hlen, hnumbered, hunread⟩ := id h
    refine ⟨?_, fun i e he => ?_, ?_⟩
    · rwa [List.length_map]
    · dsimp only at he ⊢
      rw [List.getElem?_map, Option.map_eq_some_iff] at he
      obtain ⟨old, hold, rfl⟩ := he
      rw [List.length_map, LogEntry.readAt_number]
      exact hnumbered i old hold
    · obtain ⟨k, oldest, hk, hnumber, hbefore⟩ := oldestUnread_split holdest
      unfold Panel.unreadNewest at hunread ⊢
      rw [List.pairwise_map]
      rw [List.pairwise_iff_getElem] at hunread ⊢
      intro i j hi hj hij holder
      obtain ⟨-, hi'⟩ := LogEntry.readAt_unread.mp holder
      refine LogEntry.readAt_unread.mpr ⟨fun hj' => ?_, hunread i j hi hj hij hi'⟩
      have hjk : j = k := position_eq_of_number_eq h (List.getElem?_eq_getElem hj) hk (hj'.trans hnumber.symm)
      have hread := hbefore i _ (List.getElem?_eq_getElem hi) (hjk ▸ hij)
      exact Bool.noConfusion (hi'.symm.trans hread)
  next => exact h

theorem markRead_keepsPanel (s : State) (n : Half) : KeepsPanel s (s.withPanel (s.panel.markRead n)) := by
  refine ⟨fun h => markRead_ringGood h n, fun h => ?_⟩
  change (s.panel.markRead n).keysDistinct
  rw [markRead_eq]
  split
  · exact h
  · exact h

/-! ### Transactions and compositions (R26, R170) -/

section
variable (s : State)

theorem composeAt_keepsPanel (idle : Option Line) : KeepsPanel s (s.composeAt idle) := by
  obtain ⟨t, hfault, ht⟩ := composeAt_changes s idle
  have hpanel : t.panel = s.panel := by rw [ht]; rfl
  exact (hfault.move (ps := [])).keepsPanel.from_panel_eq hpanel

theorem settleAt_keepsPanel (idle : Option Line) : KeepsPanel s (s.settleAt idle) :=
  .ite (composeAt_keepsPanel s idle) (.refl s)

theorem concluded_keepsPanel : KeepsPanel s s.concluded := .ite (settleAt_keepsPanel s none) (.refl s)

/-- A transaction that begins or ends is of neither law. -/
theorem transaction_keepsPanel (transaction : Option Transaction) :
    KeepsPanel s (s.withPanel { s.panel with transaction := transaction }).concluded :=
  KeepsPanel.trans (t := s.withPanel { s.panel with transaction := transaction }) ⟨id, id⟩ (concluded_keepsPanel _)

theorem advanceTo_keepsPanel (time : Nat) : KeepsPanel s (s.advanceTo time) := (advanceTo_moved s time).keepsPanel

/-- R182: in reset the log and the fault list stand. -/
theorem halt_keepsPanel (power : Power) : KeepsPanel s (s.halt power) := ⟨id, id⟩

/-! ### Starts (R183, R185) -/

/-- A start begins with no fault, and a cold one with an empty log. -/
theorem setRecords_keepsPanel (kind : StartKind) (memory : ConfigMemory) : KeepsPanel s (s.setRecords kind memory) := by
  cases kind with
  | cold => exact ⟨fun _ => ringGood_of_empty rfl, fun _ => keysDistinct_of_empty rfl⟩
  | warm => exact ⟨id, fun _ => keysDistinct_of_empty rfl⟩

theorem makeStep_keepsPanel (p : StartProgress) (step : StartStep) : KeepsPanel s (State.makeStep p s step) := by
  have heffect : KeepsPanel s (s.stepEffect p step) := by
    cases step with
    | recordsSet => exact setRecords_keepsPanel s p.kind p.memory
    | startLogged => exact (log_move (ps := []) s _).keepsPanel
    | valuesTaken => exact (takeValues_move s p.presence).keepsPanel
    | countFixed => exact .of_panel_eq rfl
    | kindDecided => exact .refl s
    | imageValidated => exact .refl s
  exact heffect.trans (.of_panel_eq rfl)

theorem makeSteps_keepsPanel (p : StartProgress) (steps : List StartStep) : KeepsPanel s (s.makeSteps p steps) := by
  induction steps generalizing s with
  | nil => exact .refl s
  | cons step rest ih => exact (makeStep_keepsPanel s p step).trans (ih _)

theorem completeStart_keepsPanel : KeepsPanel s s.completeStart := by
  have hleave : KeepsPanel s s.leaveReset := .of_panel_eq rfl
  have hcompose : KeepsPanel s.outOfReset s.outOfReset.compose := composeAt_keepsPanel _ none
  rw [completeStart_eq]
  exact (hleave.trans (outOfReset_move s).keepsPanel).trans (hcompose.trans (.of_panel_eq rfl))

theorem finishStart_keepsPanel : KeepsPanel s s.finishStart := by
  unfold State.finishStart
  split
  · exact (makeSteps_keepsPanel s _ _).trans (completeStart_keepsPanel _)
  · exact .refl s

theorem start_keepsPanel (kind : StartKind) (memory : ConfigMemory) (presence : PerBay Presence)
    (reached : Option StartStep) : KeepsPanel s (s.start kind memory presence reached) := by
  have hbegin : KeepsPanel s (s.beginStart kind memory presence) := halt_keepsPanel s _
  cases reached with
  | none => exact (hbegin.trans (makeSteps_keepsPanel _ _ _)).trans (completeStart_keepsPanel _)
  | some step => exact hbegin.trans (makeSteps_keepsPanel _ _ _)

end

end Sys2Proof.Machine
end

section
/-!
THE INCIDENT LOG AND THE FAULT LIST AT EVERY STEP (O2, O3). One lemma for each shape of a command, and one for each
command that is not the plain use of its shape.
-/
namespace Sys2Proof.Machine

/-- Every next state of a result keeps the log and the fault list. -/
def ResultKeepsPanel (s : State) (r : Result) : Prop := ∀ t, r = .next t → KeepsPanel s t

section
variable {s t : State}

/-! ### The shapes of a command -/

theorem ResultKeepsPanel.next (h : KeepsPanel s t) : ResultKeepsPanel s (.next t) := fun _ e => Host.Outcome.next.inj e ▸ h

theorem ResultKeepsPanel.ite {c : Prop} [Decidable c] {r r' : Result} (h : ResultKeepsPanel s r)
    (h' : ResultKeepsPanel s r') : ResultKeepsPanel s (if c then r else r') := by
  split <;> assumption

theorem whenRunning_keepsPanel {effect : State → State} (h : KeepsPanel s (effect s)) :
    ResultKeepsPanel s (whenRunning s effect) :=
  .ite (.next (h.trans (settleAt_keepsPanel _ none))) (.next (.refl s))

theorem whenDue_keepsPanel (s : State) (due : Bool) : ResultKeepsPanel s (whenDue s due) :=
  whenRunning_keepsPanel (.ite (increment_move s).keepsPanel (.refl s))

theorem operatorRequest_keepsPanel {ps : List Part} (owner : State → State × Answer) (h : Move ps s (owner s).1) :
    ResultKeepsPanel s (operatorRequest s owner) :=
  .ite (.next (h.keepsPanel.trans (transaction_keepsPanel _ _))) (.next (transaction_keepsPanel s _))

end

section
variable (s : State)

/-! ### Lines, peers and node time -/

theorem frameReceived_keepsPanel (l : Line) (frame : List Byte) : ResultKeepsPanel s (execFrameReceived l frame s) :=
  .ite (.next ((frameEnds_move s l frame).keepsPanel.trans (settleAt_keepsPanel _ _))) (.next (.refl s))

theorem withLine_keepsPanel (l : Line) (f : LineController → LineController) :
    ResultKeepsPanel s (whenRunning s fun s => s.withLine l (f (s.line l))) := whenRunning_keepsPanel (.of_panel_eq rfl)

theorem lineSilence_keepsPanel (l : Line) : ResultKeepsPanel s (execLineSilenceTimeout l s) :=
  whenRunning_keepsPanel ((advanceTo_keepsPanel s _).trans (judgeSilence_move (ps := []) _ l).keepsPanel)

theorem composeSpacing_keepsPanel : ResultKeepsPanel s (execComposeSpacingExpiry s) :=
  whenRunning_keepsPanel (.ite (advanceTo_keepsPanel s _) (.refl s))

theorem routineComposition_keepsPanel : ResultKeepsPanel s (execRoutineComposition s) :=
  whenRunning_keepsPanel ((advanceTo_keepsPanel s _).trans (composeAt_keepsPanel _ none))

theorem duplicateCleared_keepsPanel : ResultKeepsPanel s (execDuplicateStationCleared s) := by
  refine whenRunning_keepsPanel ?_
  dsimp only
  split
  · exact (advanceTo_keepsPanel s _).trans <|
      ((withPeers_move (ps := [.peers]) _ (by decide) _).trans (clearFault_moved _ _)).keepsPanel
  · exact .refl s

theorem peerSilent_keepsPanel (station : Nat) : ResultKeepsPanel s (execPeerSilent station s) := by
  refine whenRunning_keepsPanel ?_
  split
  · exact .ite ((advanceTo_keepsPanel s _).trans <| (silenceRecord_move _ _).keepsPanel.trans
      (silenceNotices_move _ _).keepsPanel) (.refl s)
  · exact .refl s

theorem endOfJoining_keepsPanel : ResultKeepsPanel s (execEndOfJoining s) :=
  whenRunning_keepsPanel (.ite ((advanceTo_keepsPanel s _).trans (endJoining_move _).keepsPanel) (.refl s))

theorem nodeTimeIncrement_keepsPanel : ResultKeepsPanel s (execNodeTimeIncrement s) :=
  .ite (.next ((increment_move s).keepsPanel.trans (settleAt_keepsPanel _ none)))
    (.ite (.next (second_move s).keepsPanel) (.next (.refl s)))

/-! ### Timers of the blocks -/

theorem ackWindow_keepsPanel : ResultKeepsPanel s (execAckWindowExpiry s) := by
  refine whenRunning_keepsPanel ?_
  split
  · exact (alarmTimer_move s _ _ _ _).keepsPanel
  · exact .refl s

theorem investigation_keepsPanel : ResultKeepsPanel s (execInvestigationTimeout s) := by
  refine whenRunning_keepsPanel ?_
  split
  · exact (alarmTimer_move s _ _ _ _).keepsPanel
  · exact .refl s

theorem raiseTimeout_keepsPanel : ResultKeepsPanel s (execRaiseTimeout s) := by
  refine whenRunning_keepsPanel ?_
  split
  · exact .ite ((advanceTo_keepsPanel s _).trans <| (enterState_move _ _ _).keepsPanel.trans <|
      (raiseFault_moved (ps := []) _ _ _).keepsPanel.trans (testTriggers_move _).keepsPanel) (.refl s)
  · exact .refl s

theorem outputUpdate_keepsPanel : ResultKeepsPanel s (execOutputUpdate s) :=
  whenRunning_keepsPanel ((advanceTo_keepsPanel s _).trans (.of_panel_eq rfl))

theorem gap_keepsPanel : ResultKeepsPanel s (execGapExpiry s) := by
  refine whenRunning_keepsPanel ?_
  dsimp only
  split
  · exact (advanceTo_keepsPanel s _).trans ((withCalls_move _ (by decide) _).trans (startTest_move _)).keepsPanel
  · exact .refl s

theorem staffRepeat_keepsPanel : ResultKeepsPanel s (execStaffRepeatExpiry s) := by
  refine whenRunning_keepsPanel ?_
  dsimp only
  split
  · next time _ =>
    have hstopped : Move sequencer (s.advanceTo time)
        ((s.advanceTo time).withCalls { (s.advanceTo time).calls with staffRepeat := none }) :=
      withCalls_move _ (by decide) _
    exact (advanceTo_keepsPanel s time).trans (Move.ite (hstopped.trans (staffBecomesDue_move _)) hstopped).keepsPanel
  · exact .refl s

/-! ### Bays -/

theorem loopSample_keepsPanel (b : Bay) (readings : Vector Byte 32) : ResultKeepsPanel s (execLoopSample b readings s) :=
  whenRunning_keepsPanel <| .ite ((answered_move (ps := [.bays]) s (by decide) b).keepsPanel.trans <|
    (sampleBay_move _ b readings).keepsPanel.trans (react_move _).keepsPanel) (.refl s)

theorem driveDelivery_keepsPanel (b : Bay) (inputs : DriveInputs) : ResultKeepsPanel s (execDriveDelivery b inputs s) :=
  whenRunning_keepsPanel <| .ite ((answered_move (ps := [.bays]) s (by decide) b).keepsPanel.trans
    (curtainDelivery_move _ inputs).keepsPanel) (.refl s)

theorem answered_keepsPanel (b : Bay) (type : ModuleType) :
    ResultKeepsPanel s (whenRunning s fun s => if s.online b type then s.answered b else s) :=
  whenRunning_keepsPanel (.ite (answered_move (ps := [.bays]) s (by decide) b).keepsPanel (.refl s))

theorem bayExchange_keepsPanel (b : Bay) : ResultKeepsPanel s (execBayExchange b s) := by
  refine whenRunning_keepsPanel ?_
  split
  · exact (advanceTo_keepsPanel s _).trans (beginExchange_move _ b _).keepsPanel
  · exact .refl s

theorem exchangeNoAnswer_keepsPanel (b : Bay) : ResultKeepsPanel s (execExchangeNoAnswer b s) :=
  whenRunning_keepsPanel (.ite (unanswered_move s b).keepsPanel (.refl s))

theorem playEvent_keepsPanel (b : Bay) (play : Byte) {event : State → State} (h : ∀ t, Move sequencer t (event t)) :
    ResultKeepsPanel s (whenRunning s fun s => s.playEvent b play event) := by
  have hends : KeepsPanel s (s.playEnds b play) := .of_panel_eq rfl
  exact whenRunning_keepsPanel (.ite (.ite (hends.trans (h _).keepsPanel) hends) (.refl s))

theorem presenceChange_keepsPanel (b : Bay) (presence : Presence) : ResultKeepsPanel s (execPresenceChange b presence s) :=
  whenRunning_keepsPanel (.ite (.refl s) (takePresence_move s b presence).keepsPanel)

theorem debounce_keepsPanel (b : Bay) (sense : ModuleType) : ResultKeepsPanel s (execDebounceExpiry b sense s) := by
  refine whenRunning_keepsPanel ?_
  split
  · exact (advanceTo_keepsPanel s _).trans (debounced_move _ b sense).keepsPanel
  · exact .refl s

theorem readyAnswer_keepsPanel (b : Bay) (type : ModuleType) : ResultKeepsPanel s (execReadyAnswer b type s) :=
  whenRunning_keepsPanel <| .ite (.refl s) <| .ite ((changeBay_move s b _).keepsPanel.trans <|
    (log_move (ps := []) _ _).keepsPanel.trans <| (onlineNotice_move _ b type).keepsPanel.trans
      (beginExchange_move _ b type).keepsPanel) (failBay_move s b _).keepsPanel

theorem readyTimer_keepsPanel (b : Bay) : ResultKeepsPanel s (execReadyTimerExpiry b s) := by
  refine whenRunning_keepsPanel ?_
  split
  · exact (advanceTo_keepsPanel s _).trans (failBay_move _ b _).keepsPanel
  · exact .refl s

theorem overcurrent_keepsPanel (b : Bay) (supply : Supply) : ResultKeepsPanel s (execOvercurrent b supply s) := by
  refine whenRunning_keepsPanel ?_
  split
  · exact (failBay_move s b _).keepsPanel
  · exact (failBay_move s b _).keepsPanel
  · exact .refl s

/-! ### The panel port, supply and RESET -/

/-- R176: an answer clocked out in full may mark the entry that it read. -/
theorem answerComplete_keepsPanel : ResultKeepsPanel s (execAnswerComplete s) := by
  unfold execAnswerComplete
  split
  · next n _ => exact .next ((markRead_keepsPanel s n).trans (transaction_keepsPanel _ none))
  · exact .next (transaction_keepsPanel s none)

/-- The beginnings of a start: with RESET asserted or supply away no start runs. -/
theorem started_keepsPanel (power : Power) (kind : StartKind) (memory : ConfigMemory) (course : StartCourse) :
    ResultKeepsPanel s (.next ((s.withPower power).start kind memory course.presence course.reached)) :=
  .next ((start_keepsPanel (s.withPower power) _ _ _ _).from_panel_eq rfl)

theorem withPower_keepsPanel (power : Power) : ResultKeepsPanel s (.next (s.withPower power)) := .next (.of_panel_eq rfl)

/-! ### Every command -/

theorem exec_keepsPanel (c : Instr) : ResultKeepsPanel s (exec c s) := by
  cases c with
  | frameReceived l frame => exact frameReceived_keepsPanel s l frame
  | arbitrationLost l => exact withLine_keepsPanel s l _
  | frameSent l => exact withLine_keepsPanel s l _
  | lineSilenceTimeout l => exact lineSilence_keepsPanel s l
  | composeSpacingExpiry => exact composeSpacing_keepsPanel s
  | routineComposition => exact routineComposition_keepsPanel s
  | duplicateStationCleared => exact duplicateCleared_keepsPanel s
  | peerSilent station => exact peerSilent_keepsPanel s station
  | endOfJoining => exact endOfJoining_keepsPanel s
  | nodeTimeIncrement => exact nodeTimeIncrement_keepsPanel s
  | intervalMark mark => exact whenDue_keepsPanel s _
  | intervalTimerExpiry => exact whenDue_keepsPanel s _
  | effectsWindowExpiry z => exact whenDue_keepsPanel s _
  | windowCopyExpiry desk z => exact whenDue_keepsPanel s _
  | realarmWindowEnd => exact whenDue_keepsPanel s _
  | proofExpired => exact whenDue_keepsPanel s _
  | ackWindowExpiry => exact ackWindow_keepsPanel s
  | investigationTimeout => exact investigation_keepsPanel s
  | raiseTimeout => exact raiseTimeout_keepsPanel s
  | outputUpdate => exact outputUpdate_keepsPanel s
  | gapExpiry => exact gap_keepsPanel s
  | staffRepeatExpiry => exact staffRepeat_keepsPanel s
  | loopSample b readings => exact loopSample_keepsPanel s b readings
  | driveDelivery b inputs => exact driveDelivery_keepsPanel s b inputs
  | dimmerAcknowledgement b => exact answered_keepsPanel s b .dimmer
  | callExchangeAnswer b => exact answered_keepsPanel s b .call
  | bayExchange b => exact bayExchange_keepsPanel s b
  | exchangeNoAnswer b => exact exchangeNoAnswer_keepsPanel s b
  | playComplete b play => exact playEvent_keepsPanel s b play fun t => bayDone_move t b
  | playerFault b play => exact playEvent_keepsPanel s b play fun t => bayFault_move t b
  | presenceChange b presence => exact presenceChange_keepsPanel s b presence
  | debounceExpiry b sense => exact debounce_keepsPanel s b sense
  | readyAnswer b type => exact readyAnswer_keepsPanel s b type
  | readyTimerExpiry b => exact readyTimer_keepsPanel s b
  | overcurrent b supply => exact overcurrent_keepsPanel s b supply
  | answerComplete => exact answerComplete_keepsPanel s
  | selectReleasedEarly => exact .next (transaction_keepsPanel s _)
  | answerCutShort => exact .next (transaction_keepsPanel s _)
  | unknownRequest => exact .next (transaction_keepsPanel s _)
  | readRecord name => exact .next (transaction_keepsPanel s _)
  | setPhase target minutes => exact operatorRequest_keepsPanel (requestPhase · target _) (requestPhase_move s target _)
  | holdOn => exact operatorRequest_keepsPanel (requestHold · true) (requestHold_move s true)
  | holdOff => exact operatorRequest_keepsPanel (requestHold · false) (requestHold_move s false)
  | ack => exact operatorRequest_keepsPanel requestAck (requestAck_move s)
  | silence => exact operatorRequest_keepsPanel requestSilence (requestSilence_move s)
  | reset => exact operatorRequest_keepsPanel requestReset (requestReset_move s)
  | disable z => exact operatorRequest_keepsPanel (requestDisable · z) (requestDisable_move s z)
  | enable z => exact operatorRequest_keepsPanel (requestEnable · z) (requestEnable_move s z)
  | effectsOpen zones duration => exact operatorRequest_keepsPanel (requestOpen · zones duration) (requestOpen_move s zones duration)
  | effectsClose selection => exact operatorRequest_keepsPanel (requestClose · selection) (requestClose_move s selection)
  | curtainRaise => exact operatorRequest_keepsPanel (requestDemand · (some .raise)) (requestDemand_move s (some .raise))
  | curtainLower => exact operatorRequest_keepsPanel (requestDemand · (some .lower)) (requestDemand_move s (some .lower))
  | curtainStop => exact operatorRequest_keepsPanel (requestDemand · (some .stop)) (requestDemand_move s (some .stop))
  | curtainTest => exact operatorRequest_keepsPanel (requestDemand · (some .test)) (requestDemand_move s (some .test))
  | curtainDrop => exact operatorRequest_keepsPanel (requestDemand · (some .drop)) (requestDemand_move s (some .drop))
  | curtainUnknown => exact operatorRequest_keepsPanel (requestDemand · none) (requestDemand_move s none)
  | lightClaimSet slot group kind level fade =>
    exact operatorRequest_keepsPanel (setClaim · slot group kind _ fade) (setClaim_move s slot group kind _ fade)
  | lightClaimClear selection => exact operatorRequest_keepsPanel (clearClaims · selection) (clearClaims_move s selection)
  | callRequest slot message zones repeats =>
    exact operatorRequest_keepsPanel (requestCall · slot message zones repeats) (requestCall_move s slot message zones repeats)
  | clearSnapshot => exact operatorRequest_keepsPanel requestClearSnapshot (requestClearSnapshot_move s)
  | releaseTrace => exact operatorRequest_keepsPanel requestReleaseTrace (requestReleaseTrace_move s)
  | resetAsserted => exact .next (halt_keepsPanel s _)
  | supplyFall intact => exact .next (halt_keepsPanel s _)
  | powerOn good memory course => exact .ite (withPower_keepsPanel s _) (started_keepsPanel s _ _ memory course)
  | supplyDip retain memory course => exact .ite (withPower_keepsPanel s _) (started_keepsPanel s _ _ memory course)
  | resetReleased retain memory course => exact .ite (started_keepsPanel s _ _ memory course) (withPower_keepsPanel s _)

end

/-- A step is a command, or an idle millisecond in which a start in progress may complete. -/
theorem step_keepsPanel {s t : State} (h : step s = .next t) : KeepsPanel s t := by
  unfold step at h
  split at h
  · obtain rfl := Host.Outcome.next.inj h
    exact (advanceTo_keepsPanel s _).trans (finishStart_keepsPanel _)
  · next c rest _ => exact (exec_keepsPanel (s.withPending rest) c t h).from_panel_eq rfl

/-- Settles O2: every step keeps the panel's laws, the ring among them. -/
theorem everyStepKeepsTheLogRing : Obligations.EveryStepKeepsTheLogRing :=
  fun _ _ hring hstep => (step_keepsPanel hstep).ring hring

/-- Settles O3: every step keeps the panel's laws, the distinct fault keys among them. -/
theorem everyStepKeepsFaultKeysDistinct : Obligations.EveryStepKeepsFaultKeysDistinct :=
  fun _ _ hkeys hstep => (step_keepsPanel hstep).keys hkeys

end Sys2Proof.Machine
end

section
/-!
READING THE PANEL PORT (R170 to R173, R176). How a transaction ends, what is clocked out of it, and which record a kind and
index name.
-/
namespace Sys2Proof.Machine

section
variable (s : State)

/-! ### The end of a transaction (R176) -/

/-- R176: the answer that read the oldest unread entry marks it. -/
theorem endTransaction_of_oldest {n : Half} (h : s.panel.oldestUnread = some n) :
    (s.withPanel (s.panel.markRead n)).endTransaction = s.withPanel { s.panel with
      transaction := none
      log := s.panel.log.map fun e => if e.number = n then { e with read := true } else e } := by
  rw [Panel.markRead, if_pos h]
  rfl

/-- R176: the answer that read another entry marks nothing. -/
theorem endTransaction_of_newer {n : Half} (h : s.panel.oldestUnread ≠ some n) :
    (s.withPanel (s.panel.markRead n)).endTransaction = s.endTransaction := by
  rw [Panel.markRead, if_neg h]
  rfl

theorem oldestUnread_eq_some_iff {p : Panel} {n : Half} :
    p.oldestUnread = some n ↔ ∃ oldest, p.log.find? (fun e => !e.read) = some oldest ∧ oldest.number = n :=
  Option.map_eq_some_iff

theorem execAnswerComplete_of_none (h : s.panel.transaction.bind (·.logEntry) = none) :
    execAnswerComplete s = .next s.endTransaction.concluded := by
  rw [execAnswerComplete, h]

theorem execAnswerComplete_of_entry {n : Half} (h : s.panel.transaction.bind (·.logEntry) = some n) :
    execAnswerComplete s = .next (s.withPanel (s.panel.markRead n)).endTransaction.concluded := by
  rw [execAnswerComplete, h]

/-! ### What is clocked out (R170, R171) -/

theorem portOutput_of_none (h : s.panel.transaction = none) (n : Nat) : s.portOutput n = .idle 255 := by
  rw [State.portOutput, h]
  rfl

theorem portOutput_of_some {answer : Transaction} (h : s.panel.transaction = some answer) (n : Nat) :
    s.portOutput n = (answer.items[n]?).getD (.idle 255) := by
  rw [State.portOutput, h]
  rfl

/-- The header and the body are five items; after them the port idles. -/
theorem portOutput_after {answer : Transaction} (h : s.panel.transaction = some answer) {n : Nat} (hn : 5 ≤ n) :
    s.portOutput n = .idle 255 := by
  have hitems : answer.items.length ≤ n := hn
  rw [portOutput_of_some s h, List.getElem?_eq_none hitems]
  rfl

/-! ### Requests that reach no owner (R171) -/

theorem servesRequests_of_unserved (h : s.station.standing = .starting ∨ s.station.standing = .unconfigured) :
    s.servesRequests = false := by
  unfold State.servesRequests
  rcases h with e | e <;> rw [e]

/-- R171: an operator request that its owner is not handed is BAD_REQUEST, whatever it asks. -/
theorem exec_of_unserved {c : Instr} (hc : isRequest c = true) (h : s.servesRequests = false) :
    exec c s = .next (s.judged (.request { code := .badRequest }) none).concluded := by
  cases c with
  | setPhase _ _ | holdOn | holdOff | ack | silence | reset | disable _ | enable _ | effectsOpen _ _ | effectsClose _
  | curtainRaise | curtainLower | curtainStop | curtainTest | curtainDrop | curtainUnknown | lightClaimSet _ _ _ _ _
  | lightClaimClear _ | callRequest _ _ _ _ | clearSnapshot | releaseTrace => exact if_neg (Bool.eq_false_iff.mp h)
  | _ => exact Bool.noConfusion hc

end

/-- Settles O57: each event of the port ends in a conclusion, and what is clocked out is read off the items of the answer. -/
theorem transactionsEndAtThePort : Obligations.TransactionsEndAtThePort := by
  intro s ends ended
  refine ⟨rfl, rfl, fun hnone => ?_, fun n hentry => ⟨fun holdest => ?_, fun hnewer => ?_⟩, rfl, fun _ _ => rfl,
    portOutput_of_none s, fun answer hanswer => ?_, fun hstanding c hc => ?_⟩
  · exact execAnswerComplete_of_none s hnone
  · change execAnswerComplete s = _
    rw [execAnswerComplete_of_entry s hentry, endTransaction_of_oldest s (oldestUnread_eq_some_iff.mpr holdest)]
    rfl
  · change execAnswerComplete s = _
    have hne : s.panel.oldestUnread ≠ some n := fun h => by
      obtain ⟨oldest, hfound, hnumber⟩ := oldestUnread_eq_some_iff.mp h
      exact hnewer oldest hfound hnumber
    rw [execAnswerComplete_of_entry s hentry, endTransaction_of_newer s hne]
    rfl
  · have houtput := portOutput_of_some s hanswer
    refine ⟨houtput 0, houtput 2, houtput 3, houtput 4, fun n => portOutput_after s hanswer, fun given hbody => ?_,
      fun record hbody => ?_, fun hbody => ?_⟩
    · rw [houtput, Transaction.items, hbody]; rfl
    · rw [houtput, Transaction.items, hbody]; rfl
    · rw [houtput, Transaction.items, hbody]; rfl
  · exact exec_of_unserved s hc (servesRequests_of_unserved s hstanding)

/-! ### The records (R173) -/

section
variable (s : State)

theorem peer_isSome_iff (n : Nat) : (s.peer n).isSome ↔ ∃ r ∈ s.peers.records, r.station = n := by
  rw [State.peer, List.find?_isSome]
  simp only [beq_iff_eq]

/-- A record of a list is present at the positions of the list. -/
theorem getElem?_map_isSome_iff {α : Type} (xs : List α) (n : Nat) (f : α → Record) :
    ((xs[n]?).map f).isSome ↔ n < xs.length := by
  rw [Option.isSome_map, isSome_getElem?]

theorem zoneInRange_iff {z : Nat} : zoneInRange z = true ↔ 1 ≤ z ∧ z ≤ 64 := by
  rw [zoneInRange, Bool.and_eq_true, decide_eq_true_iff, decide_eq_true_iff]

theorem bayOfNumber_isSome_iff (n : Nat) : (bayOfNumber n).isSome ↔ 1 ≤ n ∧ n ≤ 4 := by
  unfold bayOfNumber
  split
  · decide
  · decide
  · decide
  · decide
  next h1 h2 h3 h4 =>
    have h1 : n ≠ 1 := h1
    have h2 : n ≠ 2 := h2
    have h3 : n ≠ 3 := h3
    have h4 : n ≠ 4 := h4
    exact iff_of_false nofun (by omega)

theorem showsCurtain_iff : s.showsCurtain = true ↔ s.roles.curtain = true ∨ s.station.standing = .unconfigured := by
  rw [State.showsCurtain, Bool.or_eq_true, beq_iff_eq]

/-- R176: the oldest unread entry is there while the unread count is above 0. -/
theorem nextUnread_isSome_iff : (s.panel.entryAt .nextUnread).isSome ↔ 0 < s.unread := by
  rw [Panel.entryAt, List.find?_isSome, State.unread, List.length_pos_iff_exists_mem]
  simp only [List.mem_filter]

theorem traceRecord_isSome_iff (n : Nat) :
    (s.traceRecord n).isSome ↔ ∃ t, s.descent.trace = some t ∧ n < t.samples.length := by
  unfold State.traceRecord
  cases s.descent.trace with
  | none => simp
  | some t => simp

/-- R128: a station that holds LIGHTS has a record of each group. -/
theorem groupRecord_isSome_iff (g : Nat) (h : s.lights.groups.length = 16) :
    (s.groupRecord g).isSome ↔ s.roles.lights = true ∧ 1 ≤ g ∧ g ≤ 16 := by
  unfold State.groupRecord
  split
  next hheld =>
    obtain ⟨hlights, hg⟩ := Bool.and_eq_true_iff.mp hheld
    have hlow : 1 ≤ g := of_decide_eq_true hg
    rw [getElem?_map_isSome_iff, h]
    refine ⟨fun hlt => ⟨hlights, hlow, by omega⟩, fun hheld => by omega⟩
  next hheld =>
    refine iff_of_false nofun ?_
    rintro ⟨hlights, hlow, -⟩
    apply hheld
    rw [hlights, decide_eq_true hlow]
    rfl

theorem countersRecord_isSome_iff (n : Nat) :
    (s.countersRecord n).isSome ↔ n = 0 ∨ ∃ r ∈ s.peers.records, r.station = n := by
  unfold State.countersRecord
  split
  · next h => exact iff_of_true rfl (.inl h)
  · next h => rw [Option.isSome_map, peer_isSome_iff, or_iff_right h]

/-- A record that is there under a condition. -/
theorem isSome_ite_iff {c : Prop} [Decidable c] (x : Option Record) :
    (if c then x else none).isSome ↔ c ∧ x.isSome := by
  split
  · next h => rw [and_iff_right h]
  · next h => exact iff_of_false nofun fun hx => h hx.1

end

/-- Settles O58: the answer is read off the record that the kind and index name, and each kind has its own index law. -/
theorem readRecordShowsWithoutChange : Obligations.ReadRecordShowsWithoutChange := by
  intro s ends
  have hanswer (name : RecordName) (h : s.station.standing ≠ .starting) :
      ends (.readRecord name) (s.judged (bodyOf (s.recordOf name)) (entryRead (s.recordOf name))) := by
    change execReadRecord name s = _
    rw [execReadRecord, if_neg h]
    rfl
  have hstarting (name : RecordName) (h : s.station.standing = .starting) :
      ends (.readRecord name) (s.judged .notPresent none) := by
    change execReadRecord name s = _
    rw [execReadRecord, if_pos h]
    rfl
  have hpresent {α : Type} (x : Option α) (f : α → Record) : (x.map f).isSome ↔ x.isSome :=
    Bool.eq_iff_iff.mp Option.isSome_map
  exact ⟨hanswer, hstarting,
    fun n => Option.isSome_ite,
    fun n => (hpresent _ _).trans (peer_isSome_iff s n),
    fun z => Option.isSome_ite.trans zoneInRange_iff,
    fun n => getElem?_map_isSome_iff _ n _,
    fun n => (isSome_ite_iff _).trans (and_congr_right fun _ => hpresent _ _),
    fun n => Option.isSome_ite.trans (and_congr_right fun _ => showsCurtain_iff s),
    fun hshown =>
      ⟨s.descent.items, if_pos ⟨rfl, (showsCurtain_iff s).mpr hshown⟩, rfl, rfl, rfl, rfl, rfl, rfl, rfl⟩,
    traceRecord_isSome_iff s,
    groupRecord_isSome_iff s,
    fun n => (isSome_ite_iff _).trans (and_congr_right fun _ => getElem?_map_isSome_iff _ n _),
    fun n => (hpresent _ _).trans (bayOfNumber_isSome_iff n),
    fun n => getElem?_map_isSome_iff _ n _,
    fun n => getElem?_map_isSome_iff _ n _,
    (hpresent _ _).trans (nextUnread_isSome_iff s),
    countersRecord_isSome_iff s,
    rfl⟩

end Sys2Proof.Machine
end

section
/-!
RESET (R182, R183). What the station holds in reset, and what it does not take there (O60).
-/
namespace Sys2Proof.Machine

section
variable (s : State)

/-- R182: in reset, with no start in progress, ATTN is released. -/
theorem halt_attn {power : Power} (h : power.start = none) : (s.halt power).attn = false := by
  refine attn_released ?_
  change (false || power.start.any _) = false
  rw [h]
  rfl

theorem halt_bay (power : Power) (b : Bay) : (s.halt power).bay b = emptyBay := by cases b <;> rfl

theorem halt_line (power : Power) (l : Line) : (s.halt power).line l = (s.line l).halt := by cases l <;> rfl

/-- Of the events of lines, timers and bays a station in reset takes none (log entry 5). -/
theorem exec_ownEvent_of_reset (h : s.power.running = false) {c : Instr} (hc : isOwnEvent c = true) : exec c s = .next s := by
  have hreset : ¬ s.power.running = true := Bool.eq_false_iff.mp h
  cases c with
  | frameReceived _ _ | arbitrationLost _ | frameSent _ | lineSilenceTimeout _ | composeSpacingExpiry | routineComposition
  | duplicateStationCleared | peerSilent _ | endOfJoining | intervalMark _ | intervalTimerExpiry | loopSample _ _
  | effectsWindowExpiry _ | windowCopyExpiry _ _ | ackWindowExpiry | investigationTimeout | realarmWindowEnd
  | driveDelivery _ _ | raiseTimeout | proofExpired | outputUpdate | bayExchange _ | dimmerAcknowledgement _
  | exchangeNoAnswer _ | playComplete _ _ | playerFault _ _ | gapExpiry | staffRepeatExpiry | presenceChange _ _
  | debounceExpiry _ _ | readyAnswer _ _ | readyTimerExpiry _ | overcurrent _ _ | callExchangeAnswer _ => exact if_neg hreset
  | _ => exact Bool.noConfusion hc

end

/-- Settles O60: both events halt the station with no start in progress, and differ in the power that they note. -/
theorem resetHoldsTheStation : Obligations.ResetHoldsTheStation := by
  intro s held
  have hhalt (power : Power) (h : power.start = none) : held (s.halt power) :=
    ⟨rfl, h, halt_attn s h, rfl, fun b => by rw [halt_bay]; exact ⟨rfl, rfl⟩,
      fun l => by rw [halt_line]; exact ⟨rfl, rfl, rfl⟩, rfl, rfl, rfl, rfl, rfl, rfl, rfl, rfl, rfl, rfl, rfl, rfl⟩
  exact ⟨⟨_, rfl, hhalt _ rfl, rfl, rfl⟩, fun intact => ⟨_, rfl, hhalt _ rfl, rfl, rfl⟩,
    fun hreset c hc => exec_ownEvent_of_reset s hreset hc⟩

end Sys2Proof.Machine
end

section
/-!
A STEP (R20, R184, R185). The idle millisecond, and the start that it may complete (O1).
-/
namespace Sys2Proof.Machine

section
variable (s : State)

/-! ### An idle millisecond (log entry 3) -/

theorem step_of_empty (h : s.pending = []) : step s = .next s.tick.finishStart := by
  rw [step, h]

theorem tick_eq : s.tick = (s.withClock { s.clock with now := s.clock.now + 1 }).withLines
    ⟨s.lines.a.afterPrecedence, s.lines.b.afterPrecedence⟩ := if_pos (Nat.lt_succ_self _)

/-- R20: a contention not lost by the end of the precedence byte is won. -/
theorem tick_line (l : Line) : s.tick.line l = { s.line l with
    transmitter := if (s.line l).transmitter = .contending then .sending else (s.line l).transmitter } := by
  rw [tick_eq, ← afterPrecedence_eq]
  cases l <;> rfl

/-! ### A start that completes (R185, log entry 92) -/

/-- The steps of a start take no time, and leave the commands that wait. -/
theorem makeStep_pending_now (p : StartProgress) (step : StartStep) :
    (State.makeStep p s step).pending = s.pending ∧ (State.makeStep p s step).clock.now = s.clock.now := by
  cases step with
  | recordsSet =>
    obtain ⟨kind, memory, presence, last⟩ := p
    cases kind <;> exact ⟨rfl, rfl⟩
  | valuesTaken =>
    have hvalues := takeValues_move s p.presence
    exact ⟨hvalues.pending (by decide), congrArg Clock.now (hvalues.clock (by decide))⟩
  | _ => exact ⟨rfl, rfl⟩

theorem makeSteps_pending_now (p : StartProgress) (steps : List StartStep) :
    (s.makeSteps p steps).pending = s.pending ∧ (s.makeSteps p steps).clock.now = s.clock.now := by
  induction steps generalizing s with
  | nil => exact ⟨rfl, rfl⟩
  | cons step rest ih =>
    obtain ⟨hpending, hnow⟩ := makeStep_pending_now s p step
    obtain ⟨hpending', hnow'⟩ := ih (State.makeStep p s step)
    exact ⟨hpending'.trans hpending, hnow'.trans hnow⟩

/-- R185: a start in progress that nothing abandons takes the station out of reset, with a standing by its image. -/
theorem finishStart_completes (h : s.power.start ≠ none) :
    s.finishStart.pending = s.pending ∧ s.finishStart.clock.now = s.clock.now ∧ s.finishStart.power.running = true ∧
      s.finishStart.power.start = none ∧
      s.finishStart.station.standing =
        if s.finishStart.station.config.failure = none then .joining else .unconfigured := by
  obtain ⟨p, hp⟩ := Option.ne_none_iff_exists'.mp h
  have heq : s.finishStart = (s.makeSteps p (laterSteps.drop (p.step.number - 1))).completeStart := by
    rw [State.finishStart, hp]
  obtain ⟨hpending, hnow⟩ := makeSteps_pending_now s p (laterSteps.drop (p.step.number - 1))
  have hcompletion := completeStart_completion (s.makeSteps p (laterSteps.drop (p.step.number - 1)))
  rw [← heq] at hcompletion
  have hqueue : _ = (s.makeSteps p _).pending := hcompletion.within .pending (by decide)
  have hclock : _ = (s.makeSteps p _).clock := hcompletion.within .clock (by decide)
  refine ⟨hqueue.trans hpending, (congrArg Clock.now hclock).trans hnow, ?_, ?_, ?_⟩
  · rw [hcompletion.power]
  · rw [hcompletion.power]
  · rw [hcompletion.station]
    simp only [State.configured, Option.isNone_iff_eq_none]

end

/-- Settles O1: the first command of the queue is its own case of a step, and an empty queue idles, with a start in progress
or without. -/
theorem stepRunsTheFrontCommandOrIdles : Obligations.StepRunsTheFrontCommandOrIdles := by
  refine ⟨fun c rest s => rfl, fun s hempty => ⟨fun hstart => ?_, fun hstart => ?_⟩⟩
  · have hidle : s.tick.finishStart = s.tick := finishStart_of_none (by rw [tick_eq]; exact hstart)
    refine ⟨s.tick, by rw [step_of_empty s hempty, hidle], by rw [tick_eq]; rfl, by rw [tick_eq]; rfl, tick_line s⟩
  · obtain ⟨hpending, hnow, hrunning, hnone, hstanding⟩ := finishStart_completes s.tick (by rw [tick_eq]; exact hstart)
    refine ⟨s.tick.finishStart, step_of_empty s hempty, hpending.trans ?_, hnow.trans ?_, hrunning, hnone, hstanding⟩
    · rw [tick_eq]; exact hempty
    · rw [tick_eq]; rfl

end Sys2Proof.Machine
end
